-- ==== Sys2Proof/Word.lean ====
section
/-! DEFINITION. Bytes, the four-fold families of heads and axes, and the manual's plainest arithmetic. -/

namespace Sys2Proof

/-- One byte of a message, a tone, or a byte of the track store. -/
abbrev Byte := BitVec 8

/-- Heads are numbered H0 to H3, and axis k carries head k (00_scope.md, section 5.2). -/
abbrev HeadId := Fin 4

/-- One thing for each of the four heads, axes or group-of-four sources. -/
structure Quad (α : Type) where
  v0 : α
  v1 : α
  v2 : α
  v3 : α
  deriving DecidableEq, Repr

variable {α β : Type}

/-- The member that belongs to head or axis `h`. -/
def Quad.get (q : Quad α) (h : HeadId) : α :=
  match h.val with
  | 0 => q.v0
  | 1 => q.v1
  | 2 => q.v2
  | _ => q.v3

/-- The same family with the member of `h` replaced. -/
def Quad.set (q : Quad α) (h : HeadId) (x : α) : Quad α :=
  match h.val with
  | 0 => { q with v0 := x }
  | 1 => { q with v1 := x }
  | 2 => { q with v2 := x }
  | _ => { q with v3 := x }

/-- The family whose four members are the same. -/
def Quad.all (x : α) : Quad α := ⟨x, x, x, x⟩

/-- The family with a change applied to each member. -/
def Quad.map (q : Quad α) (f : α → β) : Quad β := ⟨f q.v0, f q.v1, f q.v2, f q.v3⟩

/-- The four heads in ascending order. -/
def heads4 : List HeadId := [0, 1, 2, 3]

/-- Values of the 1 MHz timestamp and of the revolution counter wrap at 2^32 (R4, R9). -/
def wrap32 (n : Nat) : Nat := n % 4294967296

/-- A counter that stops at its upper end and is not increased further (R45, R125, R154, R163, R168). -/
def countUp (cap n : Nat) : Nat := min cap (n + 1)

/-- `ceil(a / b)` of the manual. -/
def ceilDiv (a b : Nat) : Nat := (a + b - 1) / b

/-- "clamp to [lo, hi]" of 00_scope.md, section 5.1. -/
def clampTo (lo hi n : Nat) : Nat := max lo (min hi n)

end Sys2Proof
end

