-- ==== Sys2Proof/Config.lean ====
section
/-! DEFINITION. The fixed sizes of the Ilvaro 4E card, and the values the manual leaves open. -/

namespace Sys2Proof.Config

/-- Tone bytes in one page of the track store (R47). -/
def pageBytes : Nat := 1024

/-- Pages of the track store, numbered 0 to 65535 (R47). -/
def pageCount : Nat := 65536

/-- Descriptors of the pool (R50). -/
def descriptorCount : Nat := 4096

/-- Descriptors one head's queue may hold (R51). -/
def queueLimit : Nat := 1024

/-- FILLING descriptors one head's queue may hold (R51). -/
def fillingLimit : Nat := 2

/-- Requests the inbound list may hold (R164). -/
def inboundLimit : Nat := 8

/-- Replies the outbound list may hold (R164). -/
def outboundLimit : Nat := 16

/-- Result records a head's list may hold (R145). -/
def resultLimit : Nat := 4

/-- Angle units of one revolution (00_scope.md, section 5.3). -/
def revolution : Nat := 65536

/-- FREE VALUE. The level an analog channel shows at a conversion's completion, when no
CONVERSION_COMPLETE command has brought one: applied to the slot and the time of completion
(R148; notes/assumptions/6.md). -/
opaque analogInput : Nat → Nat → BitVec 12

/-- FREE VALUE. `floor(N × 1,000,000 / p)` for a last period p of 0 µs, which R31 gives no value:
applied to N (notes/assumptions/12.md). -/
opaque cellRateAtZeroPeriod : Nat → Nat

/-- FREE VALUE. The code of a descriptor's state in a TRACK reply: section 11.3 lists none. Applied to
whether the descriptor is COMPLETE (notes/assumptions/18.md). -/
opaque descriptorStateCode : Bool → Byte

end Sys2Proof.Config
end

