-- ==== Sys2Proof/Syntax.lean ====
section
/-! DEFINITION. The commands of the card: one constructor for each row of spec/opcode_table.json. -/

namespace Sys2Proof

/-- The two edges of the encoder's index input (R3). -/
inductive IndexEdge where
  | rising
  | falling
  deriving DecidableEq, Repr

/-- One command: an event on a machine line or timer, an event of the job link, or a request handed to its
owner. A request carries its tag and its payload bytes as they came (R160, section 11.5); an event of a head
or axis names it. -/
inductive Instr where
  /-- POWER_ON (R173): every block takes its reset state. -/
  | powerOn
  /-- COUNT_EVENT (R1): an encoder count, forward or reverse. -/
  | countEvent (forward : Bool)
  /-- INDEX_EVENT (R3): an edge of the index input. -/
  | indexEvent (edge : IndexEdge)
  /-- STOPPED_TIMEOUT (R2): the stopped timer reaches 50,000 µs. -/
  | stoppedTimeout
  /-- READY_LINE_CHANGE (R14): the raw machine-ready line takes a level. -/
  | readyLineChange (level : Bool)
  /-- READY_DEBOUNCE_EXPIRY (R14): the ready debounce timer reaches 10,000 µs. -/
  | readyDebounceExpiry
  /-- FRAME_RECEIVED (R162): the receiver takes the bytes of an inbound frame, or of a part of one. -/
  | frameReceived (bytes : List Byte)
  /-- STALL_TIMEOUT (R162): the stall timer reaches 5,000 µs inside a frame. -/
  | stallTimeout
  /-- FRAME_SENT (R167): the transmitter finishes a frame and chooses the next. -/
  | frameSent
  /-- MODULE_RESET_EFFECT (R172): the MODULE_RESET reply has been sent whole. -/
  | moduleResetEffect
  /-- UNKNOWN_KIND_REQUEST (R165): a handed request whose kind names no request. -/
  | unknownKindRequest (kind tag : Byte) (payload : List Byte)
  /-- SET_MACHINE (R15, R107). -/
  | setMachine (tag : Byte) (payload : List Byte)
  /-- GET_CYLINDER (R16). -/
  | getCylinder (tag : Byte) (payload : List Byte)
  /-- SET_SCREEN (R19 to R21). -/
  | setScreen (tag : Byte) (payload : List Byte)
  /-- SET_CURVE (R34 to R36). -/
  | setCurve (tag : Byte) (payload : List Byte)
  /-- SET_PATCH (R82). -/
  | setPatch (tag : Byte) (payload : List Byte)
  /-- TRACK (R52 to R57). -/
  | track (tag : Byte) (payload : List Byte)
  /-- DROP_TRACKS (R62). -/
  | dropTracks (tag : Byte) (payload : List Byte)
  /-- STORE_CLEAR (R63). -/
  | storeClear (tag : Byte) (payload : List Byte)
  /-- GET_STORE (R67). -/
  | getStore (tag : Byte) (payload : List Byte)
  /-- SET_HEAD (R101, R102, R38). -/
  | setHead (tag : Byte) (payload : List Byte)
  /-- HEAD_CLEAR (R100, R158). -/
  | headClear (tag : Byte) (payload : List Byte)
  /-- GET_HEAD (R103). -/
  | getHead (tag : Byte) (payload : List Byte)
  /-- SET_AXIS (R106). -/
  | setAxis (tag : Byte) (payload : List Byte)
  /-- HOME (R110). -/
  | home (tag : Byte) (payload : List Byte)
  /-- SEEK (R112). -/
  | seek (tag : Byte) (payload : List Byte)
  /-- AXIS_HALT (R113). -/
  | axisHalt (tag : Byte) (payload : List Byte)
  /-- GET_AXIS (R123). -/
  | getAxis (tag : Byte) (payload : List Byte)
  /-- ENGRAVE (R126 to R129). -/
  | engrave (tag : Byte) (payload : List Byte)
  /-- STOP_BAND (R137). -/
  | stopBand (tag : Byte) (payload : List Byte)
  /-- ABORT_BAND (R138). -/
  | abortBand (tag : Byte) (payload : List Byte)
  /-- READ_RESULT (R145). -/
  | readResult (tag : Byte) (payload : List Byte)
  /-- SET_MONITOR (R150). -/
  | setMonitor (tag : Byte) (payload : List Byte)
  /-- MONITOR_RUN (R151). -/
  | monitorRun (tag : Byte) (payload : List Byte)
  /-- MONITOR_HALT (R153). -/
  | monitorHalt (tag : Byte) (payload : List Byte)
  /-- ALARM_ACK (R157). -/
  | alarmAck (tag : Byte) (payload : List Byte)
  /-- GET_MONITOR (R159). -/
  | getMonitor (tag : Byte) (payload : List Byte)
  /-- SET_NOTICE (R170). -/
  | setNotice (tag : Byte) (payload : List Byte)
  /-- GET_STATUS (R171). -/
  | getStatus (tag : Byte) (payload : List Byte)
  /-- MODULE_RESET (R172). -/
  | moduleReset (tag : Byte) (payload : List Byte)
  /-- RAMP_UPDATE (R87 to R89): the update time of a head's ramp. -/
  | rampUpdate (head : HeadId)
  /-- SETTLE_EXPIRY (R94): a head's settle timer expires. -/
  | settleExpiry (head : HeadId)
  /-- DWELL_EXPIRY (R95): a head's dwell timer expires. -/
  | dwellExpiry (head : HeadId)
  /-- MOVE_STEP (R105): the next step of an axis move falls due. -/
  | moveStep (axis : HeadId)
  /-- HOME_SENSOR_ACTIVE (R111): an axis's home sensor input takes a level; `true` is active. -/
  | homeSensorActive (axis : HeadId) (level : Bool)
  /-- LIMIT_SWITCH_ACTIVE (R114): an axis's limit switch input takes a level; `true` is active. -/
  | limitSwitchActive (axis : HeadId) (level : Bool)
  /-- COPY_COMPLETE (R76): the copy in flight reaches its completion time. -/
  | copyComplete
  /-- PATCH_FILL_COMPLETE (R83): a head's patch fill ends. -/
  | patchFillComplete (head : HeadId)
  /-- CONVERSION_COMPLETE (R152): the conversion in flight completes with the channel's value. -/
  | conversionComplete (value : BitVec 12)
  deriving DecidableEq, Repr

end Sys2Proof
end

