-- ==== Sys2Proof/WellFormed.lean ====
section
/-! DEFINITION. Which commands the job link and the machine lines can bring: payloads and frames of a length
the link admits (R160), and an UNKNOWN_KIND_REQUEST whose kind names no request (R165, section 11.2). -/

namespace Sys2Proof

/-- The longest payload of a frame: LEN is at most 4,108 and counts KIND and TAG (R160). -/
def payloadMax : Nat := 4106

/-- The longest frame, SYNC to CHECK (R160). -/
def frameMax : Nat := 4113

/-- The kind codes of section 11.2 that name a request. -/
def requestKinds : List Byte :=
  [0x01, 0x02, 0x03, 0x04, 0x05, 0x06, 0x07, 0x08, 0x10, 0x11, 0x12,
   0x20, 0x21, 0x22, 0x23, 0x24, 0x25, 0x26, 0x27, 0x28, 0x29, 0x2A,
   0x30, 0x31, 0x32, 0x33, 0x34, 0x35, 0x36]

/-- A frame's payload has a length the link admits. -/
def payloadFits (payload : List Byte) : Bool := payload.length ≤ payloadMax

/-- The bytes of FRAME_RECEIVED are at least one and at most a whole frame. -/
def frameFits (bytes : List Byte) : Bool := 1 ≤ bytes.length && bytes.length ≤ frameMax

/-- A command the card's surroundings can bring. -/
def Instr.wellFormed : Instr → Bool
  | .powerOn => true
  | .countEvent _ => true
  | .indexEvent _ => true
  | .stoppedTimeout => true
  | .readyLineChange _ => true
  | .readyDebounceExpiry => true
  | .frameReceived bytes => frameFits bytes
  | .stallTimeout => true
  | .frameSent => true
  | .moduleResetEffect => true
  | .unknownKindRequest kind _ p => !requestKinds.contains kind && payloadFits p
  | .setMachine _ p => payloadFits p
  | .getCylinder _ p => payloadFits p
  | .setScreen _ p => payloadFits p
  | .setCurve _ p => payloadFits p
  | .setPatch _ p => payloadFits p
  | .track _ p => payloadFits p
  | .dropTracks _ p => payloadFits p
  | .storeClear _ p => payloadFits p
  | .getStore _ p => payloadFits p
  | .setHead _ p => payloadFits p
  | .headClear _ p => payloadFits p
  | .getHead _ p => payloadFits p
  | .setAxis _ p => payloadFits p
  | .home _ p => payloadFits p
  | .seek _ p => payloadFits p
  | .axisHalt _ p => payloadFits p
  | .getAxis _ p => payloadFits p
  | .engrave _ p => payloadFits p
  | .stopBand _ p => payloadFits p
  | .abortBand _ p => payloadFits p
  | .readResult _ p => payloadFits p
  | .setMonitor _ p => payloadFits p
  | .monitorRun _ p => payloadFits p
  | .monitorHalt _ p => payloadFits p
  | .alarmAck _ p => payloadFits p
  | .getMonitor _ p => payloadFits p
  | .setNotice _ p => payloadFits p
  | .getStatus _ p => payloadFits p
  | .moduleReset _ p => payloadFits p
  | .rampUpdate _ => true
  | .settleExpiry _ => true
  | .dwellExpiry _ => true
  | .moveStep _ => true
  | .homeSensorActive _ _ => true
  | .limitSwitchActive _ _ => true
  | .copyComplete => true
  | .patchFillComplete _ => true
  | .conversionComplete _ => true

end Sys2Proof
end

