-- ==== Sys2Proof/Machine/State.lean ====
section
/-! DEFINITION. Every piece of state the manual gives the card, as plain data, and the state after reset. -/

namespace Sys2Proof.Machine

/-! ### Values of enumerated fields (section 11.3) -/

/-- Timing state of the cylinder (section 1.1). -/
inductive TimingState where
  | stopped
  | unsynced
  | synced
  deriving DecidableEq, Repr

/-- The events a CYLINDER posting names (R8). The first four are the timing faults. -/
inductive CylEvent where
  | indexSlip
  | indexMissing
  | direction
  | stopped
  | speedLost
  | speedRegained
  | readyLost
  | readyGained
  deriving DecidableEq, Repr

/-- Kind of a stored track (R49); `again` is the manual's REPEAT. -/
inductive TrackKind where
  | data
  | blank
  | again
  deriving DecidableEq, Repr

/-- Kind of a line buffer's track (R69); `again` is the manual's REPEAT. -/
inductive BufferKind where
  | data
  | blank
  | again
  | patch
  deriving DecidableEq, Repr

/-- Source of a band's tracks (R125). -/
inductive Source where
  | store
  | patch
  deriving DecidableEq, Repr

/-- Carriage feed of a band (R125). -/
inductive Feed where
  | stepped
  | helical
  deriving DecidableEq, Repr

/-- Ramp shape of a head (section 6.3). -/
inductive Shape where
  | linear
  | sine
  deriving DecidableEq, Repr

/-- Phase of a band (R125). -/
inductive Phase where
  | pending
  | positioning
  | engaging
  | waitSync
  | cutting
  | suspended
  deriving DecidableEq, Repr

/-- State of a head (section 6.1). -/
inductive HeadState where
  | parked
  | engaging
  | settling
  | ready
  | cutting
  | retracting
  deriving DecidableEq, Repr

/-- State of an axis (section 7.1). -/
inductive AxisState where
  | unhomed
  | homing
  | idle
  | seeking
  | feeding
  deriving DecidableEq, Repr

/-- Cause of an axis's last loss of homing (section 7.1). -/
inductive AxisFault where
  | none
  | homeNotFound
  | limitSwitch
  | readyLost
  deriving DecidableEq, Repr

/-- The events an AXIS posting names (R116). -/
inductive AxisEvent where
  | homed
  | homeNotFound
  | arrived
  | limitSwitch
  deriving DecidableEq, Repr

/-- Stage of a feed context (R118). -/
inductive Stage where
  | positioning
  | hold
  | move
  deriving DecidableEq, Repr

/-- Class of a result record (R144). -/
inductive ResultClass where
  | complete
  | ended
  | aborted
  deriving DecidableEq, Repr

/-- Cause of a result record (R144). -/
inductive Cause where
  | none
  | stopRequest
  | cancelled
  | abortRequest
  | underrun
  | suspendLimit
  | missingTrack
  | trackLength
  | feedLate
  | speedFault
  | timingFault
  | alarm
  | axisFault
  | machineNotReady
  | activation
  | precedingAbort
  deriving DecidableEq, Repr

/-- Statuses of a reply (R166). -/
inductive Status where
  | ok
  | clamped
  | busy
  | refused
  | unknownKind
  | badLength
  | badField
  | queueFull
  deriving DecidableEq, Repr

/-- Reasons of a REFUSED reply (R166). -/
inductive Reason where
  | notFitted
  | notReady
  | inhibited
  | unreadResults
  | notHomed
  | range
  | collision
  | notSynced
  | feedTooSlow
  | storeFull
  | queueLimit
  | fillingLimit
  | stale
  | order
  | mismatch
  | cellRate
  | duplicate
  | noBand
  | noResult
  | stillActive
  | notClear
  | headEngaged
  | bandOwned
  | speed
  deriving DecidableEq, Repr

/-- Clamp mark of a depth-table entry (R41). -/
inductive ClampMark where
  | none
  | low
  | high
  deriving DecidableEq, Repr

/-- Mode of the Monitor Sequencer (R149). -/
inductive MonitorMode where
  | halted
  | single
  | continuous
  deriving DecidableEq, Repr

/-- Action of a monitor slot's alarm (R149). -/
inductive AlarmAction where
  | none
  | notify
  | retract
  | retractFast
  deriving DecidableEq, Repr

/-- Kind of the last frame error (R163). -/
inductive FrameError where
  | badLen
  | badCheck
  | stall
  | overrun
  deriving DecidableEq, Repr

/-- Cause detail of a result record (R144): a timing fault's kind, a slot number, or a failed check's reason. -/
inductive CauseDetail where
  | timing (event : CylEvent)
  | slot (number : Nat)
  | reason (reason : Reason)
  deriving DecidableEq, Repr

/-! ### Memory -/

/-- An addressed store of bytes: the listed cells, by strictly rising address, none of them 0. An address that is
not listed reads as 0 (notes/assumptions/8.md). The track store's DRAM has address `page × 1024 + byte` (R47, R49);
a line buffer's tone cells have addresses 0 to 16383 (R69). -/
abbrev Memory := List Host.Cell

/-! ### The machine lines the card reads -/

/-- Levels of the card's inputs: the raw machine-ready line (R14), and each axis's home sensor and limit switch
(R123). They are driven from outside, and no reset changes them. -/
structure Pins where
  readyLine : Bool
  homeSensor : Quad Bool
  limitSwitch : Quad Bool
  deriving DecidableEq, Repr

/-! ### Cylinder Timing Unit (sections 1.1 and 1.8) -/

/-- The machine settings of section 1.8; MINSEP belongs to the axes and F to every block. -/
structure MachineSettings where
  fitted : Nat
  minsep : Nat
  indexEdge : IndexEdge
  indexTol : Nat
  nominalPeriod : Nat
  periodTol : Nat
  reportRevs : Nat
  deriving DecidableEq, Repr

/-- The settings that wait for a count, as they act now: heads fitted F (R15), and each head's start angle (R12, R102).
A count takes up those written by SET_MACHINE and SET_HEAD since the last one. -/
structure Acting where
  fitted : Nat
  startAngles : Quad Nat
  deriving DecidableEq, Repr

/-- What the CTU holds (section 1.1). -/
structure Ctu where
  angle : Nat
  elapsed : Int
  timing : TimingState
  streak : Nat
  indexTime : Nat
  lastPeriod : Option Nat
  speedOk : Bool
  revs : Nat
  countdown : Nat
  stoppedTimer : Nat
  ready : Bool
  debounce : Nat
  acting : Acting
  deriving DecidableEq, Repr

/-! ### Screen and Curve Tables -/

/-- A screen entry (section 2.1); N = 0 marks it undefined. -/
structure Screen where
  n : Nat
  gap : Nat
  stagger : Nat
  pitch : Nat
  deriving DecidableEq, Repr

/-- One pair of a patch record (R81): a tone and a run of cells. -/
structure PatchPair where
  tone : Byte
  run : Nat
  deriving DecidableEq, Repr

/-- The placement context of R27. Its two fire-count lists are the function `PlacementContext.fireCount` of the N, P
and D it holds, which fix every entry (R25). -/
structure PlacementContext where
  screen : Nat
  n : Nat
  gap : Nat
  pitch : Nat
  cellPitch : Nat
  remainder : Nat
  shift : Nat
  rate : Nat
  period : Nat
  deriving DecidableEq, Repr

/-! ### Track Store -/

/-- A descriptor (R49). It stands in the queue of its head, is FILLING or COMPLETE by its kind and bytes received,
and holds its page list. -/
structure Descriptor where
  number : Nat
  kind : TrackKind
  n : Nat
  received : Nat
  pages : List Nat
  deriving DecidableEq, Repr

/-- The free-page list of R47, first in first out: the pages from `fresh` upward, which no track has taken since
the list was built, then the pages given back, oldest first. -/
structure FreePages where
  fresh : Nat
  freed : List Nat
  deriving DecidableEq, Repr

/-- What the Track Store holds (sections 4.1 to 4.3, R66). -/
structure Store where
  dram : Memory
  free : FreePages
  freeDescriptors : Nat
  queues : Quad (List Descriptor)
  starved : Quad Bool
  deriving DecidableEq, Repr

/-! ### Line buffers and the Fetch Engine -/

/-- The track a line buffer holds or receives (R69). -/
structure BufferTrack where
  number : Nat
  kind : BufferKind
  n : Nat
  deriving DecidableEq, Repr

/-- State of a line buffer, with the track it holds or receives (R69). -/
inductive BufferState where
  | empty
  | loading (track : BufferTrack)
  | loaded (track : BufferTrack)
  deriving DecidableEq, Repr

/-- One line buffer: its state and its tone cells (R69). -/
structure LineBuffer where
  held : BufferState
  tones : Memory
  deriving DecidableEq, Repr

/-- A head's two line buffers. Exactly one has the role ACTIVE: buffer 1 when `oneActive`, else buffer 0 (R69). -/
structure LineBuffers where
  buf0 : LineBuffer
  buf1 : LineBuffer
  oneActive : Bool
  deriving DecidableEq, Repr

/-- The copy in flight (R76). The read port is BUSY while there is one, and FREE otherwise (R74). -/
structure Copy where
  head : HeadId
  track : Nat
  n : Nat
  pages : List Nat
  granted : Nat
  done : Nat
  deriving DecidableEq, Repr

/-- The Fetch Engine's copy in flight, and each head's patch fill in flight with its end time (R85). -/
structure FetchEngine where
  copy : Option Copy
  fills : Quad (Option Nat)
  deriving DecidableEq, Repr

/-! ### Head Drive Unit -/

/-- A head's calibration (section 3.3). -/
structure Calibration where
  gain : Int
  offset : Int
  floor : Nat
  ceiling : Nat
  deriving DecidableEq, Repr

/-- A head's settings (section 6.8). -/
structure HeadSettings where
  level : Nat
  rampStep : Nat
  rampCode : Nat
  shape : Shape
  settle : Nat
  dwell : Nat
  fmin : Nat
  fmax : Nat
  suspendLimit : Nat
  leadMark : Nat
  startAngle : Nat
  calibration : Calibration
  deriving DecidableEq, Repr

/-- One entry of a depth table (section 3.5). -/
structure DepthEntry where
  depth : Nat
  mark : ClampMark
  deriving DecidableEq, Repr

/-- A built depth table (section 3.5); an unbuilt one is absent. -/
structure DepthTable where
  curve : Nat
  calibration : Calibration
  entries : List DepthEntry
  lows : Nat
  highs : Nat
  deriving DecidableEq, Repr

/-- A sine ramp's present segment: its number and its target (R89). -/
structure Segment where
  number : Nat
  target : Nat
  deriving DecidableEq, Repr

/-- A ramp context (R87). -/
structure Ramp where
  shape : Shape
  start : Nat
  target : Nat
  delta : Int
  segment : Option Segment
  next : Nat
  deriving DecidableEq, Repr

/-- What the HDU holds for a head (section 6.1), with the placement context the SCT builds for it (R27). Timers
hold the µs left and are absent while they do not run. -/
structure Head where
  state : HeadState
  level : Nat
  depth : Nat
  ramp : Option Ramp
  settleTimer : Option Nat
  dwellTimer : Option Nat
  inhibit : Bool
  nextCell : Option Nat
  table : Option DepthTable
  context : Option PlacementContext
  settings : HeadSettings
  deriving DecidableEq, Repr

/-! ### Carriage Axes -/

/-- An axis's settings (R106). -/
structure AxisSettings where
  origin : Nat
  maxpos : Nat
  homeSpan : Nat
  rate : Nat
  deriving DecidableEq, Repr

/-- A move at a rate (section 7.1, R105): its m-th step falls due `ceil(m × scale / rate)` µs after its start. -/
structure Move where
  up : Bool
  issued : Nat
  toGo : Nat
  start : Nat
  scale : Nat
  rate : Nat
  deriving DecidableEq, Repr

/-- A feed context (R118). -/
structure FeedContext where
  tag : Nat
  feed : Feed
  start : Nat
  gap : Nat
  pitch : Nat
  stage : Stage
  armed : Bool
  pointer : Option Nat
  deriving DecidableEq, Repr

/-- The two output lines of an axis to its carriage drive (R105): the level of the direction output, HIGH for up, and
how many pulses the step output has given since reset. Both reset values are the model's (notes/assumptions/30.md). -/
structure AxisOutputs where
  up : Bool
  pulses : Nat
  deriving DecidableEq, Repr

/-- What an axis holds (section 7.1). Its reserved span is fixed by this and its head's bands (R108). -/
structure Axis where
  state : AxisState
  position : Option Nat
  lastKnown : Option Nat
  target : Option Nat
  move : Option Move
  homeSteps : Option Nat
  lastFault : AxisFault
  feed : Option FeedContext
  outputs : AxisOutputs
  settings : AxisSettings
  deriving DecidableEq, Repr

/-! ### Band Sequencer -/

/-- A band context (R125). Its head is the one that holds it. -/
structure Band where
  tag : Nat
  source : Source
  first : Nat
  count : Nat
  screen : Nat
  curve : Nat
  feed : Feed
  start : Nat
  phase : Phase
  next : Nat
  stopTaken : Bool
  waitCount : Nat
  suspensions : Nat
  cut : Nat
  firstCut : Option Nat
  lastCut : Option Nat
  clampedLow : Nat
  clampedHigh : Nat
  stale : Nat
  discarded : Nat
  sourceless : Nat
  startRev : Option Nat
  startTime : Option Nat
  deriving DecidableEq, Repr

/-- A result record (R144). -/
structure ResultRecord where
  tag : Nat
  head : HeadId
  cls : ResultClass
  cause : Cause
  detail : Option CauseDetail
  cut : Nat
  firstCut : Option Nat
  lastCut : Option Nat
  clampedLow : Nat
  clampedHigh : Nat
  stale : Nat
  discarded : Nat
  sourceless : Nat
  suspensions : Nat
  startRev : Option Nat
  startTime : Option Nat
  endRev : Nat
  endTime : Nat
  position : Option Nat
  deriving DecidableEq, Repr

/-- A head's band sequencer: its active band, its pending band and its result list, oldest first (R127, R145). -/
structure BandSequencer where
  active : Option Band
  waiting : Option Band
  results : List ResultRecord
  deriving DecidableEq, Repr

/-! ### Monitor Sequencer -/

/-- A slot record (R149). -/
structure Slot where
  value : Option Nat
  valueTime : Option Nat
  low : Nat
  high : Nat
  hysteresis : Nat
  run : Nat
  action : AlarmAction
  mask : Byte
  latched : Bool
  deriving DecidableEq, Repr

/-- The conversion in flight: its slot and its completion time (R149). -/
structure Conversion where
  slot : Fin 16
  done : Nat
  deriving DecidableEq, Repr

/-- What the Monitor Sequencer holds (R149). -/
structure Monitor where
  slots : Vector Slot 16
  mode : MonitorMode
  haltRequest : Bool
  start : Fin 16
  stop : Fin 16
  conversion : Option Conversion
  deriving DecidableEq, Repr

/-! ### Link Interface -/

/-- A good request frame of the inbound list (R164). -/
structure Frame where
  kind : Byte
  tag : Byte
  payload : List Byte
  deriving DecidableEq, Repr

/-- A reply of the outbound list (R166, R174); `content` is what stands from offset 2. -/
structure Reply where
  kind : Byte
  tag : Byte
  status : Status
  reason : Option Reason
  content : List Byte
  deriving DecidableEq, Repr

/-- The frame on the line: its bytes, how many are still to leave, and whether it is the MODULE_RESET reply. -/
structure Sending where
  bytes : List Byte
  left : Nat
  resets : Bool
  deriving DecidableEq, Repr

/-- The content of a notice entry, by kind (section 11.7). -/
inductive NoticeContent where
  | alarm (value low high run : Nat) (action : AlarmAction) (mask acted : Byte) (time rev : Nat)
  | cylinder (event : CylEvent) (timing : TimingState) (ready : Bool) (rev time : Nat)
  | axis (event : AxisEvent) (state : AxisState) (fault : AxisFault) (position : Option Nat) (time : Nat)
  | bandEnd (tag : Nat) (cls : ResultClass) (cause : Cause) (detail : Option CauseDetail) (cut : Nat)
      (lastCut : Option Nat) (endRev endTime listed : Nat)
  | starving (tag : Nat) (phase : Phase) (next lead mark time : Nat)
  | progress (tag : Nat) (phase : Phase) (lastCut : Option Nat) (rev time : Nat) (lead : Option Nat)
  | cylStatus (rev period time : Nat) (speedOk : Bool)
  deriving DecidableEq, Repr

/-- An entry of the notice table (R168). -/
structure NoticeEntry where
  pending : Bool
  count : Nat
  content : Option NoticeContent
  deriving DecidableEq, Repr

/-- The level and enable of a notice group (R170). -/
structure NoticeGroup where
  level : Nat
  enabled : Bool
  deriving DecidableEq, Repr

/-- What the Link Interface holds (chapter 10). The receiver's state is fixed by the bytes it holds from SYNC
onward: HUNT when there are none. `resetTaken` stands from the taking of a MODULE_RESET, and `resetSent` from the
last byte of its reply, to the reset (R172). -/
structure Link where
  received : List Byte
  stall : Nat
  inbound : List Frame
  outbound : List Reply
  sending : Option Sending
  notices : Vector NoticeEntry 34
  groups : Vector NoticeGroup 6
  errors : Nat
  lastError : Option FrameError
  resetTaken : Bool
  resetSent : Bool
  deriving DecidableEq, Repr

/-! ### The card -/

/-- The whole card. `clock` is the number of µs since reset: the timestamp counter is its value modulo 2^32 (R9).
`pending` is the queue of commands that wait, first in first out. -/
structure State where
  clock : Nat
  pins : Pins
  machine : MachineSettings
  ctu : Ctu
  screens : Vector Screen 16
  curves : Vector (List Nat) 8
  patches : Quad (List PatchPair)
  store : Store
  buffers : Quad LineBuffers
  fetch : FetchEngine
  heads : Quad Head
  axes : Quad Axis
  bands : Quad BandSequencer
  monitor : Monitor
  link : Link
  pending : List Instr
  deriving DecidableEq, Repr

/-- No command of the card stops it with a fault: the manual answers every wrong input with a reply, a notice or
no effect (R166, section 5.8), and every access of the store goes to a page of its own list (R48). So there is no
constructor. Safe. -/
inductive Fault where
  deriving DecidableEq, Repr

/-- Reasons to refuse a command. -/
inductive Refusal where
  /-- Raised by `exec` alone, for a command that has no meaning yet; no arm raises it now. Safe. -/
  | notModelled (mnemonic : String)
  deriving DecidableEq, Repr

/-! ### Reset -/

/-- The defaults of section 1.8 (R17). -/
def MachineSettings.reset : MachineSettings where
  fitted := 4
  minsep := 100000
  indexEdge := .rising
  indexTol := 8
  nominalPeriod := 750000
  periodTol := 7500
  reportRevs := 0

/-- The defaults of sections 1.8 and 6.8 act after reset. -/
def Acting.reset : Acting := ⟨4, Quad.all 0⟩

/-- R17. -/
def Ctu.reset : Ctu where
  angle := 0
  elapsed := 0
  timing := .stopped
  streak := 0
  indexTime := 0
  lastPeriod := none
  speedOk := true
  revs := 0
  countdown := 0
  stoppedTimer := 0
  ready := false
  debounce := 0
  acting := Acting.reset

/-- R18. -/
def Screen.reset : Screen := ⟨0, 0, 0, 0⟩

/-- R33: the knots 0, 256, ..., 3840 and 4095. -/
def curveReset : List Nat :=
  [0, 256, 512, 768, 1024, 1280, 1536, 1792, 2048, 2304, 2560, 2816, 3072, 3328, 3584, 3840, 4095]

/-- R81: the single pair (tone 0, run 1). -/
def patchReset : List PatchPair := [⟨0, 1⟩]

/-- R47: pages 0 to 65535 in ascending order. -/
def FreePages.reset : FreePages := ⟨0, []⟩

/-- R68. -/
def Store.reset : Store where
  dram := []
  free := FreePages.reset
  freeDescriptors := Config.descriptorCount
  queues := Quad.all []
  starved := Quad.all false

/-- R69: buffer 0 ACTIVE, buffer 1 STANDBY, both EMPTY. -/
def LineBuffers.reset : LineBuffers := ⟨⟨.empty, []⟩, ⟨.empty, []⟩, false⟩

/-- R85. -/
def FetchEngine.reset : FetchEngine := ⟨none, Quad.all none⟩

/-- R38: the defaults of section 3.3. -/
def Calibration.reset : Calibration := ⟨0, 0, 32, 4095⟩

/-- R104: the defaults of section 6.8. -/
def HeadSettings.reset : HeadSettings where
  level := 2048
  rampStep := 16
  rampCode := 3
  shape := .linear
  settle := 20
  dwell := 50
  fmin := 2000
  fmax := 8000
  suspendLimit := 32
  leadMark := 0
  startAngle := 0
  calibration := Calibration.reset

/-- R104, R42, R27. -/
def Head.reset : Head where
  state := .parked
  level := 0
  depth := 0
  ramp := none
  settleTimer := none
  dwellTimer := none
  inhibit := false
  nextCell := none
  table := none
  context := none
  settings := HeadSettings.reset

/-- R106: the defaults of axis `k`. -/
def AxisSettings.reset (k : Nat) : AxisSettings := ⟨k * 650000, 650000, 700000, 20000⟩

/-- The step and direction outputs right after reset (notes/assumptions/30.md). -/
def AxisOutputs.reset : AxisOutputs := ⟨false, 0⟩

/-- R124. -/
def Axis.reset (k : Nat) : Axis where
  state := .unhomed
  position := none
  lastKnown := none
  target := none
  move := none
  homeSteps := none
  lastFault := .none
  feed := none
  outputs := AxisOutputs.reset
  settings := AxisSettings.reset k

/-- R147. -/
def BandSequencer.reset : BandSequencer := ⟨none, none, []⟩

/-- R149. -/
def Slot.reset : Slot := ⟨none, none, 0, 4095, 1, 0, .none, 0, false⟩

/-- R149. -/
def Monitor.reset : Monitor where
  slots := Vector.replicate 16 Slot.reset
  mode := .halted
  haltRequest := false
  start := 0
  stop := 15
  conversion := none

/-- R173: not pending, count 0, content absent. -/
def NoticeEntry.reset : NoticeEntry := ⟨false, 0, none⟩

/-- R173. -/
def Link.reset : Link where
  received := []
  stall := 0
  inbound := []
  outbound := []
  sending := none
  notices := Vector.replicate 34 NoticeEntry.reset
  groups := Vector.replicate 6 ⟨0, true⟩
  errors := 0
  lastError := none
  resetTaken := false
  resetSent := false

/-- The input levels the model takes at power-on: every line inactive (notes/assumptions/3.md). -/
def Pins.reset : Pins := ⟨false, Quad.all false, Quad.all false⟩

/-- The card right after power-on or MODULE_RESET (R17, R18, R33, R38, R42, R47, R50, R68, R69, R81, R85, R104, R124,
R147, R149, R173), with no command waiting. -/
def State.reset : State where
  clock := 0
  pins := Pins.reset
  machine := MachineSettings.reset
  ctu := Ctu.reset
  screens := Vector.replicate 16 Screen.reset
  curves := Vector.replicate 8 curveReset
  patches := Quad.all patchReset
  store := Store.reset
  buffers := Quad.all LineBuffers.reset
  fetch := FetchEngine.reset
  heads := Quad.all Head.reset
  axes := ⟨Axis.reset 0, Axis.reset 1, Axis.reset 2, Axis.reset 3⟩
  bands := Quad.all BandSequencer.reset
  monitor := Monitor.reset
  link := Link.reset
  pending := []

end Sys2Proof.Machine
end

