-- ==== Sys2Proof/Machine/Ops.lean ====
section
/-! DEFINITION. The named operations on the card's stores, tables and lists that every block uses: addressed
memory, the free-page list, the notice table, replies, and the accessors of State. -/

namespace Sys2Proof.Machine

/-! ### Addressed memory -/

/-- The byte at an address; an unlisted address reads as 0 (notes/assumptions/8.md). -/
def Memory.read : Memory → Nat → Byte
  | [], _ => 0
  | (k, b) :: rest, a => if k = a then b else Memory.read rest a

/-- The cells of a run of bytes from an address upward, less those that hold what an unlisted address reads as. -/
def Memory.cells : Nat → List Byte → Memory
  | _, [] => []
  | a, b :: bs => if b = 0 then Memory.cells (a + 1) bs else (a, b) :: Memory.cells (a + 1) bs

/-- Writes a run of bytes from address `a` upward. -/
def Memory.writeRun (m : Memory) (a : Nat) (bs : List Byte) : Memory :=
  m.filter (fun c => c.1 < a) ++ Memory.cells a bs ++ m.filter (fun c => a + bs.length ≤ c.1)

/-- The `n` bytes from address `a` upward. -/
def Memory.readRun (m : Memory) (a n : Nat) : List Byte :=
  (List.range n).map fun i => Memory.read m (a + i)

/-- The canonical form: addresses strictly rising, and no cell that an unlisted address would read as. -/
abbrev Memory.wf (m : Memory) : Prop :=
  m.Pairwise (fun x y => x.1 < y.1) ∧ ∀ c ∈ m, c.2 ≠ 0

/-! ### The free-page list (R47) -/

/-- The free-page count. -/
def FreePages.count (f : FreePages) : Nat := (Config.pageCount - f.fresh) + f.freed.length

/-- The free-page list as the manual lists it, head first. -/
def FreePages.toList (f : FreePages) : List Nat :=
  List.range' f.fresh (Config.pageCount - f.fresh) ++ f.freed

/-- Takes `k` pages, one at a time, from the head of the list. -/
def FreePages.take (f : FreePages) (k : Nat) : List Nat × FreePages :=
  let n := min k (Config.pageCount - f.fresh)
  (List.range' f.fresh n ++ f.freed.take (k - n), ⟨f.fresh + n, f.freed.drop (k - n)⟩)

/-- Pages given back join the tail in the order in which they stand. -/
def FreePages.give (f : FreePages) (pages : List Nat) : FreePages :=
  { f with freed := f.freed ++ pages }

/-! ### Pages of a track (R49) -/

/-- Pages a DATA track of N tones takes. -/
def pagesNeeded (n : Nat) : Nat := ceilDiv n Config.pageBytes

/-- The DRAM address of byte `o` of page `p`. -/
def pageAddress (p o : Nat) : Nat := p * Config.pageBytes + o

/-- Stores tone bytes from track offset `off` upward, through a page list (R49, R53, R56). -/
def storeTones : List Nat → Nat → List Byte → Memory → Memory
  | [], _, _, m => m
  | p :: ps, off, bs, m =>
    if Config.pageBytes ≤ off then storeTones ps (off - Config.pageBytes) bs m
    else
      let room := Config.pageBytes - off
      storeTones ps 0 (bs.drop room) (Memory.writeRun m (pageAddress p off) (bs.take room))

/-- Tone bytes 0 to n − 1 of a track, through its page list (R76). -/
def readTones (m : Memory) (pages : List Nat) (n : Nat) : List Byte :=
  (pages.flatMap fun p => Memory.readRun m (pageAddress p 0) Config.pageBytes).take n

/-! ### The notice table (R168) -/

/-- The 34 (kind, source) pairs of the notice table. -/
inductive NoticeId where
  | alarm (slot : Fin 16)
  | cylinder
  | axis (k : HeadId)
  | bandEnd (h : HeadId)
  | starving (h : HeadId)
  | progress (h : HeadId)
  | cylStatus
  deriving DecidableEq, Repr

/-- The place of an entry in the table of R168. -/
def noticeIndex : NoticeId → Fin 34
  | .alarm slot => ⟨slot.val, by omega⟩
  | .cylinder => 16
  | .axis k => ⟨17 + k.val, by omega⟩
  | .bandEnd h => ⟨21 + h.val, by omega⟩
  | .starving h => ⟨25 + h.val, by omega⟩
  | .progress h => ⟨29 + h.val, by omega⟩
  | .cylStatus => 33

/-- The group of an entry (R168). -/
def noticeGroup : NoticeId → Fin 6
  | .alarm _ => 0
  | .cylinder => 1
  | .axis _ => 2
  | .bandEnd _ => 3
  | .starving _ => 4
  | .progress _ => 5
  | .cylStatus => 5

/-- The source number of an entry (R168). -/
def noticeSource : NoticeId → Nat
  | .alarm slot => slot.val
  | .cylinder => 0
  | .axis k => k.val
  | .bandEnd h => h.val
  | .starving h => h.val
  | .progress h => h.val
  | .cylStatus => 4

/-- The kind code of an entry's notices (section 11.2). -/
def noticeKind : NoticeId → Byte
  | .alarm _ => 0xC0
  | .cylinder => 0xC1
  | .axis _ => 0xC2
  | .bandEnd _ => 0xC3
  | .starving _ => 0xC4
  | .progress _ => 0xC5
  | .cylStatus => 0xC6

/-- Every entry, by group and within it by source number: the order of the table of R168. -/
def noticeIds : List NoticeId :=
  (List.finRange 16).map .alarm ++ [.cylinder] ++ heads4.map .axis ++ heads4.map .bandEnd ++
    heads4.map .starving ++ heads4.map .progress ++ [.cylStatus]

/-- The entry of an id. -/
def Link.entry (l : Link) (id : NoticeId) : NoticeEntry := l.notices.get (noticeIndex id)

/-- Replaces the entry of an id. -/
def Link.setEntry (l : Link) (id : NoticeId) (e : NoticeEntry) : Link :=
  { l with notices := l.notices.set (noticeIndex id).val e (noticeIndex id).isLt }

/-- A posting: the pending flag is set, the count rises by 1 and stops at 255, and the content is replaced whole. -/
def Link.post (l : Link) (id : NoticeId) (c : NoticeContent) : Link :=
  l.setEntry id ⟨true, countUp 255 (l.entry id).count, some c⟩

/-- A posting to the card's notice table. -/
def State.post (s : State) (id : NoticeId) (c : NoticeContent) : State :=
  { s with link := s.link.post id c }

/-! ### Accessors of State -/

/-- The timestamp counter (R9). -/
def State.timestamp (s : State) : Nat := wrap32 s.clock

/-- The settings that wait for a count, as they are written now (R12, R15, R102). -/
def State.written (s : State) : Acting := ⟨s.machine.fitted, s.heads.map fun x => x.settings.startAngle⟩

/-- A count takes up the settings that waited for it (R12, R15, R102). -/
def State.takeUp (s : State) : State := { s with ctu := { s.ctu with acting := s.written } }

/-- A head or axis numbered below F is fitted (section 5.2), where F is the one that acts (R15). -/
def State.fitted (s : State) (h : HeadId) : Bool := decide (h.val < s.ctu.acting.fitted)

/-- The start angle A_h that acts (R12). -/
def State.startAngle (s : State) (h : HeadId) : Nat := s.ctu.acting.startAngles.get h

/-- Head h's relative count, (a − A_h) mod 65536 (R13, section 5.3), with the A_h that acts (R12). It is derived from
the angle as it stands, also after an index that sets the angle to 0 before a count presents it (DEDUCED,
notes/assumptions/34.md). -/
def State.relCount (s : State) (h : HeadId) : Nat :=
  (s.ctu.angle + Config.revolution - s.startAngle h) % Config.revolution

/-- Applies a change to one head. -/
def State.updHead (s : State) (h : HeadId) (f : Head → Head) : State :=
  { s with heads := s.heads.set h (f (s.heads.get h)) }

/-- Applies a change to one axis. -/
def State.updAxis (s : State) (k : HeadId) (f : Axis → Axis) : State :=
  { s with axes := s.axes.set k (f (s.axes.get k)) }

/-- Applies a change to one head's band sequencer. -/
def State.updBands (s : State) (h : HeadId) (f : BandSequencer → BandSequencer) : State :=
  { s with bands := s.bands.set h (f (s.bands.get h)) }

/-- Applies a change to one head's line buffers. -/
def State.updBuffers (s : State) (h : HeadId) (f : LineBuffers → LineBuffers) : State :=
  { s with buffers := s.buffers.set h (f (s.buffers.get h)) }

/-- The head's active band. -/
def State.active (s : State) (h : HeadId) : Option Band := (s.bands.get h).active

/-- Replaces the head's active band. -/
def State.setActive (s : State) (h : HeadId) (b : Option Band) : State :=
  s.updBands h fun q => { q with active := b }

/-- Applies a change to the head's active band, when it holds one. -/
def State.updActive (s : State) (h : HeadId) (f : Band → Band) : State :=
  s.setActive h ((s.active h).map f)

/-- One step after another for each fitted head, in ascending order ("for each head", section 5.2). -/
def State.forFitted (s : State) (f : HeadId → State → State) : State :=
  heads4.foldl (fun t h => if t.fitted h then f h t else t) s

/-! ### The two buffers of a head (R69) -/

/-- The buffer in the role ACTIVE. -/
def LineBuffers.active (b : LineBuffers) : LineBuffer := if b.oneActive then b.buf1 else b.buf0

/-- The buffer in the role STANDBY. -/
def LineBuffers.standby (b : LineBuffers) : LineBuffer := if b.oneActive then b.buf0 else b.buf1

/-- Replaces the STANDBY buffer. -/
def LineBuffers.setStandby (b : LineBuffers) (x : LineBuffer) : LineBuffers :=
  if b.oneActive then { b with buf0 := x } else { b with buf1 := x }

/-- The track a buffer holds or receives; absent while EMPTY. -/
def BufferState.track? : BufferState → Option BufferTrack
  | .empty => none
  | .loading t => some t
  | .loaded t => some t

/-- The track of a LOADED buffer. -/
def BufferState.loaded? : BufferState → Option BufferTrack
  | .loaded t => some t
  | .empty => none
  | .loading _ => none

/-- Both buffers become EMPTY and keep their roles and tone cells (R69). -/
def LineBuffers.emptied (b : LineBuffers) : LineBuffers :=
  { b with buf0 := { b.buf0 with held := .empty }, buf1 := { b.buf1 with held := .empty } }

/-- The swap of R80: the STANDBY becomes ACTIVE as it stands, and the old ACTIVE becomes an EMPTY STANDBY. -/
def LineBuffers.swapped (b : LineBuffers) : LineBuffers :=
  if b.oneActive then { b with buf1 := { b.buf1 with held := .empty }, oneActive := false }
  else { b with buf0 := { b.buf0 with held := .empty }, oneActive := true }

/-! ### Answers (R165, R166) -/

/-- What an owner answers: a status, the reason of a refusal, and the reply's content. -/
structure Response where
  status : Status
  reason : Option Reason
  content : List Byte
  deriving DecidableEq, Repr

/-- OK, with content. -/
def Response.ok (content : List Byte) : Response := ⟨.ok, none, content⟩

/-- CLAMPED when a value was saturated, and OK otherwise. -/
def Response.taken (saturated : Bool) (content : List Byte) : Response :=
  ⟨if saturated then .clamped else .ok, none, content⟩

/-- BUSY. -/
def Response.busy (content : List Byte) : Response := ⟨.busy, none, content⟩

/-- BAD_FIELD. -/
def Response.badField (content : List Byte) : Response := ⟨.badField, none, content⟩

/-- BAD_LENGTH; the Link Interface gives it no content. -/
def Response.badLength (content : List Byte) : Response := ⟨.badLength, none, content⟩

/-- REFUSED with a reason. -/
def Response.refused (r : Reason) (content : List Byte) : Response := ⟨.refused, some r, content⟩

/-- The reply of a request joins the tail of the reply list, with the request's kind plus 0x80 and its tag
(R160, R165). -/
def State.respond (s : State) (kind tag : Byte) (r : Response) : State :=
  { s with link := { s.link with
      outbound := s.link.outbound ++ [⟨kind + 0x80, tag, r.status, r.reason, r.content⟩] } }

/-! ### Requests, one at a time (R163 to R165) -/

/-- A discarded frame is counted, up to 65,535, and its kind of error kept (R163). -/
def Link.discard (l : Link) (e : FrameError) : Link :=
  { l with errors := countUp 65535 l.errors, lastError := some e }

/-- A good frame joins the inbound list while it holds fewer than 8; otherwise it is answered QUEUE_FULL while the
reply list holds fewer than 16; otherwise it is an overrun (R164). -/
def Link.accept (l : Link) (f : Frame) : Link :=
  if l.inbound.length < Config.inboundLimit then { l with inbound := l.inbound ++ [f] }
  else if l.outbound.length < Config.outboundLimit then
    { l with outbound := l.outbound ++ [⟨f.kind + 0x80, f.tag, .queueFull, none, []⟩] }
  else l.discard .overrun

/-- Whether the Link Interface hands a request now: the reply list holds fewer than 16 replies, no MODULE_RESET has
been taken, and the request is the oldest listed one, or arrives with none listed (R165, R172,
notes/assumptions/5.md). -/
def State.canHand (s : State) (f : Frame) : Bool :=
  decide (s.link.outbound.length < Config.outboundLimit) && !s.link.resetTaken &&
    match s.link.inbound with
    | [] => true
    | g :: _ => decide (g = f)

/-- The handed request leaves the inbound request list (R165). -/
def State.handed (s : State) : State :=
  { s with link := { s.link with inbound := s.link.inbound.tail } }

/-- A request handed to its owner, or an arrival that cannot be handed and is listed, answered QUEUE_FULL or dropped
(R164). For a handed request: a payload whose length does not fit the kind is answered BAD_LENGTH by the Link
Interface, and any other is taken by the owner, whose answer joins the reply list in the same step (R165). -/
def State.request {α : Type} (s : State) (f : Frame) (fields : Option α)
    (owner : α → State → State × Response) : State :=
  if s.canHand f then
    match fields with
    | none => s.handed.respond f.kind f.tag (Response.badLength [])
    | some a => (owner a s.handed).1.respond f.kind f.tag (owner a s.handed).2
  else { s with link := s.link.accept f }

/-- The head or axis that a carried number names; numbers above 3 name none. -/
def headOf (n : Nat) : Option HeadId := if h : n < 4 then some ⟨n, h⟩ else none

/-- The check most requests begin with: a number above 3 is BAD_FIELD and an unfitted one is NOT_FITTED; both carry
no content. -/
def onFitted (n : Nat) (s : State) (f : HeadId → State × Response) : State × Response :=
  match headOf n with
  | none => (s, Response.badField [])
  | some h => if s.fitted h then f h else (s, Response.refused .notFitted [])

end Sys2Proof.Machine
end

