-- ==== Sys2Proof/Machine/Operands.lean ====
section
/-! DEFINITION. The fields of the requests as section 11.5 lays them out in payload bytes, read and written, and the
codes of the enumerated fields a request carries (section 11.3). -/

namespace Sys2Proof.Machine

/-! ### Integers, low byte first -/

/-- One byte that carries `n`. -/
def u8 (n : Nat) : List Byte := [BitVec.ofNat 8 n]

/-- Two bytes that carry `n`. -/
def u16 (n : Nat) : List Byte := [BitVec.ofNat 8 n, BitVec.ofNat 8 (n / 256)]

/-- Four bytes that carry `n`. -/
def u32 (n : Nat) : List Byte :=
  [BitVec.ofNat 8 n, BitVec.ofNat 8 (n / 256), BitVec.ofNat 8 (n / 65536), BitVec.ofNat 8 (n / 16777216)]

/-- Two bytes that carry a signed value in two's complement. -/
def i16 (n : Int) : List Byte := u16 (n % 65536).toNat

/-- Four bytes that carry a signed value in two's complement. -/
def i32 (n : Int) : List Byte := u32 (n % 4294967296).toNat

/-- The unsigned byte at an offset. -/
def rd8 (p : List Byte) (i : Nat) : Nat := (p.getD i 0).toNat

/-- The unsigned 16-bit integer at an offset. -/
def rd16 (p : List Byte) (i : Nat) : Nat := rd8 p i + 256 * rd8 p (i + 1)

/-- The unsigned 32-bit integer at an offset. -/
def rd32 (p : List Byte) (i : Nat) : Nat := rd16 p i + 65536 * rd16 p (i + 2)

/-- A 16-bit pattern read as two's complement. -/
def signed16 (n : Nat) : Int := if n < 32768 then n else (n : Int) - 65536

/-- A 32-bit pattern read as two's complement. -/
def signed32 (n : Nat) : Int := if n < 2147483648 then n else (n : Int) - 4294967296

/-! ### Codes of enumerated fields a request carries -/

/-- NO 0, YES 1. -/
def flagOf : Nat → Option Bool
  | 0 => some false
  | 1 => some true
  | _ => none

/-- RISING 0, FALLING 1. -/
def edgeOf : Nat → Option IndexEdge
  | 0 => some .rising
  | 1 => some .falling
  | _ => none

/-- DATA 0, BLANK 1, REPEAT 2. -/
def trackKindOf : Nat → Option TrackKind
  | 0 => some .data
  | 1 => some .blank
  | 2 => some .again
  | _ => none

/-- STORE 0, PATCH 1. -/
def sourceOf : Nat → Option Source
  | 0 => some .store
  | 1 => some .patch
  | _ => none

/-- STEPPED 0, HELICAL 1. -/
def feedOf : Nat → Option Feed
  | 0 => some .stepped
  | 1 => some .helical
  | _ => none

/-- LINEAR 0, SINE 1. -/
def shapeOf : Nat → Option Shape
  | 0 => some .linear
  | 1 => some .sine
  | _ => none

/-- NONE 0, NOTIFY 1, RETRACT 2, RETRACT_FAST 3. -/
def actionOf : Nat → Option AlarmAction
  | 0 => some .none
  | 1 => some .notify
  | 2 => some .retract
  | 3 => some .retractFast
  | _ => none

/-- The modes a table request may carry: WRITE 0, READ 1, and PREVIEW 2 for curves. -/
inductive TableMode where
  | write
  | read
  | preview
  deriving DecidableEq, Repr

/-- WRITE 0, READ 1: the mode of SET_SCREEN and SET_PATCH. -/
def tableModeOf : Nat → Option TableMode
  | 0 => some .write
  | 1 => some .read
  | _ => none

/-- WRITE 0, READ 1, PREVIEW 2: the mode of SET_CURVE. -/
def curveModeOf : Nat → Option TableMode
  | 0 => some .write
  | 1 => some .read
  | 2 => some .preview
  | _ => none

/-- SINGLE 1, CONTINUOUS 2: the modes MONITOR_RUN may ask for. -/
def runModeOf : Nat → Option MonitorMode
  | 1 => some .single
  | 2 => some .continuous
  | _ => none

/-! ### Requests, field after field -/

/-- SET_MACHINE, 18 bytes. -/
structure MachineFields where
  fitted : Nat
  minsep : Nat
  edge : Nat
  indexTol : Nat
  nominalPeriod : Nat
  periodTol : Nat
  reportRevs : Nat
  deriving DecidableEq, Repr

/-- The fields of a SET_MACHINE payload. -/
def machineFields (p : List Byte) : Option MachineFields :=
  if p.length = 18 then
    some ⟨rd8 p 0, rd32 p 1, rd8 p 5, rd16 p 6, rd32 p 8, rd32 p 12, rd16 p 16⟩
  else none

/-- The payload that carries SET_MACHINE fields. -/
def machinePayload (f : MachineFields) : List Byte :=
  u8 f.fitted ++ u32 f.minsep ++ u8 f.edge ++ u16 f.indexTol ++ u32 f.nominalPeriod ++ u32 f.periodTol ++
    u16 f.reportRevs

/-- SET_SCREEN, 12 bytes. -/
structure ScreenFields where
  screen : Nat
  mode : Nat
  n : Nat
  gap : Nat
  stagger : Nat
  pitch : Nat
  deriving DecidableEq, Repr

/-- The fields of a SET_SCREEN payload. -/
def screenFields (p : List Byte) : Option ScreenFields :=
  if p.length = 12 then some ⟨rd8 p 0, rd8 p 1, rd16 p 2, rd16 p 4, rd32 p 6, rd16 p 10⟩ else none

/-- The payload that carries SET_SCREEN fields. -/
def screenPayload (f : ScreenFields) : List Byte :=
  u8 f.screen ++ u8 f.mode ++ u16 f.n ++ u16 f.gap ++ u32 f.stagger ++ u16 f.pitch

/-- SET_CURVE, 37 bytes. -/
structure CurveFields where
  curve : Nat
  mode : Nat
  head : Nat
  knots : List Nat
  deriving DecidableEq, Repr

/-- The fields of a SET_CURVE payload. -/
def curveFields (p : List Byte) : Option CurveFields :=
  if p.length = 37 then
    some ⟨rd8 p 0, rd8 p 1, rd8 p 2, (List.range 17).map fun j => rd16 p (3 + 2 * j)⟩
  else none

/-- The payload that carries SET_CURVE fields. -/
def curvePayload (f : CurveFields) : List Byte :=
  u8 f.curve ++ u8 f.mode ++ u8 f.head ++ f.knots.flatMap u16

/-- SET_PATCH, 3 bytes and 3 for each pair. -/
structure PatchFields where
  head : Nat
  mode : Nat
  pairs : List PatchPair
  deriving DecidableEq, Repr

/-- The fields of a SET_PATCH payload; its length must hold exactly the pairs its count names (R165). -/
def patchFields (p : List Byte) : Option PatchFields :=
  if 3 ≤ p.length ∧ p.length = 3 + 3 * rd8 p 2 then
    some ⟨rd8 p 0, rd8 p 1, (List.range (rd8 p 2)).map fun j => ⟨p.getD (3 + 3 * j) 0, rd16 p (4 + 3 * j)⟩⟩
  else none

/-- The payload that carries SET_PATCH fields. -/
def patchPayload (f : PatchFields) : List Byte :=
  u8 f.head ++ u8 f.mode ++ u8 f.pairs.length ++ f.pairs.flatMap fun q => q.tone :: u16 q.run

/-- TRACK, 8 bytes and the tone bytes. -/
structure TrackFields where
  head : Nat
  kind : Nat
  number : Nat
  n : Nat
  offset : Nat
  tones : List Byte
  deriving DecidableEq, Repr

/-- The fields of a TRACK payload of 8 to 4,104 bytes. -/
def trackFields (p : List Byte) : Option TrackFields :=
  if 8 ≤ p.length ∧ p.length ≤ 4104 then
    some ⟨rd8 p 0, rd8 p 1, rd16 p 2, rd16 p 4, rd16 p 6, p.drop 8⟩
  else none

/-- The payload that carries TRACK fields. -/
def trackPayload (f : TrackFields) : List Byte :=
  u8 f.head ++ u8 f.kind ++ u16 f.number ++ u16 f.n ++ u16 f.offset ++ f.tones

/-- DROP_TRACKS, 5 bytes. -/
structure DropFields where
  head : Nat
  first : Nat
  last : Nat
  deriving DecidableEq, Repr

/-- The fields of a DROP_TRACKS payload. -/
def dropFields (p : List Byte) : Option DropFields :=
  if p.length = 5 then some ⟨rd8 p 0, rd16 p 1, rd16 p 3⟩ else none

/-- The payload that carries DROP_TRACKS fields. -/
def dropPayload (f : DropFields) : List Byte := u8 f.head ++ u16 f.first ++ u16 f.last

/-- SET_HEAD, 29 bytes. -/
structure HeadFields where
  head : Nat
  level : Nat
  rampStep : Nat
  rampCode : Nat
  shape : Nat
  settle : Nat
  dwell : Nat
  fmin : Nat
  fmax : Nat
  suspendLimit : Nat
  leadMark : Nat
  startAngle : Nat
  gain : Int
  offset : Int
  floor : Nat
  ceiling : Nat
  deriving DecidableEq, Repr

/-- The fields of a SET_HEAD payload. -/
def headFields (p : List Byte) : Option HeadFields :=
  if p.length = 29 then
    some ⟨rd8 p 0, rd16 p 1, rd16 p 3, rd8 p 5, rd8 p 6, rd16 p 7, rd16 p 9, rd16 p 11, rd16 p 13, rd16 p 15,
      rd16 p 17, rd16 p 19, signed16 (rd16 p 21), signed16 (rd16 p 23), rd16 p 25, rd16 p 27⟩
  else none

/-- The payload that carries SET_HEAD fields. -/
def headPayload (f : HeadFields) : List Byte :=
  u8 f.head ++ u16 f.level ++ u16 f.rampStep ++ u8 f.rampCode ++ u8 f.shape ++ u16 f.settle ++ u16 f.dwell ++
    u16 f.fmin ++ u16 f.fmax ++ u16 f.suspendLimit ++ u16 f.leadMark ++ u16 f.startAngle ++ i16 f.gain ++
    i16 f.offset ++ u16 f.floor ++ u16 f.ceiling

/-- SET_AXIS, 17 bytes. -/
structure AxisFields where
  axis : Nat
  origin : Nat
  maxpos : Nat
  homeSpan : Nat
  rate : Nat
  deriving DecidableEq, Repr

/-- The fields of a SET_AXIS payload. -/
def axisFields (p : List Byte) : Option AxisFields :=
  if p.length = 17 then some ⟨rd8 p 0, rd32 p 1, rd32 p 5, rd32 p 9, rd32 p 13⟩ else none

/-- The payload that carries SET_AXIS fields. -/
def axisPayload (f : AxisFields) : List Byte :=
  u8 f.axis ++ u32 f.origin ++ u32 f.maxpos ++ u32 f.homeSpan ++ u32 f.rate

/-- SEEK, 5 bytes. -/
structure SeekFields where
  axis : Nat
  target : Int
  deriving DecidableEq, Repr

/-- The fields of a SEEK payload. -/
def seekFields (p : List Byte) : Option SeekFields :=
  if p.length = 5 then some ⟨rd8 p 0, signed32 (rd32 p 1)⟩ else none

/-- The payload that carries SEEK fields. -/
def seekPayload (f : SeekFields) : List Byte := u8 f.axis ++ i32 f.target

/-- ENGRAVE, 15 bytes. -/
structure EngraveFields where
  tag : Nat
  head : Nat
  source : Nat
  first : Nat
  count : Nat
  screen : Nat
  curve : Nat
  feed : Nat
  start : Nat
  deriving DecidableEq, Repr

/-- The fields of an ENGRAVE payload. -/
def engraveFields (p : List Byte) : Option EngraveFields :=
  if p.length = 15 then
    some ⟨rd16 p 0, rd8 p 2, rd8 p 3, rd16 p 4, rd16 p 6, rd8 p 8, rd8 p 9, rd8 p 10, rd32 p 11⟩
  else none

/-- The payload that carries ENGRAVE fields. -/
def engravePayload (f : EngraveFields) : List Byte :=
  u16 f.tag ++ u8 f.head ++ u8 f.source ++ u16 f.first ++ u16 f.count ++ u8 f.screen ++ u8 f.curve ++ u8 f.feed ++
    u32 f.start

/-- SET_MONITOR, 8 bytes. -/
structure MonitorFields where
  slot : Nat
  low : Nat
  high : Nat
  hysteresis : Nat
  action : Nat
  mask : Byte
  deriving DecidableEq, Repr

/-- The fields of a SET_MONITOR payload. -/
def monitorFields (p : List Byte) : Option MonitorFields :=
  if p.length = 8 then some ⟨rd8 p 0, rd16 p 1, rd16 p 3, rd8 p 5, rd8 p 6, p.getD 7 0⟩ else none

/-- The payload that carries SET_MONITOR fields. -/
def monitorPayload (f : MonitorFields) : List Byte :=
  u8 f.slot ++ u16 f.low ++ u16 f.high ++ u8 f.hysteresis ++ u8 f.action ++ [f.mask]

/-- The fields of a payload of three bytes: SET_NOTICE (group, level, enable) and MONITOR_RUN (mode, start, stop). -/
def threeBytes (p : List Byte) : Option (Nat × Nat × Nat) :=
  if p.length = 3 then some (rd8 p 0, rd8 p 1, rd8 p 2) else none

/-- The fields of a payload of two bytes: STOP_BAND (head, target) and ABORT_BAND (head, immediate flag). -/
def twoBytes (p : List Byte) : Option (Nat × Nat) :=
  if p.length = 2 then some (rd8 p 0, rd8 p 1) else none

/-- The field of a payload of one byte: the axis, slot, head or clear flag of HOME, AXIS_HALT, GET_AXIS, ALARM_ACK,
HEAD_CLEAR, GET_HEAD, READ_RESULT and GET_STATUS. -/
def oneByte (p : List Byte) : Option Nat := if p.length = 1 then some (rd8 p 0) else none

/-- The payload of STORE_CLEAR, MONITOR_HALT, MODULE_RESET, GET_CYLINDER, GET_STORE and GET_MONITOR. -/
def noBytes (p : List Byte) : Option Unit := if p.length = 0 then some () else none

end Sys2Proof.Machine
end

