-- ==== Sys2Proof/Machine/Flags.lean ====
section
/-! DEFINITION. The conditions and flags the blocks test: held bands and use, homing, reserved spans and the
separation law, readiness of tracks, the lead, the speed and alarm windows, and saturation. -/

namespace Sys2Proof.Machine

/-! ### Saturation (section 5.8) -/

/-- Whether a value lies outside a range, and would be saturated. -/
def outside (lo hi n : Nat) : Bool := decide (n < lo) || decide (hi < n)

/-- Whether a signed value lies outside a range. -/
def outsideInt (lo hi n : Int) : Bool := decide (n < lo) || decide (hi < n)

/-- A signed value brought to the nearer end of a range. -/
def clampInt (lo hi n : Int) : Int := max lo (min hi n)

/-! ### Bands held (R125) -/

/-- The band's last track, T0 + C − 1. -/
def Band.last (b : Band) : Nat := b.first + b.count - 1

/-- The bands a head holds, the active one first. -/
def State.held (s : State) (h : HeadId) : List Band :=
  (s.bands.get h).active.toList ++ (s.bands.get h).waiting.toList

/-- Whether any band is held on any head. -/
def State.anyHeld (s : State) : Bool := heads4.any fun h => !(s.held h).isEmpty

/-- Whether a screen entry is in use (R22). -/
def State.screenInUse (s : State) (i : Nat) : Bool := heads4.any fun h => (s.held h).any fun b => b.screen = i

/-- Whether a curve entry is in use (R37). -/
def State.curveInUse (s : State) (i : Nat) : Bool := heads4.any fun h => (s.held h).any fun b => b.curve = i

/-- Whether a head's patch record is in use (R81). -/
def State.patchInUse (s : State) (h : HeadId) : Bool := (s.held h).any fun b => b.source = .patch

/-- The head's unread result records plus its held bands (R145). -/
def State.resultLoad (s : State) (h : HeadId) : Nat := (s.bands.get h).results.length + (s.held h).length

/-! ### Homing, spans and separation (R105, R108, R109, R117) -/

/-- An axis is homed when it is IDLE, SEEKING or FEEDING. -/
def Axis.homed (a : Axis) : Bool :=
  match a.state with
  | .idle => true
  | .seeking => true
  | .feeding => true
  | .unhomed => false
  | .homing => false

/-- Whether every fitted axis is homed. -/
def State.allHomed (s : State) : Bool := heads4.all fun k => !s.fitted k || (s.axes.get k).homed

/-- The screen entry of a number; numbers above 15 name an undefined one. -/
def State.screen (s : State) (i : Nat) : Screen := (s.screens[i]?).getD Screen.reset

/-- The knots of a curve number. -/
def State.curve (s : State) (i : Nat) : List Nat := (s.curves[i]?).getD curveReset

/-- The far end of the extents of a feed from s over C tracks (R117). -/
def extentEnd (feed : Feed) (start count pitch : Nat) : Nat :=
  match feed with
  | .stepped => start + (count - 1) * pitch
  | .helical => start + count * pitch

/-- Both ends of a band's extents (R117); the screen entry cannot change while the band is held (R22). -/
def State.extents (s : State) (b : Band) : List Nat :=
  [b.start, extentEnd b.feed b.start b.count (s.screen b.screen).pitch]

/-- The lowest of a list of positions. -/
def lowest : List Nat → Nat
  | [] => 0
  | [x] => x
  | x :: xs => min x (lowest xs)

/-- The highest of a list of positions. -/
def highest : List Nat → Nat
  | [] => 0
  | x :: xs => max x (highest xs)

/-- A range of machine coordinates that covers axis-relative points. -/
def spanOver (origin : Nat) (points : List Nat) : Nat × Nat := (origin + lowest points, origin + highest points)

/-- The points a homed axis's span covers: its position, its seek target, and its bands' extents (R108). -/
def State.spanPoints (s : State) (k : HeadId) : List Nat :=
  [(s.axes.get k).position.getD 0] ++ (s.axes.get k).target.toList ++ (s.held k).flatMap s.extents

/-- The reserved span of an axis, in machine coordinates (R108). -/
def State.span (s : State) (k : HeadId) : Option (Nat × Nat) :=
  let a := s.axes.get k
  match a.state with
  | .unhomed => none
  | .homing => some (a.settings.origin, a.settings.origin)
  | .idle => some (spanOver a.settings.origin (s.spanPoints k))
  | .seeking => some (spanOver a.settings.origin (s.spanPoints k))
  | .feeding => some (spanOver a.settings.origin (s.spanPoints k))

/-- The separation law between a lower and an upper span; an axis with no span imposes nothing (R109). -/
def apart (minsep : Nat) (lower upper : Option (Nat × Nat)) : Bool :=
  match lower, upper with
  | some a, some b => decide (a.2 + minsep ≤ b.1)
  | some _, none => true
  | none, some _ => true
  | none, none => true

/-- The span of the fitted axis of a number, when there is one. -/
def State.spanAt (s : State) (fitted k : Nat) : Option (Nat × Nat) :=
  if k < fitted then (headOf k).bind s.span else none

/-- Whether axis k may take a span: the test of R109 against its nearest fitted neighbours, each taken when it is
homed or HOMING. -/
def State.clearOf (s : State) (k : HeadId) (span : Nat × Nat) : Bool :=
  let f := s.ctu.acting.fitted
  (if k.val = 0 then true else apart s.machine.minsep (s.spanAt f (k.val - 1)) (some span)) &&
    apart s.machine.minsep (some span) (s.spanAt f (k.val + 1))

/-- Whether the spans as they stand keep the law under a given MINSEP and F (R107). -/
def State.lawHolds (s : State) (minsep fitted : Nat) : Bool :=
  [0, 1, 2].all fun k => apart minsep (s.spanAt fitted k) (s.spanAt fitted (k + 1))

/-! ### Tracks (R49, R51, R65, R71) -/

/-- A descriptor is COMPLETE when all of its track's tones have arrived; a BLANK or REPEAT always is. -/
def Descriptor.complete (d : Descriptor) : Bool :=
  match d.kind with
  | .data => decide (d.received = d.n)
  | .blank => true
  | .again => true

/-- A queue's filling count. -/
def fillingCount (q : List Descriptor) : Nat := (q.filter fun d => !d.complete).length

/-- The head's next track to load while a band is active on it (R71). -/
def nextToLoad (b : LineBuffers) (first : Nat) : Nat :=
  match b.standby.held.track?, b.active.held.track? with
  | some t, _ => t.number + 1
  | none, some t => t.number + 1
  | none, none => first

/-- Whether a track number counts in a head's lead: it stands in the STANDBY buffer, or COMPLETE in the queue. -/
def State.counts (s : State) (h : HeadId) (number : Nat) : Bool :=
  ((s.buffers.get h).standby.held.track?.any fun t => t.number = number) ||
    (s.store.queues.get h).any fun d => decide (d.number = number) && d.complete

/-- The tracks that count in unbroken sequence from `n`, at most `limit` of them. -/
def State.leadFrom (s : State) (h : HeadId) : Nat → Nat → Nat
  | 0, _ => 0
  | limit + 1, n => if s.counts h n then 1 + s.leadFrom h limit (n + 1) else 0

/-- The number of the band's tracks still to come (R65). -/
def Band.toCome (b : Band) : Nat := b.last + 1 - b.next

/-- The head's lead: defined while a STORE band is active on it (R65). -/
def State.lead (s : State) (h : HeadId) : Option Nat :=
  match s.active h with
  | some b => if b.source = .store then some (s.leadFrom h b.toCome b.next) else none
  | none => none

/-! ### Windows -/

/-- Speed-ok for a measured period (R10). -/
def speedOkFor (m : MachineSettings) (period : Nat) : Bool :=
  decide (m.nominalPeriod = 0) ||
    decide (period - m.nominalPeriod ≤ m.periodTol ∧ m.nominalPeriod - period ≤ m.periodTol)

/-- A slot's value is in range (R149). -/
def Slot.inRange (x : Slot) (v : Nat) : Bool := decide (x.low ≤ v) && decide (v ≤ x.high)

/-- An alarm action that pulls heads back (R99). -/
def AlarmAction.retracts : AlarmAction → Bool
  | .none => false
  | .notify => false
  | .retract => true
  | .retractFast => true

/-- Whether a head mask names a head (section 11.3). -/
def masked (mask : Byte) (h : HeadId) : Bool := mask.getLsbD h.val

/-- A latched retract-action alarm of a slot names a head (R158). -/
def Slot.holds (x : Slot) (h : HeadId) : Bool := x.latched && x.action.retracts && masked x.mask h

/-- The lowest-numbered slot that holds a head (R158). -/
def Monitor.holding (m : Monitor) (h : HeadId) : Option (Fin 16) :=
  (List.finRange 16).find? fun i => (m.slots.get i).holds h

end Sys2Proof.Machine
end

