-- ==== Sys2Proof/Machine/Formats.lean ====
section
/-! DEFINITION. Message and record formats: codes, optional fields, the frame and its check, the result record and
the notice payloads (chapter 11, R160, R161). -/

namespace Sys2Proof.Machine

/-! ### Codes (section 11.3) -/

/-- NO, clear and LOW are 0; YES, set and HIGH are 1. -/
def flagCode : Bool → Nat
  | false => 0
  | true => 1

/-- STOPPED 0, UNSYNCED 1, SYNCED 2. -/
def TimingState.code : TimingState → Nat
  | .stopped => 0
  | .unsynced => 1
  | .synced => 2

/-- CYLINDER event codes. -/
def CylEvent.code : CylEvent → Nat
  | .indexSlip => 0
  | .indexMissing => 1
  | .direction => 2
  | .stopped => 3
  | .speedLost => 4
  | .speedRegained => 5
  | .readyLost => 6
  | .readyGained => 7

/-- RISING 0, FALLING 1. -/
def edgeCode : IndexEdge → Nat
  | .rising => 0
  | .falling => 1

/-- Buffer kind codes: DATA 0, BLANK 1, REPEAT 2, PATCH 3. -/
def BufferKind.code : BufferKind → Nat
  | .data => 0
  | .blank => 1
  | .again => 2
  | .patch => 3

/-- STEPPED 0, HELICAL 1. -/
def Feed.code : Feed → Nat
  | .stepped => 0
  | .helical => 1

/-- LINEAR 0, SINE 1. -/
def Shape.code : Shape → Nat
  | .linear => 0
  | .sine => 1

/-- Band phase codes. -/
def Phase.code : Phase → Nat
  | .pending => 0
  | .positioning => 1
  | .engaging => 2
  | .waitSync => 3
  | .cutting => 4
  | .suspended => 5

/-- Head state codes. -/
def HeadState.code : HeadState → Nat
  | .parked => 0
  | .engaging => 1
  | .settling => 2
  | .ready => 3
  | .cutting => 4
  | .retracting => 5

/-- Axis state codes. -/
def AxisState.code : AxisState → Nat
  | .unhomed => 0
  | .homing => 1
  | .idle => 2
  | .seeking => 3
  | .feeding => 4

/-- Axis last fault codes. -/
def AxisFault.code : AxisFault → Nat
  | .none => 0
  | .homeNotFound => 1
  | .limitSwitch => 2
  | .readyLost => 3

/-- AXIS event codes. -/
def AxisEvent.code : AxisEvent → Nat
  | .homed => 0
  | .homeNotFound => 1
  | .arrived => 2
  | .limitSwitch => 3

/-- Feed stage codes. -/
def Stage.code : Stage → Nat
  | .positioning => 0
  | .hold => 1
  | .move => 2

/-- Result class codes. -/
def ResultClass.code : ResultClass → Nat
  | .complete => 0
  | .ended => 1
  | .aborted => 2

/-- Result cause codes. -/
def Cause.code : Cause → Nat
  | .none => 0
  | .stopRequest => 1
  | .cancelled => 2
  | .abortRequest => 3
  | .underrun => 4
  | .suspendLimit => 5
  | .missingTrack => 6
  | .trackLength => 7
  | .feedLate => 8
  | .speedFault => 9
  | .timingFault => 10
  | .alarm => 11
  | .axisFault => 12
  | .machineNotReady => 13
  | .activation => 14
  | .precedingAbort => 15

/-- Status codes. -/
def Status.code : Status → Nat
  | .ok => 0
  | .clamped => 1
  | .busy => 2
  | .refused => 3
  | .unknownKind => 4
  | .badLength => 5
  | .badField => 6
  | .queueFull => 7

/-- Reason codes; 0 means no reason. -/
def Reason.code : Reason → Nat
  | .notFitted => 1
  | .notReady => 2
  | .inhibited => 3
  | .unreadResults => 4
  | .notHomed => 5
  | .range => 6
  | .collision => 7
  | .notSynced => 8
  | .feedTooSlow => 9
  | .storeFull => 10
  | .queueLimit => 11
  | .fillingLimit => 12
  | .stale => 13
  | .order => 14
  | .mismatch => 15
  | .cellRate => 16
  | .duplicate => 17
  | .noBand => 18
  | .noResult => 19
  | .stillActive => 20
  | .notClear => 21
  | .headEngaged => 22
  | .bandOwned => 23
  | .speed => 24

/-- Clamp mark codes. -/
def ClampMark.code : ClampMark → Nat
  | .none => 0
  | .low => 1
  | .high => 2

/-- Monitor mode codes. -/
def MonitorMode.code : MonitorMode → Nat
  | .halted => 0
  | .single => 1
  | .continuous => 2

/-- Alarm action codes. -/
def AlarmAction.code : AlarmAction → Nat
  | .none => 0
  | .notify => 1
  | .retract => 2
  | .retractFast => 3

/-- Frame error codes. -/
def FrameError.code : FrameError → Nat
  | .badLen => 0
  | .badCheck => 1
  | .stall => 2
  | .overrun => 3

/-- Buffer state codes. -/
def BufferState.code : BufferState → Nat
  | .empty => 0
  | .loading _ => 1
  | .loaded _ => 2

/-- The code of a cause detail (section 11.6). -/
def CauseDetail.code : CauseDetail → Nat
  | .timing e => e.code
  | .slot n => n
  | .reason r => r.code

/-! ### Optional fields (R175) -/

/-- An optional field of a reply: a byte that is 1 when it is present and 0 when it is absent, then its bytes, sent
as 0 when absent. -/
def optional (size : Nat) : Option (List Byte) → List Byte
  | some bs => 1 :: bs
  | none => 0 :: List.replicate size 0

/-- An optional one-byte field. -/
def opt8 (x : Option Nat) : List Byte := optional 1 (x.map u8)

/-- An optional two-byte field. -/
def opt16 (x : Option Nat) : List Byte := optional 2 (x.map u16)

/-- An optional four-byte field. -/
def opt32 (x : Option Nat) : List Byte := optional 4 (x.map u32)

/-- The bit of a presence byte for an optional field. -/
def presence {α : Type} (weight : Nat) (x : Option α) : Nat := if x.isSome then weight else 0

/-! ### The frame (R160, R161) -/

/-- SYNC. -/
def sync : Byte := 0xC3

/-- One shift of the check register. -/
def crcShift (r : BitVec 16) : BitVec 16 :=
  if r.msb then (r <<< 1) ^^^ 0x1021 else r <<< 1

/-- One byte taken into the check register. -/
def crcByte (r : BitVec 16) (b : Byte) : BitVec 16 :=
  crcShift (crcShift (crcShift (crcShift (crcShift (crcShift (crcShift (crcShift
    (r ^^^ (b.setWidth 16 <<< 8)))))))))

/-- CHECK of R161 over a run of bytes. -/
def crc (bs : List Byte) : BitVec 16 := bs.foldl crcByte 0xFFFF

/-- The bytes CHECK covers: LEN, KIND, TAG and the payload. -/
def frameBody (kind tag : Byte) (payload : List Byte) : List Byte :=
  u16 (payload.length + 2) ++ [kind, tag] ++ payload

/-- The frame of a message, SYNC to CHECK. -/
def encodeFrame (kind tag : Byte) (payload : List Byte) : List Byte :=
  sync :: frameBody kind tag payload ++ u16 (crc (frameBody kind tag payload)).toNat

/-- The payload of a reply: status, reason and content (R174). -/
def replyPayload (r : Reply) : List Byte :=
  u8 r.status.code ++ u8 (match r.status, r.reason with
    | .refused, some x => x.code
    | _, _ => 0) ++ r.content

/-! ### The result record (section 11.6) -/

/-- The 54 bytes of a result record. -/
def recordBytes (r : ResultRecord) : List Byte :=
  u16 r.tag ++ u8 r.head.val ++ u8 r.cls.code ++ u8 r.cause.code ++
    u8 (presence 1 r.detail + presence 2 r.firstCut + presence 4 r.lastCut + presence 8 r.startRev +
      presence 16 r.startTime + presence 32 r.position) ++
    u8 ((r.detail.map CauseDetail.code).getD 0) ++ u16 r.cut ++ u16 (r.firstCut.getD 0) ++ u16 (r.lastCut.getD 0) ++
    u32 r.clampedLow ++ u32 r.clampedHigh ++ u32 r.stale ++ u32 r.discarded ++ u32 r.sourceless ++
    u8 r.suspensions ++ u32 (r.startRev.getD 0) ++ u32 (r.startTime.getD 0) ++ u32 r.endRev ++ u32 r.endTime ++
    u32 (r.position.getD 0)

/-! ### Notices (R168, R176) -/

/-- The content of a notice from offset 2. -/
def noticeContentBytes : NoticeContent → List Byte
  | .alarm value low high run action mask acted time rev =>
    u16 value ++ u16 low ++ u16 high ++ u8 run ++ u8 action.code ++ [mask, acted] ++ u32 time ++ u32 rev
  | .cylinder event timing ready rev time =>
    u8 event.code ++ u8 timing.code ++ u8 (flagCode ready) ++ u32 rev ++ u32 time
  | .axis event state fault position time =>
    u8 event.code ++ u8 state.code ++ u8 fault.code ++ u8 (presence 1 position) ++ u32 (position.getD 0) ++ u32 time
  | .bandEnd tag cls cause detail cut lastCut endRev endTime listed =>
    u16 tag ++ u8 cls.code ++ u8 cause.code ++ u8 (presence 1 detail + presence 2 lastCut) ++
      u8 ((detail.map CauseDetail.code).getD 0) ++ u16 cut ++ u16 (lastCut.getD 0) ++ u32 endRev ++ u32 endTime ++
      u8 listed
  | .starving tag phase next lead mark time =>
    u16 tag ++ u8 phase.code ++ u32 next ++ u16 lead ++ u8 mark ++ u32 time
  | .progress tag phase lastCut rev time lead =>
    u16 tag ++ u8 phase.code ++ u8 (presence 1 lastCut + presence 2 lead) ++ u16 (lastCut.getD 0) ++ u32 rev ++
      u32 time ++ u16 (lead.getD 0)
  | .cylStatus rev period time speedOk => u32 rev ++ u32 period ++ u32 time ++ u8 (flagCode speedOk)

/-- The payload of the notice an entry sends: count, source number and content. -/
def noticePayload (id : NoticeId) (e : NoticeEntry) : List Byte :=
  u8 e.count ++ u8 (noticeSource id) ++ (e.content.map noticeContentBytes).getD []

end Sys2Proof.Machine
end

