-- ==== Sys2Proof/Machine/Clock.lean ====
section
/-! DEFINITION. The passing of time: the timestamp counter and every timer that runs on it (R2, R9, R14, R94, R95,
R162), and the bytes the line carries (section 10, 0.2 µs a byte). -/

namespace Sys2Proof.Machine

/-- The stopped timer's limit (R2). -/
def stoppedLimit : Nat := 50000

/-- The ready debounce timer's limit (R14). -/
def debounceLimit : Nat := 10000

/-- The stall timer's limit (R162). -/
def stallLimit : Nat := 5000

/-- Bytes the line carries in one µs. -/
def bytesPerMicro : Nat := 5

/-- The CTU's timers after `n` µs: the stopped timer runs on, and the debounce timer runs while the raw
machine-ready line differs from the ready state and stands at 0 otherwise (R2, R14). -/
def Ctu.elapse (c : Ctu) (raw : Bool) (n : Nat) : Ctu :=
  { c with
    stoppedTimer := min stoppedLimit (c.stoppedTimer + n)
    debounce := if raw = c.ready then 0 else min debounceLimit (c.debounce + n) }

/-- A head's settle and dwell timers after `n` µs (R94, R95). -/
def Head.elapse (h : Head) (n : Nat) : Head :=
  { h with settleTimer := h.settleTimer.map (· - n), dwellTimer := h.dwellTimer.map (· - n) }

/-- The stall timer and the frame on the line after `n` µs (R162, R167). -/
def Link.elapse (l : Link) (n : Nat) : Link :=
  { l with
    stall := if l.received = [] then 0 else min stallLimit (l.stall + n)
    sending := l.sending.map fun x => { x with left := x.left - bytesPerMicro * n } }

/-- The card after `n` µs in which no event is taken. -/
def State.elapse (s : State) (n : Nat) : State :=
  if n = 0 then s
  else
    { s with
      clock := s.clock + n
      ctu := s.ctu.elapse s.pins.readyLine n
      heads := s.heads.map fun h => h.elapse n
      link := s.link.elapse n }

/-- The card at a due time, which an event command brings (notes/assumptions/4.md); a time that has been reached
changes nothing. -/
def State.reach (s : State) (due : Nat) : State := s.elapse (due - s.clock)

end Sys2Proof.Machine
end

