-- ==== Sys2Proof/Machine/Link.lean ====
section
/-! DEFINITION. The Link Interface: the transmitter and the choice of the next frame (R167 to R169), the requests by
their kinds, the resets, and the link's own requests. -/

namespace Sys2Proof.Machine

/-! ### The transmitter (R167 to R169) -/

/-- An entry is eligible when it is pending and its group is enabled (R169). -/
def Link.eligible (l : Link) (id : NoticeId) : Bool :=
  (l.entry id).pending && (l.groups.get (noticeGroup id)).enabled

/-- The level of an entry's group. -/
def Link.levelOf (l : Link) (id : NoticeId) : Nat := (l.groups.get (noticeGroup id)).level

/-- The better of the best entry so far and a later one of the table: only a higher level displaces it (R169). -/
def Link.better (l : Link) (best : Option NoticeId) (id : NoticeId) : Option NoticeId :=
  if l.eligible id then
    match best with
    | none => some id
    | some b => if l.levelOf b < l.levelOf id then some id else some b
  else best

/-- The first eligible entry in dispatch order: highest level, then lower group, then lower source (R169). -/
def Link.firstNotice (l : Link) : Option NoticeId := noticeIds.foldl l.better none

/-- Whether a reply is the OK reply of a MODULE_RESET (R172). -/
def Reply.resets (r : Reply) : Bool := decide (r.kind = 0xAA ∧ r.status = .ok)

/-- The frame of a reply goes on the line. -/
def sendReply (r : Reply) : Sending :=
  let bytes := encodeFrame r.kind r.tag (replyPayload r)
  ⟨bytes, bytes.length, r.resets⟩

/-- The frame of a notice goes on the line, with TAG 0 (R160). -/
def sendNotice (id : NoticeId) (e : NoticeEntry) : Sending :=
  let bytes := encodeFrame (noticeKind id) 0 (noticePayload id e)
  ⟨bytes, bytes.length, false⟩

/-- A free transmitter chooses the next frame: the oldest reply, otherwise the first eligible notice, whose entry is
cleared and keeps its content; otherwise it waits. Once the MODULE_RESET reply has been sent nothing more is chosen
(R167, R168, R172). -/
def Link.choose (l : Link) : Link :=
  if l.sending.isSome || l.resetSent then l
  else
    match l.outbound with
    | r :: rs => { l with outbound := rs, sending := some (sendReply r) }
    | [] =>
      match l.firstNotice with
      | some id =>
        { l.setEntry id { l.entry id with pending := false, count := 0 } with
          sending := some (sendNotice id (l.entry id)) }
      | none => l

/-- A command's step ends with the transmitter's choice: it chooses when a reply joins the list or an entry becomes
eligible (R167). -/
def State.settled (s : State) : State := { s with link := s.link.choose }

/-- The outcome of a command that runs. -/
def State.done (s : State) : Host.Outcome State Fault Refusal := .next s.settled

/-! ### Requests by kind (section 11.2) -/

/-- The command of a listed request. -/
def requestOf (f : Frame) : Instr :=
  match f.kind.toNat with
  | 0x01 => .setMachine f.tag f.payload
  | 0x02 => .setHead f.tag f.payload
  | 0x03 => .setAxis f.tag f.payload
  | 0x04 => .setScreen f.tag f.payload
  | 0x05 => .setCurve f.tag f.payload
  | 0x06 => .setPatch f.tag f.payload
  | 0x07 => .setMonitor f.tag f.payload
  | 0x08 => .setNotice f.tag f.payload
  | 0x10 => .track f.tag f.payload
  | 0x11 => .dropTracks f.tag f.payload
  | 0x12 => .storeClear f.tag f.payload
  | 0x20 => .engrave f.tag f.payload
  | 0x21 => .stopBand f.tag f.payload
  | 0x22 => .abortBand f.tag f.payload
  | 0x23 => .home f.tag f.payload
  | 0x24 => .seek f.tag f.payload
  | 0x25 => .axisHalt f.tag f.payload
  | 0x26 => .monitorRun f.tag f.payload
  | 0x27 => .monitorHalt f.tag f.payload
  | 0x28 => .alarmAck f.tag f.payload
  | 0x29 => .headClear f.tag f.payload
  | 0x2A => .moduleReset f.tag f.payload
  | 0x30 => .getStatus f.tag f.payload
  | 0x31 => .getCylinder f.tag f.payload
  | 0x32 => .getHead f.tag f.payload
  | 0x33 => .getAxis f.tag f.payload
  | 0x34 => .getStore f.tag f.payload
  | 0x35 => .getMonitor f.tag f.payload
  | 0x36 => .readResult f.tag f.payload
  | _ => .unknownKindRequest f.kind f.tag f.payload

/-- The frame that carries a request command; an event of the card's own has none (section 11.2). -/
def frameOf : Instr → Option Frame
  | .powerOn => none
  | .countEvent _ => none
  | .indexEvent _ => none
  | .stoppedTimeout => none
  | .readyLineChange _ => none
  | .readyDebounceExpiry => none
  | .frameReceived _ => none
  | .stallTimeout => none
  | .frameSent => none
  | .moduleResetEffect => none
  | .unknownKindRequest kind tag payload => some ⟨kind, tag, payload⟩
  | .setMachine tag payload => some ⟨0x01, tag, payload⟩
  | .getCylinder tag payload => some ⟨0x31, tag, payload⟩
  | .setScreen tag payload => some ⟨0x04, tag, payload⟩
  | .setCurve tag payload => some ⟨0x05, tag, payload⟩
  | .setPatch tag payload => some ⟨0x06, tag, payload⟩
  | .track tag payload => some ⟨0x10, tag, payload⟩
  | .dropTracks tag payload => some ⟨0x11, tag, payload⟩
  | .storeClear tag payload => some ⟨0x12, tag, payload⟩
  | .getStore tag payload => some ⟨0x34, tag, payload⟩
  | .setHead tag payload => some ⟨0x02, tag, payload⟩
  | .headClear tag payload => some ⟨0x29, tag, payload⟩
  | .getHead tag payload => some ⟨0x32, tag, payload⟩
  | .setAxis tag payload => some ⟨0x03, tag, payload⟩
  | .home tag payload => some ⟨0x23, tag, payload⟩
  | .seek tag payload => some ⟨0x24, tag, payload⟩
  | .axisHalt tag payload => some ⟨0x25, tag, payload⟩
  | .getAxis tag payload => some ⟨0x33, tag, payload⟩
  | .engrave tag payload => some ⟨0x20, tag, payload⟩
  | .stopBand tag payload => some ⟨0x21, tag, payload⟩
  | .abortBand tag payload => some ⟨0x22, tag, payload⟩
  | .readResult tag payload => some ⟨0x36, tag, payload⟩
  | .setMonitor tag payload => some ⟨0x07, tag, payload⟩
  | .monitorRun tag payload => some ⟨0x26, tag, payload⟩
  | .monitorHalt tag payload => some ⟨0x27, tag, payload⟩
  | .alarmAck tag payload => some ⟨0x28, tag, payload⟩
  | .getMonitor tag payload => some ⟨0x35, tag, payload⟩
  | .setNotice tag payload => some ⟨0x08, tag, payload⟩
  | .getStatus tag payload => some ⟨0x30, tag, payload⟩
  | .moduleReset tag payload => some ⟨0x2A, tag, payload⟩
  | .rampUpdate _ => none
  | .settleExpiry _ => none
  | .dwellExpiry _ => none
  | .moveStep _ => none
  | .homeSensorActive _ _ => none
  | .limitSwitchActive _ _ => none
  | .copyComplete => none
  | .patchFillComplete _ => none
  | .conversionComplete _ => none

/-! ### Power-on and module reset (R172, R173) -/

/-- Every block takes its reset state. The input lines keep their levels and the waiting commands stay. -/
def State.powerOn (s : State) : State := { State.reset with pins := s.pins, pending := s.pending }

/-- POWER_ON (R173). -/
def execPowerOn (s : State) : Host.Outcome State Fault Refusal := s.powerOn.done

/-- MODULE_RESET_EFFECT (R172): once the reply's last byte has been sent. -/
def execModuleResetEffect (s : State) : Host.Outcome State Fault Refusal :=
  (if s.link.resetSent || s.link.sending.any Sending.resets then s.powerOn else s).done

/-! ### The link's own requests -/

/-- UNKNOWN_KIND_REQUEST (R165): a kind that names no request is answered UNKNOWN_KIND, whatever its payload. A kind
that names a request is not this command. -/
def execUnknownKindRequest (kind tag : Byte) (payload : List Byte) (s : State) :
    Host.Outcome State Fault Refusal :=
  (if requestKinds.contains kind then s
   else s.request ⟨kind, tag, payload⟩ (some ()) fun _ t => (t, ⟨.unknownKind, none, []⟩)).done

/-- The level and enable of all six groups, those of one group together, in ascending order (R170; DESIGN CHOICE,
notes/assumptions/17.md). -/
def groupBytes (l : Link) : List Byte :=
  l.groups.toList.flatMap fun g => u8 g.level ++ u8 (flagCode g.enabled)

/-- SET_NOTICE as the Link Interface takes it (R170). -/
def takeSetNotice (f : Nat × Nat × Nat) (s : State) : State × Response :=
  if h : f.1 < 6 then
    match flagOf f.2.2 with
    | none => (s, Response.badField (groupBytes s.link))
    | some enabled =>
      let l := { s.link with groups := s.link.groups.set f.1 ⟨min 3 f.2.1, enabled⟩ h }
      ({ s with link := l }, Response.taken (outside 0 3 f.2.1) (groupBytes l))
  else (s, Response.badField (groupBytes s.link))

/-- SET_NOTICE (R170). -/
def execSetNotice (tag : Byte) (payload : List Byte) (s : State) : Host.Outcome State Fault Refusal :=
  (s.request ⟨0x08, tag, payload⟩ (threeBytes payload) takeSetNotice).done

/-- MODULE_RESET as the Link Interface takes it: OK, and no further request is handed (R172). -/
def takeModuleReset (_ : Unit) (s : State) : State × Response :=
  ({ s with link := { s.link with resetTaken := true } }, Response.ok [])

/-- MODULE_RESET (R172). -/
def execModuleReset (tag : Byte) (payload : List Byte) (s : State) : Host.Outcome State Fault Refusal :=
  (s.request ⟨0x2A, tag, payload⟩ (noBytes payload) takeModuleReset).done

end Sys2Proof.Machine
end

