-- ==== Sys2Proof/Machine/Tables.lean ====
section
/-! DEFINITION. The Screen and Curve Tables: cell placement (chapter 2), tone-to-depth conversion (chapter 3), patch
records (section 5.8), and their requests SET_SCREEN, SET_CURVE and SET_PATCH. -/

namespace Sys2Proof.Machine

/-! ### Cell placement (R23 to R25, R31) -/

/-- The cell span in phase units, (65536 − G) × 65536 (section 2.3). -/
def Screen.cellSpan (x : Screen) : Nat := (65536 - x.gap) * 65536

/-- The cell pitch P (R23). -/
def Screen.cellPitch (x : Screen) : Nat := x.cellSpan / x.n

/-- The remainder r (R23). -/
def Screen.remainder (x : Screen) : Nat := x.cellSpan - x.n * x.cellPitch

/-- The odd-track shift D (R24). -/
def Screen.shift (x : Screen) : Nat := x.stagger * x.cellPitch / 65536

/-- The fire count of cell i before the cap: the position d + i × P divided by 65536, rounded up (R25). -/
def rawFireCount (pitch shift i : Nat) : Nat := ceilDiv (shift + i * pitch) 65536

/-- The fire count of cell i of a track whose shift is `shift` (R25). -/
def fireCountOf (pitch shift i : Nat) : Nat := min 65535 (rawFireCount pitch shift i)

/-- The fire count of cell i of an entry on an even or an odd track. -/
def Screen.fireCount (x : Screen) (odd : Bool) (i : Nat) : Nat :=
  fireCountOf x.cellPitch (if odd then x.shift else 0) i

/-- The last odd cell was held at 65535 by the cap (R25). -/
def Screen.capped (x : Screen) : Bool := decide (65535 < rawFireCount x.cellPitch x.shift (x.n - 1))

/-- The fire count of cell i of the track numbered `number`, from the placement context's list of its parity
(R24, R27). -/
def PlacementContext.fireCount (c : PlacementContext) (number i : Nat) : Nat :=
  fireCountOf c.cellPitch (if number % 2 = 1 then c.shift else 0) i

/-- The cell rate for N cells in a period of p µs (R31); for p = 0 the manual gives none. -/
def cellRate (n p : Nat) : Nat := if p = 0 then Config.cellRateAtZeroPeriod n else n * 1000000 / p

/-- The placement context of an entry for a measured period (R27). -/
def PlacementContext.build (number : Nat) (x : Screen) (period : Nat) : PlacementContext where
  screen := number
  n := x.n
  gap := x.gap
  pitch := x.pitch
  cellPitch := x.cellPitch
  remainder := x.remainder
  shift := x.shift
  rate := cellRate x.n period
  period := period

/-! ### Tone-to-depth conversion (R39 to R43) -/

/-- The raw value of a tone on a curve (R39). -/
def rawValue (knots : List Nat) (tone : Nat) : Int :=
  let low : Int := knots.getD (tone / 16) 0
  let high : Int := knots.getD (tone / 16 + 1) 0
  low + (high - low) * (tone % 16 : Nat) / 16

/-- The gain and offset stage (R40). -/
def scaled (c : Calibration) (v : Int) : Int := v * (32768 + c.gain) / 32768 + c.offset

/-- The clamp stage (R41). -/
def clampDepth (c : Calibration) (w : Int) : DepthEntry :=
  if w < c.floor then ⟨c.floor, .low⟩
  else if (c.ceiling : Int) < w then ⟨c.ceiling, .high⟩
  else ⟨w.toNat, .none⟩

/-- The depth and mark of a tone (R39 to R41); tone 0 is blank. -/
def depthEntry (knots : List Nat) (c : Calibration) (tone : Nat) : DepthEntry :=
  if tone = 0 then ⟨0, .none⟩ else clampDepth c (scaled c (rawValue knots tone))

/-- The 256 entries in tone order. -/
def depthEntries (knots : List Nat) (c : Calibration) : List DepthEntry :=
  (List.range 256).map (depthEntry knots c)

/-- How many entries carry a mark. -/
def marked (m : ClampMark) (es : List DepthEntry) : Nat := (es.filter fun e => e.mark = m).length

/-- The depth table built from a curve and a calibration (R43). -/
def DepthTable.build (curve : Nat) (knots : List Nat) (c : Calibration) : DepthTable where
  curve := curve
  calibration := c
  entries := depthEntries knots c
  lows := marked .low (depthEntries knots c)
  highs := marked .high (depthEntries knots c)

/-! ### Patch tracks (R81, R83) -/

/-- The cycle of a record: the sum of its runs. -/
def patchCycle (pairs : List PatchPair) : Nat := (pairs.map PatchPair.run).sum

/-- The tone of the pair into which a place of the cycle falls. -/
def patchToneAt : List PatchPair → Nat → Byte
  | [], _ => 0
  | p :: ps, i => if i < p.run then p.tone else patchToneAt ps (i - p.run)

/-- The tones of a patch track of N cells (R83). -/
def patchTones (pairs : List PatchPair) (n : Nat) : List Byte :=
  (List.range n).map fun i => patchToneAt pairs (i % patchCycle pairs)

/-! ### SET_SCREEN (R19 to R22) -/

/-- The derived values of an entry that a reply carries (R19), absent for an undefined entry. -/
def screenDerived (x : Screen) : List Byte :=
  let when (n : Nat) : Option Nat := if x.n = 0 then none else some n
  opt32 (when x.cellPitch) ++ opt16 (when x.remainder) ++ opt32 (when x.shift) ++
    opt16 (when (x.fireCount false 0)) ++ opt16 (when (x.fireCount false (x.n - 1))) ++
    opt16 (when (x.fireCount true 0)) ++ opt16 (when (x.fireCount true (x.n - 1))) ++
    opt16 (when (65536 - x.fireCount false (x.n - 1))) ++ opt16 (when (65536 - x.fireCount true (x.n - 1))) ++
    opt8 (when (flagCode x.capped))

/-- The content of a SET_SCREEN reply for a valid screen number (R19). -/
def screenContent (i : Nat) (x : Screen) : List Byte :=
  u8 i ++ u16 x.n ++ u16 x.gap ++ u16 x.stagger ++ u16 x.pitch ++ screenDerived x

/-- The entry a WRITE with N not 0 stores: G and S are saturated (R20). -/
def ScreenFields.entry (f : ScreenFields) : Screen := ⟨f.n, min 8191 f.gap, min 65535 f.stagger, f.pitch⟩

/-- Stores an entry. -/
def State.setScreen (s : State) (i : Fin 16) (x : Screen) : State :=
  { s with screens := s.screens.set i.val x i.isLt }

/-- A WRITE to an entry (R20, R21). -/
def writeScreen (i : Fin 16) (f : ScreenFields) (s : State) : State × Response :=
  if s.screenInUse i.val then (s, Response.busy (screenContent i.val (s.screen i.val)))
  else if f.n = 0 then (s.setScreen i Screen.reset, Response.ok (screenContent i.val Screen.reset))
  else if outside 64 16384 f.n || outside 1 4095 f.pitch then
    (s, Response.badField (screenContent i.val (s.screen i.val)))
  else
    (s.setScreen i f.entry,
      Response.taken (outside 0 8191 f.gap || outside 0 65535 f.stagger) (screenContent i.val f.entry))

/-- SET_SCREEN as the SCT takes it (R19). -/
def takeSetScreen (f : ScreenFields) (s : State) : State × Response :=
  if h : f.screen < 16 then
    match tableModeOf f.mode with
    | some .write => writeScreen ⟨f.screen, h⟩ f s
    | some .read => (s, Response.ok (screenContent f.screen (s.screen f.screen)))
    | some .preview => (s, Response.badField (screenContent f.screen (s.screen f.screen)))
    | none => (s, Response.badField (screenContent f.screen (s.screen f.screen)))
  else (s, Response.badField [])

/-- SET_SCREEN (R19). -/
def execSetScreen (tag : Byte) (payload : List Byte) (s : State) : Host.Outcome State Fault Refusal :=
  (s.request ⟨0x04, tag, payload⟩ (screenFields payload) takeSetScreen).done

/-! ### SET_CURVE (R34 to R37) -/

/-- The content every SET_CURVE reply to a valid curve number carries (R34). -/
def curveContent (i : Nat) (knots : List Nat) : List Byte := u8 i ++ knots.flatMap u16

/-- A calibration in a reply: GN, OF, DF, DC. -/
def calibrationBytes (c : Calibration) : List Byte := i16 c.gain ++ i16 c.offset ++ u16 c.floor ++ u16 c.ceiling

/-- The further fields of a PREVIEW reply (R36). -/
def previewContent (c : Calibration) (es : List DepthEntry) : List Byte :=
  calibrationBytes c ++ (es.flatMap fun e => u16 e.depth) ++ (es.flatMap fun e => u8 e.mark.code) ++
    u8 (marked .low es) ++ u8 (marked .high es)

/-- Stores a curve's knots. -/
def State.setCurve (s : State) (i : Fin 8) (knots : List Nat) : State :=
  { s with curves := s.curves.set i.val knots i.isLt }

/-- A WRITE to a curve: each knot above 4095 is saturated (R35). -/
def writeCurve (i : Fin 8) (f : CurveFields) (s : State) : State × Response :=
  if s.curveInUse i.val then (s, Response.busy (curveContent i.val (s.curve i.val)))
  else
    let knots := f.knots.map (min 4095)
    (s.setCurve i knots, Response.taken (f.knots.any (outside 0 4095)) (curveContent i.val knots))

/-- A PREVIEW of a curve for a head (R36). -/
def previewCurve (i : Fin 8) (f : CurveFields) (s : State) : State × Response :=
  let base := curveContent i.val (s.curve i.val)
  match headOf f.head with
  | none => (s, Response.badField base)
  | some h =>
    if s.fitted h then
      let c := (s.heads.get h).settings.calibration
      (s, Response.ok (base ++ previewContent c (depthEntries (s.curve i.val) c)))
    else (s, Response.refused .notFitted base)

/-- SET_CURVE as the SCT takes it (R34). -/
def takeSetCurve (f : CurveFields) (s : State) : State × Response :=
  if h : f.curve < 8 then
    match curveModeOf f.mode with
    | some .write => writeCurve ⟨f.curve, h⟩ f s
    | some .read => (s, Response.ok (curveContent f.curve (s.curve f.curve)))
    | some .preview => previewCurve ⟨f.curve, h⟩ f s
    | none => (s, Response.badField (curveContent f.curve (s.curve f.curve)))
  else (s, Response.badField [])

/-- SET_CURVE (R34). -/
def execSetCurve (tag : Byte) (payload : List Byte) (s : State) : Host.Outcome State Fault Refusal :=
  (s.request ⟨0x05, tag, payload⟩ (curveFields payload) takeSetCurve).done

/-! ### SET_PATCH (R82) -/

/-- The content of a SET_PATCH reply for a valid, fitted head. -/
def patchContent (h : HeadId) (pairs : List PatchPair) : List Byte :=
  u8 h.val ++ u8 pairs.length ++ (pairs.flatMap fun p => p.tone :: u16 p.run) ++ u32 (patchCycle pairs)

/-- A WRITE to a head's patch record. -/
def writePatch (h : HeadId) (f : PatchFields) (s : State) : State × Response :=
  if s.patchInUse h then (s, Response.busy (patchContent h (s.patches.get h)))
  else if outside 1 32 f.pairs.length then (s, Response.badField (patchContent h (s.patches.get h)))
  else
    let pairs := f.pairs.map fun p => { p with run := clampTo 1 4096 p.run }
    ({ s with patches := s.patches.set h pairs },
      Response.taken (f.pairs.any fun p => outside 1 4096 p.run) (patchContent h pairs))

/-- SET_PATCH as the SCT takes it (R82): a head above 3 or a bad mode is BAD_FIELD before an unfitted head is
NOT_FITTED. -/
def takeSetPatch (f : PatchFields) (s : State) : State × Response :=
  match headOf f.head, tableModeOf f.mode with
  | none, _ => (s, Response.badField [])
  | some h, none => (s, Response.badField (if s.fitted h then patchContent h (s.patches.get h) else []))
  | some h, some mode =>
    if s.fitted h then
      match mode with
      | .write => writePatch h f s
      | .read => (s, Response.ok (patchContent h (s.patches.get h)))
      | .preview => (s, Response.badField (patchContent h (s.patches.get h)))
    else (s, Response.refused .notFitted [])

/-- SET_PATCH (R82). -/
def execSetPatch (tag : Byte) (payload : List Byte) (s : State) : Host.Outcome State Fault Refusal :=
  (s.request ⟨0x06, tag, payload⟩ (patchFields payload) takeSetPatch).done

end Sys2Proof.Machine
end

