-- ==== Sys2Proof/Machine/Heads.lean ====
section
/-! DEFINITION. The Head Drive Unit (chapter 6): ramps, the five orders, settle and dwell, cell delivery, the inhibit
latch, and the requests SET_HEAD and HEAD_CLEAR. -/

namespace Sys2Proof.Machine

/-! ### Ramps (R87 to R89, R93) -/

/-- What a head reports to its Band Sequencer (R93). -/
inductive HeadReport where
  | none
  | engaged
  | parked
  deriving DecidableEq, Repr

/-- The update interval, 100 µs × 2^RC (R87). -/
def HeadSettings.interval (c : HeadSettings) : Nat := 100 * 2 ^ c.rampCode

/-- The shape list Q_0 to Q_16 of a sine ramp (R89). -/
def sineList : List Nat := [0, 3, 10, 22, 38, 57, 79, 103, 128, 153, 177, 199, 218, 234, 246, 253, 256]

/-- The target of segment j: start + trunc(Δ × Q_j / 256) (R89). -/
def segmentTarget (start : Nat) (delta : Int) (j : Nat) : Nat :=
  (start + (delta * (sineList.getD j 256 : Nat)).tdiv 256).toNat

/-- The segment a sine ramp passes to at level L: segment j, or the first after it that holds movement (R89). `skips`
bounds the segments passed over. -/
def segmentFrom (start : Nat) (delta : Int) (level : Nat) : Nat → Nat → Segment
  | 0, j => ⟨j, segmentTarget start delta j⟩
  | skips + 1, j =>
    if segmentTarget start delta j = level ∧ j < 16 then segmentFrom start delta level skips (j + 1)
    else ⟨j, segmentTarget start delta j⟩

/-- A value moved toward a target by at most `step` (R88). -/
def approach (level target step : Nat) : Nat :=
  if level ≤ target then level + min step (target - level) else level - min step (level - target)

/-- The end of a ramp: an engage ramp takes the head to SETTLING, or with a settle time of 0 to READY, and a retract
ramp to PARKED (R93, R94). -/
def Head.rampEnd (h : Head) : Head × HeadReport :=
  match h.state with
  | .engaging =>
    if h.settings.settle = 0 then ({ h with state := .ready, ramp := none }, .engaged)
    else ({ h with state := .settling, ramp := none, settleTimer := some (h.settings.settle * 1000) }, .none)
  | .retracting => ({ h with state := .parked, ramp := none }, .parked)
  | .parked => ({ h with ramp := none }, .none)
  | .settling => ({ h with ramp := none }, .none)
  | .ready => ({ h with ramp := none }, .none)
  | .cutting => ({ h with ramp := none }, .none)

/-- The ramp context built at a ramp's start (R87). A SINE ramp passes over its first segments that hold no movement
already here, before its first update (DESIGN CHOICE, notes/assumptions/33.md). -/
def Head.rampTo (h : Head) (target now : Nat) : Ramp :=
  let delta : Int := (target : Int) - h.level
  { shape := h.settings.shape
    start := h.level
    target := target
    delta := delta
    segment := match h.settings.shape with
      | .linear => none
      | .sine => some (segmentFrom h.level delta h.level 16 1)
    next := now + h.settings.interval }

/-- A ramp starts and replaces any that runs; one whose start level equals its target ends at its start (R87). -/
def Head.startRamp (h : Head) (state : HeadState) (target now : Nat) : Head × HeadReport :=
  let g := { h with state := state, ramp := some (h.rampTo target now) }
  if h.level = target then g.rampEnd else (g, .none)

/-- What L moves toward at the next update: the ramp's target, or the present segment's (R88, R89). -/
def Ramp.goal (r : Ramp) : Nat :=
  match r.segment with
  | some x => x.target
  | none => r.target

/-- The segment after an update that brought L to `level` (R89). -/
def Ramp.advance (r : Ramp) (level : Nat) : Option Segment :=
  r.segment.map fun x => if level = x.target then segmentFrom r.start r.delta level 16 (x.number + 1) else x

/-- An update of a ramp (R87 to R89). -/
def Head.rampUpdate (h : Head) (r : Ramp) : Head × HeadReport :=
  let level := approach h.level r.goal h.settings.rampStep
  if level = r.target then { h with level := level }.rampEnd
  else
    ({ h with
        level := level
        ramp := some { r with segment := r.advance level, next := r.next + h.settings.interval } }, .none)

/-! ### Orders (R90 to R92, R96, R97) -/

/-- The engage order (R90). -/
def Head.engage (h : Head) (now : Nat) : Head × HeadReport :=
  match h.state with
  | .parked => h.startRamp .engaging h.settings.level now
  | .retracting => h.startRamp .engaging h.settings.level now
  | .engaging => (h, .none)
  | .settling => (h, .none)
  | .ready => ({ h with dwellTimer := none }, .engaged)
  | .cutting => (h, .none)

/-- The retract order (R91). -/
def Head.retract (h : Head) (now : Nat) : Head × HeadReport :=
  match h.state with
  | .parked => (h, .none)
  | .retracting => (h, .none)
  | .engaging => h.startRamp .retracting 0 now
  | .settling => { h with settleTimer := none }.startRamp .retracting 0 now
  | .ready => { h with dwellTimer := none }.startRamp .retracting 0 now
  | .cutting => { h with depth := 0, nextCell := none }.startRamp .retracting 0 now

/-- What an immediate retract makes of a head that is not PARKED (R92). -/
def Head.dropped (h : Head) : Head :=
  { h with
    state := .parked
    level := 0
    depth := 0
    ramp := none
    settleTimer := none
    dwellTimer := none
    nextCell := none }

/-- The immediate retract (R92). -/
def Head.immediate (h : Head) : Head × HeadReport :=
  match h.state with
  | .parked => (h, .none)
  | .retracting => (h.dropped, .parked)
  | .engaging => (h.dropped, .parked)
  | .settling => (h.dropped, .parked)
  | .ready => (h.dropped, .parked)
  | .cutting => (h.dropped, .parked)

/-- The cut order: obeyed in READY and CUTTING alone (R96). -/
def Head.cut (h : Head) : Head :=
  match h.state with
  | .ready => { h with state := .cutting, nextCell := some 0 }
  | .cutting => { h with nextCell := some 0 }
  | .parked => h
  | .engaging => h
  | .settling => h
  | .retracting => h

/-- The pause and release orders: a CUTTING head goes to READY with depth 0 (R97). -/
def Head.uncut (h : Head) : Head :=
  match h.state with
  | .cutting => { h with state := .ready, depth := 0, nextCell := none }
  | .parked => h
  | .engaging => h
  | .settling => h
  | .ready => h
  | .retracting => h

/-- The settle timer's expiry (R94). -/
def Head.settleOver (h : Head) : Head := { h with state := .ready, settleTimer := none }

/-- The dwell timer is loaded when a READY head has no band active and its timer does not run; a dwell of 0 expires
as it is loaded, and the head retracts (R95). -/
def Head.dwell (h : Head) (now : Nat) : Head × HeadReport :=
  match h.state, h.dwellTimer with
  | .ready, none =>
    if h.settings.dwell = 0 then h.startRamp .retracting 0 now
    else ({ h with dwellTimer := some (h.settings.dwell * 10000) }, .none)
  | .ready, some _ => (h, .none)
  | .parked, _ => (h, .none)
  | .engaging, _ => (h, .none)
  | .settling, _ => (h, .none)
  | .cutting, _ => (h, .none)
  | .retracting, _ => (h, .none)

/-! ### Cell delivery (R28, R44, R45, R98) -/

/-- What delivering cells leaves: the next-cell pointer, the depth held, and the clamps reported. -/
structure Delivery where
  next : Nat
  depth : Nat
  lows : Nat
  highs : Nat
  deriving DecidableEq, Repr

/-- The entry of the depth table for a tone; an unbuilt table has none that any block reads (R42). -/
def Head.entryFor (h : Head) (tone : Byte) : DepthEntry :=
  ((h.table.map DepthTable.entries).getD []).getD tone.toNat ⟨0, .none⟩

/-- The entry a cell is delivered from: depth 0 on a BLANK buffer and for tone 0, without a lookup (R44, R98). -/
def Head.cellEntry (h : Head) (kind : BufferKind) (tones : Memory) (i : Nat) : DepthEntry :=
  if kind = .blank ∨ Memory.read tones i = 0 then ⟨0, .none⟩ else h.entryFor (Memory.read tones i)

/-- One cell delivered from an entry. -/
def Delivery.cell (d : Delivery) (e : DepthEntry) : Delivery where
  next := d.next + 1
  depth := e.depth
  lows := d.lows + if e.mark = .low then 1 else 0
  highs := d.highs + if e.mark = .high then 1 else 0

/-- Delivers cells in ascending order while the relative count is at or above the next cell's fire count; `left` is
how many cells of the track the pointer has not passed (R28). -/
def Head.deliver (h : Head) (c : PlacementContext) (t : BufferTrack) (tones : Memory) (rel : Nat) :
    Nat → Delivery → Delivery
  | 0, d => d
  | left + 1, d =>
    if c.fireCount t.number d.next ≤ rel then
      h.deliver c t tones rel left (d.cell (h.cellEntry t.kind tones d.next))
    else d

/-! ### SET_HEAD (R38, R101, R102) -/

/-- A head's settings in a reply, in the order of section 6.8. -/
def headSettingsBytes (c : HeadSettings) : List Byte :=
  u16 c.level ++ u8 c.rampStep ++ u8 c.rampCode ++ u8 c.shape.code ++ u8 c.settle ++ u8 c.dwell ++ u16 c.fmin ++
    u16 c.fmax ++ u8 c.suspendLimit ++ u8 c.leadMark ++ u16 c.startAngle ++ calibrationBytes c.calibration

/-- The calibration a SET_HEAD stores (R38). -/
def HeadFields.calibration (f : HeadFields) : Calibration where
  gain := clampInt (-4096) 4095 f.gain
  offset := clampInt (-512) 511 f.offset
  floor := clampTo 1 4095 f.floor
  ceiling := max (clampTo 1 4095 f.floor) (min 4095 f.ceiling)

/-- Whether a calibration field was saturated (R38). -/
def HeadFields.calibrationSaturated (f : HeadFields) : Bool :=
  outsideInt (-4096) 4095 f.gain || outsideInt (-512) 511 f.offset || outside 1 4095 f.floor ||
    outside (clampTo 1 4095 f.floor) 4095 f.ceiling

/-- The settings a SET_HEAD stores (R102). An RS of 0 is taken as 1. -/
def HeadFields.settings (f : HeadFields) (shape : Shape) : HeadSettings where
  level := clampTo 1 4095 f.level
  rampStep := clampTo 1 255 f.rampStep
  rampCode := min 7 f.rampCode
  shape := shape
  settle := min 255 f.settle
  dwell := min 255 f.dwell
  fmin := clampTo 500 20000 f.fmin
  fmax := max (clampTo 500 20000 f.fmin) (clampTo 500 20000 f.fmax)
  suspendLimit := clampTo 1 255 f.suspendLimit
  leadMark := min 255 f.leadMark
  startAngle := f.startAngle
  calibration := f.calibration

/-- Whether a field of a SET_HEAD was saturated (R102); an RS of 0 is not. -/
def HeadFields.saturated (f : HeadFields) : Bool :=
  outside 1 4095 f.level || outside 0 255 f.rampStep || outside 0 7 f.rampCode || outside 0 255 f.settle ||
    outside 0 255 f.dwell || outside 500 20000 f.fmin || outside 500 20000 f.fmax ||
    decide (clampTo 500 20000 f.fmax < clampTo 500 20000 f.fmin) || outside 1 255 f.suspendLimit ||
    outside 0 255 f.leadMark || f.calibrationSaturated

/-- SET_HEAD as the HDU takes it (R101, R102). A new start angle acts from the next count (R12). A refusal carries the
head's settings; one for a head above 3, which has none, carries no content (DESIGN CHOICE, notes/assumptions/17.md). -/
def takeSetHead (f : HeadFields) (s : State) : State × Response :=
  match headOf f.head with
  | none => (s, Response.badField [])
  | some h =>
    let now := headSettingsBytes (s.heads.get h).settings
    if s.fitted h then
      if !(s.held h).isEmpty || decide ((s.heads.get h).state ≠ .parked) then (s, Response.busy now)
      else
        match shapeOf f.shape with
        | none => (s, Response.badField now)
        | some shape =>
          (s.updHead h fun x => { x with settings := f.settings shape },
            Response.taken f.saturated (headSettingsBytes (f.settings shape)))
    else (s, Response.refused .notFitted now)

/-- SET_HEAD (R101). -/
def execSetHead (tag : Byte) (payload : List Byte) (s : State) : Host.Outcome State Fault Refusal :=
  (s.request ⟨0x02, tag, payload⟩ (headFields payload) takeSetHead).done

/-! ### HEAD_CLEAR (R100, R158) -/

/-- HEAD_CLEAR as the HDU takes it: refused while a latched retract-action alarm names the head. -/
def takeHeadClear (n : Nat) (s : State) : State × Response :=
  onFitted n s fun h =>
    match s.monitor.holding h with
    | some i => (s, Response.refused .stillActive (u8 i.val))
    | none => (s.updHead h fun x => { x with inhibit := false }, Response.ok [])

/-- HEAD_CLEAR (R100). -/
def execHeadClear (tag : Byte) (payload : List Byte) (s : State) : Host.Outcome State Fault Refusal :=
  (s.request ⟨0x29, tag, payload⟩ (oneByte payload) takeHeadClear).done

end Sys2Proof.Machine
end

