-- ==== Sys2Proof/Machine/Axes.lean ====
section
/-! DEFINITION. The Carriage Axes (chapter 7): moves, homing, seeking, halting, faults, and the requests SET_AXIS,
HOME, SEEK and AXIS_HALT. -/

namespace Sys2Proof.Machine

/-! ### Moves (R105) -/

/-- A move of `n` steps at RATE that starts now. -/
def Axis.moveOf (a : Axis) (up : Bool) (n now : Nat) : Move := ⟨up, 0, n, now, 1000000, a.settings.rate⟩

/-- The homing move: downward at a quarter of RATE, HOME_SPAN steps at most. -/
def Axis.homingMove (a : Axis) (now : Nat) : Move := ⟨false, 0, a.settings.homeSpan, now, 4000000, a.settings.rate⟩

/-- The time at which the move's next step falls due. -/
def Move.due (m : Move) : Nat := m.start + ceilDiv ((m.issued + 1) * m.scale) m.rate

/-- The move after its next step. -/
def Move.stepped (m : Move) : Move := { m with issued := m.issued + 1, toGo := m.toGo - 1 }

/-- A move starts: the direction output is set for its direction (R105). -/
def Axis.drive (a : Axis) (m : Move) : Axis := { a with move := some m, outputs := { a.outputs with up := m.up } }

/-- The step output gives `n` pulses, one for each step issued (R105). -/
def Axis.pulse (a : Axis) (n : Nat) : Axis := { a with outputs := { a.outputs with pulses := a.outputs.pulses + n } }

/-- A position after one step. -/
def stepFrom (up : Bool) (position : Nat) : Nat := if up then position + 1 else position - 1

/-- The present position of a homed axis. -/
def Axis.pos (a : Axis) : Nat := a.position.getD 0

/-- A move from the present position to another at RATE. -/
def Axis.moveTo (a : Axis) (target now : Nat) : Move :=
  if a.pos ≤ target then a.moveOf true (target - a.pos) now else a.moveOf false (a.pos - target) now

/-! ### Gaining and losing the position -/

/-- The position, or the last known position when UNHOMED (R116). -/
def Axis.reported (a : Axis) : Option Nat :=
  match a.state with
  | .unhomed => a.lastKnown
  | .homing => a.position
  | .idle => a.position
  | .seeking => a.position
  | .feeding => a.position

/-- The last known position after a loss: a homed axis's position as it stands (R105). -/
def Axis.known (a : Axis) : Option Nat := if a.homed then a.position else a.lastKnown

/-- The axis becomes UNHOMED with a last fault: any move stops, and span, target, home steps and feed context go
(R107, R114, R115). -/
def Axis.lost (a : Axis) (fault : AxisFault) : Axis :=
  { a with
    state := .unhomed
    position := none
    lastKnown := a.known
    target := none
    move := none
    homeSteps := none
    lastFault := fault
    feed := none }

/-- The axis is homed: IDLE at position 0 with no fault (R110, R111). -/
def Axis.foundHome (a : Axis) : Axis :=
  { a with
    state := .idle
    position := some 0
    lastKnown := a.known
    target := none
    move := none
    homeSteps := none
    lastFault := .none }

/-- The axis starts homing (R110). -/
def Axis.startHome (a : Axis) (now : Nat) : Axis :=
  { a with
    state := .homing
    position := none
    lastKnown := a.known
    target := none
    homeSteps := some 0 }.drive (a.homingMove now)

/-- The axis stands IDLE where it is, with no move (R112, R113). -/
def Axis.rest (a : Axis) : Axis := { a with state := .idle, target := none, move := none }

/-- The axis starts or retargets a seek (R112). -/
def Axis.startSeek (a : Axis) (target now : Nat) : Axis :=
  { a with state := .seeking, target := some target }.drive (a.moveTo target now)

/-- Posts the axis's AXIS entry with an event (R116). -/
def State.postAxis (s : State) (k : HeadId) (e : AxisEvent) : State :=
  let a := s.axes.get k
  s.post (.axis k) (.axis e a.state a.lastFault a.reported s.timestamp)

/-- The limit switch is watched while the axis is HOMING, SEEKING or FEEDING (R114). -/
def Axis.watched (a : Axis) : Bool :=
  match a.state with
  | .homing => true
  | .seeking => true
  | .feeding => true
  | .unhomed => false
  | .idle => false

/-- Whether an axis stands on its limit switch in a state that watches it. -/
def State.onLimit (s : State) (k : HeadId) : Bool := s.pins.limitSwitch.get k && (s.axes.get k).watched

/-- The limit fault of an axis: UNHOMED with LIMIT_SWITCH, and the posting (R114). -/
def State.limitStop (s : State) (k : HeadId) : State :=
  (s.updAxis k fun a => a.lost .limitSwitch).postAxis k .limitSwitch

/-- A limit switch already active as the axis enters HOMING or SEEKING is taken as a fault (R114). -/
def State.limitOnEntry (s : State) (k : HeadId) : State := if s.onLimit k then s.limitStop k else s

/-! ### SET_AXIS (R106) -/

/-- An axis's settings in a reply. -/
def axisSettingsBytes (c : AxisSettings) : List Byte := u32 c.origin ++ u32 c.maxpos ++ u32 c.homeSpan ++ u32 c.rate

/-- The settings a SET_AXIS stores. -/
def AxisFields.settings (f : AxisFields) : AxisSettings where
  origin := min 4000000 f.origin
  maxpos := clampTo 1 4000000 f.maxpos
  homeSpan := clampTo 1 8000000 f.homeSpan
  rate := clampTo 100 200000 f.rate

/-- Whether a field of a SET_AXIS was saturated. -/
def AxisFields.saturated (f : AxisFields) : Bool :=
  outside 0 4000000 f.origin || outside 1 4000000 f.maxpos || outside 1 8000000 f.homeSpan ||
    outside 100 200000 f.rate

/-- Whether SET_AXIS may write an axis: UNHOMED, or IDLE with its head PARKED and no band held on it. -/
def State.axisWritable (s : State) (k : HeadId) : Bool :=
  match (s.axes.get k).state with
  | .unhomed => true
  | .idle => decide ((s.heads.get k).state = .parked) && (s.held k).isEmpty
  | .homing => false
  | .seeking => false
  | .feeding => false

/-- SET_AXIS as the CA takes it. -/
def takeSetAxis (f : AxisFields) (s : State) : State × Response :=
  onFitted f.axis s fun k =>
    let a := s.axes.get k
    let now := axisSettingsBytes a.settings
    let c := f.settings
    let idle : Bool := decide (a.state = .idle)
    if !s.axisWritable k then (s, Response.busy now)
    else if idle && decide (c.maxpos < a.pos) then (s, Response.refused .range now)
    else if idle && !s.clearOf k (c.origin + a.pos, c.origin + a.pos) then (s, Response.refused .collision now)
    else
      (s.updAxis k fun x => { x with settings := c }, Response.taken f.saturated (axisSettingsBytes c))

/-- SET_AXIS (R106). -/
def execSetAxis (tag : Byte) (payload : List Byte) (s : State) : Host.Outcome State Fault Refusal :=
  (s.request ⟨0x03, tag, payload⟩ (axisFields payload) takeSetAxis).done

/-! ### HOME (R110) -/

/-- The seventh check of HOME: every fitted axis below is homed and clear of ORIGIN_k, and ORIGIN_k is clear of the
nearest fitted axis above, where that is homed or HOMING. -/
def State.homeClear (s : State) (k : HeadId) : Bool :=
  let origin := (s.axes.get k).settings.origin
  (heads4.all fun j =>
    !(decide (j.val < k.val) && s.fitted j) ||
      ((s.axes.get j).homed && apart s.machine.minsep (s.span j) (some (origin, origin)))) &&
    apart s.machine.minsep (some (origin, origin)) (s.spanAt s.ctu.acting.fitted (k.val + 1))

/-- The refusal of a HOME, by its checks 3 to 7. -/
def State.homeRefusal (s : State) (k : HeadId) : Option Response :=
  let a := s.axes.get k
  if a.state = .homing ∨ a.state = .seeking then some (Response.busy [])
  else if decide (a.state = .feeding) || !(s.held k).isEmpty then some (Response.refused .bandOwned [])
  else if !s.ctu.ready then some (Response.refused .notReady [])
  else if (s.heads.get k).state ≠ .parked then some (Response.refused .headEngaged [])
  else if !s.homeClear k then some (Response.refused .notClear [])
  else none

/-- HOME as the CA takes it: homed at once when the home sensor is active, HOMING otherwise. -/
def takeHome (n : Nat) (s : State) : State × Response :=
  onFitted n s fun k =>
    match s.homeRefusal k with
    | some r => (s, r)
    | none =>
      if s.pins.homeSensor.get k then ((s.updAxis k Axis.foundHome).postAxis k .homed, Response.ok [])
      else ((s.updAxis k fun a => a.startHome s.clock).limitOnEntry k, Response.ok [])

/-- HOME (R110). -/
def execHome (tag : Byte) (payload : List Byte) (s : State) : Host.Outcome State Fault Refusal :=
  (s.request ⟨0x23, tag, payload⟩ (oneByte payload) takeHome).done

/-! ### SEEK (R112) -/

/-- The refusal of a SEEK before its separation test, by its checks 3 to 6. -/
def State.seekRefusal (s : State) (k : HeadId) : Option Reason :=
  if !s.ctu.ready then some .notReady
  else if !s.allHomed then some .notHomed
  else if decide ((s.axes.get k).state = .feeding) || !(s.held k).isEmpty then some .bandOwned
  else if (s.heads.get k).state ≠ .parked then some .headEngaged
  else none

/-- The target of a SEEK clamped to 0..MAXPOS. -/
def Axis.clampTarget (a : Axis) (target : Int) : Nat := (clampInt 0 a.settings.maxpos target).toNat

/-- A SEEK that passes its checks: an arrival at once, or a new or retargeted seek. -/
def State.seekTo (s : State) (k : HeadId) (target : Nat) : State :=
  if target = (s.axes.get k).pos then (s.updAxis k Axis.rest).postAxis k .arrived
  else (s.updAxis k fun a => a.startSeek target s.clock).limitOnEntry k

/-- SEEK as the CA takes it. A refusal carries the clamped target (R112); one for an axis above 3, which has no MAXPOS
to clamp to, carries no content (DESIGN CHOICE, notes/assumptions/17.md). -/
def takeSeek (f : SeekFields) (s : State) : State × Response :=
  match headOf f.axis with
  | none => (s, Response.badField [])
  | some k =>
    let a := s.axes.get k
    let target := a.clampTarget f.target
    if s.fitted k then
      match s.seekRefusal k with
      | some r => (s, Response.refused r (u32 target))
      | none =>
        if s.clearOf k (spanOver a.settings.origin [a.pos, target]) then
          (s.seekTo k target, Response.taken (outsideInt 0 a.settings.maxpos f.target) (u32 target))
        else (s, Response.refused .collision (u32 target))
    else (s, Response.refused .notFitted (u32 target))

/-- SEEK (R112). -/
def execSeek (tag : Byte) (payload : List Byte) (s : State) : Host.Outcome State Fault Refusal :=
  (s.request ⟨0x24, tag, payload⟩ (seekFields payload) takeSeek).done

/-! ### AXIS_HALT (R113) -/

/-- AXIS_HALT as the CA takes it. -/
def takeAxisHalt (n : Nat) (s : State) : State × Response :=
  onFitted n s fun k =>
    match (s.axes.get k).state with
    | .seeking => (s.updAxis k Axis.rest, Response.ok [])
    | .homing => (s.updAxis k fun a => a.lost .none, Response.ok [])
    | .feeding => (s, Response.refused .bandOwned [])
    | .idle => (s, Response.ok [])
    | .unhomed => (s, Response.ok [])

/-- AXIS_HALT (R113). -/
def execAxisHalt (tag : Byte) (payload : List Byte) (s : State) : Host.Outcome State Fault Refusal :=
  (s.request ⟨0x25, tag, payload⟩ (oneByte payload) takeAxisHalt).done

end Sys2Proof.Machine
end

