-- ==== Sys2Proof/Machine/Store.lean ====
section
/-! DEFINITION. The Track Store's own operations (chapter 4): opening and continuing tracks, descriptors that leave a
queue, and the starvation state. -/

namespace Sys2Proof.Machine

/-! ### Descriptors that leave a queue (R59, R60) -/

/-- Replaces a head's queue. -/
def Store.setQueue (t : Store) (h : HeadId) (q : List Descriptor) : Store :=
  { t with queues := t.queues.set h q }

/-- The descriptors of a head's queue that satisfy a test leave it: they return to the pool and their pages join the
tail of the free-page list, in queue order (R59). -/
def Store.discard (t : Store) (h : HeadId) (p : Descriptor → Bool) : Store :=
  let gone := (t.queues.get h).filter p
  { t with
    free := t.free.give (gone.flatMap Descriptor.pages)
    freeDescriptors := t.freeDescriptors + gone.length
    queues := t.queues.set h ((t.queues.get h).filter fun d => !p d) }

/-- The front descriptor leaves the queue and returns to the pool; its pages pass to whoever was granted it (R60). -/
def Store.grantFront (t : Store) (h : HeadId) : Store :=
  { t with
    freeDescriptors := t.freeDescriptors + 1
    queues := t.queues.set h (t.queues.get h).tail }

/-- Pages given back join the tail of the free-page list (R60). -/
def Store.giveBack (t : Store) (pages : List Nat) : Store := { t with free := t.free.give pages }

/-! ### Opening and continuing (R51, R53, R56) -/

/-- Inserts a descriptor at the place its number takes in ascending order (R51). -/
def insertDescriptor (d : Descriptor) : List Descriptor → List Descriptor
  | [] => [d]
  | e :: q => if d.number < e.number then d :: e :: q else e :: insertDescriptor d q

/-- Pages a new track of a kind takes at its opening. -/
def pagesFor (kind : TrackKind) (n : Nat) : Nat :=
  match kind with
  | .data => pagesNeeded n
  | .blank => 0
  | .again => 0

/-- Opens a track (R56). -/
def Store.openTrack (t : Store) (h : HeadId) (kind : TrackKind) (number n : Nat) (tones : List Byte) : Store :=
  let taken := t.free.take (pagesFor kind n)
  let d : Descriptor := ⟨number, kind, n, tones.length, taken.1⟩
  { t with
    dram := storeTones taken.1 0 tones t.dram
    free := taken.2
    freeDescriptors := t.freeDescriptors - 1
    queues := t.queues.set h (insertDescriptor d (t.queues.get h)) }

/-- The descriptor with more bytes received. -/
def Descriptor.gained (d : Descriptor) (l : Nat) : Descriptor := { d with received := d.received + l }

/-- Continues a FILLING track (R53). -/
def Store.continueTrack (t : Store) (h : HeadId) (d : Descriptor) (tones : List Byte) : Store :=
  { t with
    dram := storeTones d.pages d.received tones t.dram
    queues := t.queues.set h
      ((t.queues.get h).map fun e => if e.number = d.number then e.gained tones.length else e) }

/-- The descriptor of a track number in a head's queue. -/
def Store.find (t : Store) (h : HeadId) (number : Nat) : Option Descriptor :=
  (t.queues.get h).find? fun d => d.number = number

/-! ### Starvation (R65, R66) -/

/-- Sets a head's starvation state. -/
def State.setStarved (s : State) (h : HeadId) (x : Bool) : State :=
  { s with store := { s.store with starved := s.store.starved.set h x } }

/-- A STORE band in CUTTING or SUSPENDED can starve. -/
def Band.canStarve (b : Band) : Bool :=
  decide (b.source = .store) && (decide (b.phase = .cutting) || decide (b.phase = .suspended))

/-- The head's starvation state is evaluated after a change of its queue or buffers; a fall below the threshold
posts its STARVING entry (R66). -/
def State.evalStarvation (s : State) (h : HeadId) : State :=
  match s.active h with
  | none => s.setStarved h false
  | some b =>
    if b.canStarve then
      let mark := (s.heads.get h).settings.leadMark
      let lead := s.leadFrom h b.toCome b.next
      if min mark b.toCome ≤ lead then s.setStarved h false
      else if s.store.starved.get h then s
      else (s.setStarved h true).post (.starving h) (.starving b.tag b.phase b.next lead mark s.timestamp)
    else s.setStarved h false

end Sys2Proof.Machine
end

