-- ==== Sys2Proof/Machine/Fetch.lean ====
section
/-! DEFINITION. How a band ends (R140, R141, R144, R146), and the Fetch Engine: looks, grants, the read port's
arbiter, copies and patch fills (R72 to R79, R83, R84). A grant of a track with the wrong cell count ends a band, so
the two stand together. -/

namespace Sys2Proof.Machine

/-- Counters of a band stop at 2^32 − 1 (R125). -/
def counterMax : Nat := 4294967295

/-- A band counter raised by n (R45, R125). -/
def addCount (x n : Nat) : Nat := min counterMax (x + n)

/-! ### The end of a band -/

/-- What the head is ordered at a band's end (R140, R138, R139). -/
inductive Retire where
  | release
  | retract
  | immediate
  deriving DecidableEq, Repr

/-- The head after the order of a band's end. Its reports find no band, since the band has ended (R140). -/
def Head.retire (h : Head) (order : Retire) (now : Nat) : Head :=
  match order with
  | .release => h.uncut
  | .retract => (h.retract now).1
  | .immediate => h.immediate.1

/-- Helical steps of the revolution under way that are not yet issued (R121). -/
def FeedContext.unissued (f : FeedContext) : Nat :=
  match f.feed, f.pointer with
  | .helical, some j => f.pitch + 1 - j
  | .helical, none => 0
  | .stepped, _ => 0

/-- The steps of a helical revolution under way that are not yet issued are issued at once, in order (R121). -/
def Axis.closeRevolution (a : Axis) : Axis :=
  match a.feed with
  | none => a
  | some f => { a with position := a.position.map (· + f.unissued) }.pulse f.unissued

/-- The end order (R122): a helical revolution is closed when the end falls at a boundary, any move stops, the feed
context goes, and the axis comes to IDLE, or stays UNHOMED. -/
def Axis.endOrder (a : Axis) (atBoundary : Bool) : Axis :=
  let b := if atBoundary then a.closeRevolution else a
  if b.homed then { b with state := .idle, target := none, move := none, feed := none }
  else { b with feed := none }

/-- The result record of a band's end (R144). -/
def State.record (s : State) (h : HeadId) (b : Band) (cls : ResultClass) (cause : Cause)
    (detail : Option CauseDetail) (position : Option Nat) : ResultRecord where
  tag := b.tag
  head := h
  cls := cls
  cause := cause
  detail := detail
  cut := b.cut
  firstCut := b.firstCut
  lastCut := b.lastCut
  clampedLow := b.clampedLow
  clampedHigh := b.clampedHigh
  stale := b.stale
  discarded := b.discarded
  sourceless := b.sourceless
  suspensions := b.suspensions
  startRev := b.startRev
  startTime := b.startTime
  endRev := s.ctu.revs
  endTime := s.timestamp
  position := position

/-- The record joins the head's result list and the BAND_END entry is posted (R145, R146). -/
def State.file (s : State) (h : HeadId) (r : ResultRecord) : State :=
  let t := s.updBands h fun q => { q with results := q.results ++ [r] }
  t.post (.bandEnd h)
    (.bandEnd r.tag r.cls r.cause r.detail r.cut r.lastCut r.endRev r.endTime (t.bands.get h).results.length)

/-- Actions 2 to 5 of a band's end (R140): the buffers are emptied, the head and the axis take their orders, and the
record is filed. The band `b` has left the head's active place. -/
def State.closeBand (s : State) (h : HeadId) (b : Band) (cls : ResultClass) (cause : Cause)
    (detail : Option CauseDetail) (order : Retire) (atBoundary : Bool) : State :=
  let s := (s.updBuffers h LineBuffers.emptied).evalStarvation h
  let s := s.updHead h fun x => x.retire order s.clock
  let s := s.updAxis h fun a => a.endOrder atBoundary
  s.file h (s.record h b cls cause detail (s.axes.get h).reported)

/-- A band that was never active ends (R141). The head's pending place has been emptied. -/
def State.fileNeverActive (s : State) (h : HeadId) (b : Band) (cls : ResultClass) (cause : Cause)
    (detail : Option CauseDetail) : State :=
  s.file h (s.record h b cls cause detail none)

/-- The pending band, if one is held, leaves its place and ends. -/
def State.endPending (s : State) (h : HeadId) (cls : ResultClass) (cause : Cause) : State :=
  match (s.bands.get h).waiting with
  | none => s
  | some p => (s.updBands h fun q => { q with waiting := none }).fileNeverActive h p cls cause none

/-- The dwell timer starts on a READY head with no band active (R95). -/
def State.dwellIdle (s : State) (h : HeadId) : State :=
  match s.active h with
  | some _ => s
  | none => s.updHead h fun x => (x.dwell s.clock).1

/-- The ABORTED end of a band that has left the active place and has no copy or fill in flight; the pending band ends
PRECEDING_ABORT behind it (R140, R142). -/
def State.abortClosed (s : State) (h : HeadId) (b : Band) (cause : Cause) (detail : Option CauseDetail)
    (order : Retire) (atBoundary : Bool) : State :=
  ((s.closeBand h b .aborted cause detail order atBoundary).endPending h .aborted .precedingAbort).dwellIdle h

/-! ### Grants (R74 to R78) -/

/-- The N of the head's placement context, which is the N of the band's screen (R27, R75). -/
def State.contextN (s : State) (h : HeadId) : Nat := ((s.heads.get h).context.map PlacementContext.n).getD 0

/-- The band whose head wants a track for its EMPTY STANDBY, and the next track to load (R72, R83). -/
def State.wants (s : State) (h : HeadId) : Option (Band × Nat) :=
  match s.active h with
  | none => none
  | some b =>
    let m := nextToLoad (s.buffers.get h) b.first
    if b.phase ≠ .pending ∧ (s.buffers.get h).standby.held = .empty ∧ m ≤ b.last then some (b, m) else none

/-- The COMPLETE front descriptor a head is eligible for (R72). -/
def State.eligibleFor (s : State) (h : HeadId) : Option Descriptor :=
  match s.wants h, (s.store.queues.get h).head? with
  | some (b, m), some d => if b.source = .store ∧ d.number = m ∧ d.complete then some d else none
  | some _, none => none
  | none, _ => none

/-- The DATA descriptor for which a head asks for the read port (R73). -/
def State.asking (s : State) (h : HeadId) : Option Descriptor :=
  (s.eligibleFor h).filter fun d => d.kind = .data

/-- The better of two asking heads: the greater relative count, and the lower number when they are equal (R74). -/
def State.nearer (s : State) (best : Option HeadId) (h : HeadId) : Option HeadId :=
  if (s.asking h).isSome then
    match best with
    | none => some h
    | some g => if s.relCount g < s.relCount h then some h else some g
  else best

/-- The head the arbiter grants the FREE port (R74). -/
def State.arbiterChoice (s : State) : Option HeadId := heads4.foldl s.nearer none

/-- The STANDBY buffer takes a state. -/
def State.setStandby (s : State) (h : HeadId) (x : BufferState) : State :=
  s.updBuffers h fun b => b.setStandby { b.standby with held := x }

/-- The grant of a descriptor whose N is not the screen's: it is removed with its pages given back, no copy begins,
and the active band ends ABORTED TRACK_LENGTH (R75). The removal is a change of the queue (R58), but the starvation state
is evaluated only after the band has left, so the head is then FED and no STARVING is posted (DESIGN CHOICE,
notes/assumptions/32.md). -/
def State.refuseGrant (s : State) (h : HeadId) (d : Descriptor) : State :=
  let s := { s with store := (s.store.grantFront h).giveBack d.pages }
  match s.active h with
  | none => s
  | some b => (s.setActive h none).abortClosed h b .trackLength none .retract false

/-- The grant of a DATA descriptor: the copy starts, the port is BUSY and the STANDBY is LOADING (R76). -/
def State.startCopy (s : State) (h : HeadId) (d : Descriptor) : State :=
  let s := { s with
    store := s.store.grantFront h
    fetch := { s.fetch with
      copy := some ⟨h, d.number, d.n, d.pages, s.timestamp, s.clock + ceilDiv d.n 256⟩ } }
  (s.setStandby h (.loading ⟨d.number, .data, d.n⟩)).evalStarvation h

/-- The arbiter grants the FREE port, and decides again after a grant that fails its cell count (R74, R75). Each failed
grant ends a band, so `tries` above the number of heads is enough. -/
def State.arbitrateUpTo (s : State) : Nat → State
  | 0 => s
  | tries + 1 =>
    match s.fetch.copy, s.arbiterChoice with
    | some _, _ => s
    | none, none => s
    | none, some h =>
      match s.asking h with
      | none => s
      | some d =>
        if d.n = s.contextN h then s.startCopy h d else (s.refuseGrant h d).arbitrateUpTo tries

/-- The arbiter's decision at an event (R74). -/
def State.arbitrate (s : State) : State := s.arbitrateUpTo 5

/-- The source of a REPEAT: the tones of a LOADED ACTIVE buffer that is not BLANK (R78). -/
def repeatSource (b : LineBuffer) : Option Memory :=
  match b.held with
  | .loaded t => if t.kind = .blank then none else some b.tones
  | .empty => none
  | .loading _ => none

/-- The STANDBY buffer loaded by a BLANK or REPEAT grant (R77, R78). -/
def LineBuffers.loadInPlace (b : LineBuffers) (d : Descriptor) : LineBuffers :=
  match d.kind, repeatSource b.active with
  | .again, some tones =>
    b.setStandby ⟨.loaded ⟨d.number, .again, d.n⟩,
      Memory.writeRun b.standby.tones 0 (Memory.readRun tones 0 d.n)⟩
  | .again, none => b.setStandby { b.standby with held := .loaded ⟨d.number, .blank, d.n⟩ }
  | .blank, _ => b.setStandby { b.standby with held := .loaded ⟨d.number, .blank, d.n⟩ }
  | .data, _ => b

/-- The grant of a BLANK or REPEAT descriptor, which completes in the grant step (R75, R77, R78). -/
def State.grantInPlace (s : State) (h : HeadId) (d : Descriptor) : State :=
  if d.n = s.contextN h then
    let sourceless := decide (d.kind = .again) && (repeatSource (s.buffers.get h).active).isNone
    let s := { s with store := s.store.grantFront h }
    let s := if sourceless then s.updActive h fun b => { b with sourceless := addCount b.sourceless 1 } else s
    (s.updBuffers h fun b => b.loadInPlace d).evalStarvation h
  else s.refuseGrant h d

/-! ### Looks and fills (R61, R72, R83) -/

/-- The stale front descriptors of a queue: the queue rises, so they are those numbered below m (R61, R72). -/
def staleFront (m : Nat) (q : List Descriptor) : List Descriptor := q.takeWhile fun d => d.number < m

/-- The stale discards of a look (R61). -/
def State.discardStale (s : State) (h : HeadId) (m : Nat) : State :=
  let gone := staleFront m (s.store.queues.get h)
  if gone.isEmpty then s
  else
    let t := { s with store :=
      ((s.store.setQueue h ((s.store.queues.get h).drop gone.length)).giveBack (gone.flatMap Descriptor.pages)) }
    let t := { t with store := { t.store with freeDescriptors := t.store.freeDescriptors + gone.length } }
    (t.updActive h fun b => { b with stale := addCount b.stale gone.length }).evalStarvation h

/-- A look at a head's queue (R72): stale fronts are discarded, and an eligible head asks for the port, or is granted
at once for a BLANK or REPEAT (R73). -/
def State.look (s : State) (h : HeadId) (m : Nat) : State :=
  let s := s.discardStale h m
  match s.eligibleFor h with
  | none => s
  | some d =>
    match d.kind with
    | .data => s.arbitrate
    | .blank => s.grantInPlace h d
    | .again => s.grantInPlace h d

/-- A patch fill starts (R83). -/
def State.startFill (s : State) (h : HeadId) (m : Nat) : State :=
  let n := s.contextN h
  let s := { s with fetch := { s.fetch with fills := s.fetch.fills.set h (some (s.clock + ceilDiv n 256)) } }
  (s.setStandby h (.loading ⟨m, .patch, n⟩)).evalStarvation h

/-- After a change of a head's queue or buffers (R58): its starvation state is evaluated, and where its STANDBY waits
for a track the Fetch Engine looks at its queue or its patch generator starts a fill. -/
def State.service (s : State) (h : HeadId) : State :=
  let s := s.evalStarvation h
  match s.wants h with
  | none => s
  | some (b, m) =>
    match b.source with
    | .store => s.look h m
    | .patch => s.startFill h m

/-! ### Stopping a copy or a fill, and ABORTED ends (R79, R84, R140) -/

/-- Whether the copy in flight belongs to a head. -/
def State.copyOf (s : State) (h : HeadId) : Option Copy := s.fetch.copy.filter fun c => c.head = h

/-- Action 1 of a band's end: a copy or fill in flight for the head is stopped, its pages are given back, and the
arbiter decides among the other heads (R79, R84). The ending band has left the active place. -/
def State.stopFetch (s : State) (h : HeadId) : State :=
  let s := { s with fetch := { s.fetch with fills := s.fetch.fills.set h none } }
  match s.copyOf h with
  | none => s
  | some c =>
    ({ s with
        store := s.store.giveBack c.pages
        fetch := { s.fetch with copy := none } } : State).arbitrate

/-- The ending band's discarded-in-fetch count with the copy or fill that its end stops (R79, R84). -/
def State.withDiscard (s : State) (h : HeadId) (b : Band) : Band :=
  if (s.copyOf h).isSome || (s.fetch.fills.get h).isSome then { b with discarded := addCount b.discarded 1 } else b

/-- The head's active band, if any, ends ABORTED with a cause (R138 to R140, R142). -/
def State.abortActive (s : State) (h : HeadId) (cause : Cause) (detail : Option CauseDetail) (order : Retire)
    (atBoundary : Bool) : State :=
  match s.active h with
  | none => s
  | some b =>
    ((s.setActive h none).stopFetch h).abortClosed h (s.withDiscard h b) cause detail order atBoundary

end Sys2Proof.Machine
end

