-- ==== Sys2Proof/Machine/Bands.lean ====
section
/-! DEFINITION. The Band Sequencer (chapter 8) and an axis under a band (section 7.7): reports and orders, activation,
the orderly end, boundaries, and what timing losses, SPEED events, alarms, axis faults and READY_LOST do to a band. -/

namespace Sys2Proof.Machine

/-! ### Reports and orders while positioning and engaging (R90 to R93, R118, R130) -/

/-- The head reports engaged: an ENGAGING band passes to WAIT_SYNC, and with no band active the head dwells
(R93, R95, R130). -/
def State.onEngaged (s : State) (h : HeadId) : State :=
  match s.active h with
  | none => s.dwellIdle h
  | some b => if b.phase = .engaging then s.setActive h (some { b with phase := .waitSync }) else s

/-- The engage order (R90). -/
def State.engageOrder (s : State) (h : HeadId) : State :=
  let r := (s.heads.get h).engage s.clock
  let t := s.updHead h fun _ => r.1
  match r.2 with
  | .engaged => t.onEngaged h
  | .parked => t
  | .none => t

/-- The axis reports at start: a POSITIONING band passes to ENGAGING and the head takes the engage order (R130). -/
def State.onAtStart (s : State) (h : HeadId) : State :=
  match s.active h with
  | none => s
  | some b =>
    if b.phase = .positioning then (s.setActive h (some { b with phase := .engaging })).engageOrder h else s

/-- The feed context with a stage. -/
def Axis.setStage (a : Axis) (x : Stage) : Axis := { a with feed := a.feed.map fun f => { f with stage := x } }

/-- The position order (R118): in stage POSITIONING the axis starts its move to s at RATE; in HOLD it reports at start
at once. -/
def State.positionOrder (s : State) (h : HeadId) : State :=
  let a := s.axes.get h
  match a.feed with
  | none => s
  | some f =>
    match f.stage with
    | .positioning =>
      if a.pos = f.start then (s.updAxis h fun x => x.setStage .hold).onAtStart h
      else s.updAxis h fun x => x.drive (x.moveTo f.start s.clock)
    | .hold => s.onAtStart h
    | .move => s

/-- The head reports parked: a POSITIONING band whose axis stage is POSITIONING gives the position order (R130). -/
def State.onParked (s : State) (h : HeadId) : State :=
  match s.active h, (s.axes.get h).feed with
  | some b, some f =>
    if b.phase = .positioning ∧ f.stage = .positioning then s.positionOrder h else s
  | some _, none => s
  | none, _ => s

/-- A head's report reaches its Band Sequencer (R93). -/
def State.onReport (s : State) (h : HeadId) (r : HeadReport) : State :=
  match r with
  | .none => s
  | .engaged => s.onEngaged h
  | .parked => s.onParked h

/-- The retract order (R91). -/
def State.retractOrder (s : State) (h : HeadId) : State :=
  let r := (s.heads.get h).retract s.clock
  (s.updHead h fun _ => r.1).onReport h r.2

/-- The immediate retract (R92). -/
def State.immediateRetract (s : State) (h : HeadId) : State :=
  let r := (s.heads.get h).immediate
  (s.updHead h fun _ => r.1).onReport h r.2

/-! ### Faults of a FEEDING axis (R114, R139) -/

/-- The limit fault of an axis: a FEEDING axis reports an axis fault, which ends its band ABORTED AXIS_FAULT (R114). -/
def State.limitFault (s : State) (k : HeadId) : State :=
  if (s.axes.get k).state = .feeding then (s.limitStop k).abortActive k .axisFault none .retract false
  else s.limitStop k

/-- A limit switch that is active while its axis watches it is taken as a fault (R114). -/
def State.limitCheck (s : State) (k : HeadId) : State := if s.onLimit k then s.limitFault k else s

/-! ### Activation (R119, R127 to R129) -/

/-- The feed check (R119). -/
def feedPasses (feed : Feed) (x : Screen) (rate period : Nat) : Bool :=
  match feed with
  | .stepped => decide (x.pitch * 1000000 ≤ rate * (x.gap * period / 65536))
  | .helical => decide (x.pitch * 1000000 ≤ rate * period)

/-- The activation checks 10 to 13 (R127): the first that fails, if any. -/
def State.activationFailure (s : State) (h : HeadId) (b : Band) : Option Reason :=
  let x := s.screen b.screen
  let period := s.ctu.lastPeriod.getD 0
  let c := (s.heads.get h).settings
  if s.ctu.timing ≠ .synced then some .notSynced
  else if !s.ctu.speedOk then some .speed
  else if outside c.fmin c.fmax (cellRate x.n period) then some .cellRate
  else if !feedPasses b.feed x (s.axes.get h).settings.rate period then some .feedTooSlow
  else none

/-- Action 2 of R128: the placement context and the depth table are built (R27, R43). -/
def Head.prepare (x : Head) (c : PlacementContext) (t : DepthTable) : Head :=
  { x with context := some c, table := some t }

/-- Action 3 of R128: the axis is taken into FEEDING with a new feed context (R118). -/
def Axis.takeFor (a : Axis) (b : Band) (x : Screen) : Axis :=
  { a with
    state := .feeding
    target := none
    move := none
    feed := some
      { tag := b.tag
        feed := b.feed
        start := b.start
        gap := x.gap
        pitch := x.pitch
        stage := if a.pos = b.start then .hold else .positioning
        armed := false
        pointer := none } }

/-- The band becomes active in a phase. -/
def State.enter (s : State) (h : HeadId) (b : Band) (p : Phase) : State :=
  s.setActive h (some { b with phase := p })

/-- Action 4 of R128: the phase and orders of the table of R129. A head is never CUTTING at activation; the table's
rows for SETTLING stand in for it. -/
def State.beginPhase (s : State) (h : HeadId) (b : Band) (inPlace : Bool) : State :=
  match inPlace, (s.heads.get h).state with
  | true, .ready => (s.enter h b .waitSync).updHead h fun x => { x with dwellTimer := none }
  | true, .parked => ((s.enter h b .engaging).positionOrder h).engageOrder h
  | true, .engaging => (s.enter h b .engaging).engageOrder h
  | true, .settling => (s.enter h b .engaging).engageOrder h
  | true, .retracting => (s.enter h b .engaging).engageOrder h
  | true, .cutting => (s.enter h b .engaging).engageOrder h
  | false, .parked => (s.enter h b .positioning).positionOrder h
  | false, .engaging => (s.enter h b .positioning).retractOrder h
  | false, .settling => (s.enter h b .positioning).retractOrder h
  | false, .ready => (s.enter h b .positioning).retractOrder h
  | false, .cutting => (s.enter h b .positioning).retractOrder h
  | false, .retracting => s.enter h b .positioning

/-- Actions 2 to 4 of an activation whose checks have passed (R128): the band with the phase R129 gives. -/
def State.prepareBand (s : State) (h : HeadId) (b : Band) : State :=
  let x := s.screen b.screen
  let inPlace := decide ((s.axes.get h).pos = b.start)
  let s := s.updHead h fun y => y.prepare (PlacementContext.build b.screen x (s.ctu.lastPeriod.getD 0))
    (DepthTable.build b.curve (s.curve b.curve) y.settings.calibration)
  let s := s.updAxis h fun a => a.takeFor b x
  s.beginPhase h b inPlace

/-- After action 4: a limit switch that was already active as the axis entered FEEDING is taken as a fault (R114), and then
comes the first look or fill (action 5 of R128), which finds no band when the fault has ended it (DEDUCED,
notes/assumptions/15.md). -/
def State.afterActivation (s : State) (h : HeadId) : State := (s.limitCheck h).service h

/-- An activation whose checks have passed (R128). -/
def State.activate (s : State) (h : HeadId) (b : Band) : State := (s.prepareBand h b).afterActivation h

/-! ### The orderly end (R140, R142) -/

/-- Action 7 after a COMPLETE or ENDED end: the pending band is activated, or ends ABORTED ACTIVATION with the failed
check as detail (R142). -/
def State.handOn (s : State) (h : HeadId) : State :=
  match (s.bands.get h).waiting with
  | none => s
  | some p =>
    let t := s.updBands h fun q => { q with waiting := none }
    match t.activationFailure h p with
    | some r => t.fileNeverActive h p .aborted .activation (some (.reason r))
    | none => t.activate h p

/-- The head's active band, if any, ends COMPLETE or ENDED (R140). -/
def State.finishActive (s : State) (h : HeadId) (cls : ResultClass) (cause : Cause) (atBoundary : Bool) : State :=
  match s.active h with
  | none => s
  | some b =>
    ((((s.setActive h none).stopFetch h).closeBand h (s.withDiscard h b) cls cause none .release
      atBoundary).handOn h).dwellIdle h

/-! ### Cutting from boundary to boundary (R80, R96, R120, R121, R131 to R136) -/

/-- The axis's cut order (R120, R121). A new helical revolution issues its steps up, and the stage stays HOLD, since no rule
changes it there (DESIGN CHOICE, notes/assumptions/36.md). -/
def Axis.cutOrder (a : Axis) (isLast : Bool) : Axis :=
  let b := a.closeRevolution
  match b.feed with
  | none => b
  | some f =>
    match f.feed with
    | .stepped => { b with feed := some { f with armed := !isLast } }
    | .helical => { b with feed := some { f with pointer := some 1 }, outputs := { b.outputs with up := true } }

/-- The stepped-move trigger is disarmed (R120). -/
def Axis.disarm (a : Axis) : Axis := { a with feed := a.feed.map fun f => { f with armed := false } }

/-- Posts the head's BAND_PROGRESS entry (R136). -/
def State.postProgress (s : State) (h : HeadId) (b : Band) : State :=
  s.post (.progress h) (.progress b.tag b.phase b.lastCut s.ctu.revs s.timestamp (s.lead h))

/-- Whether the STANDBY buffer is LOADED with a track number. -/
def State.standbyHolds (s : State) (h : HeadId) (number : Nat) : Bool :=
  (s.buffers.get h).standby.held.loaded?.any fun t => t.number = number

/-- The band cuts its next expected track from this boundary: the swap, the cut orders, and the progress posting, and
then the change of the buffers is served (R80, R131, R133, R134). -/
def State.cutNext (s : State) (h : HeadId) (b : Band) : State :=
  let c := { b with next := b.next + 1, phase := .cutting }
  let s := s.updBuffers h LineBuffers.swapped
  let s := s.updHead h Head.cut
  let s := s.updAxis h fun a => a.cutOrder (decide (b.next = b.last))
  let s := s.setActive h (some c)
  (s.postProgress h c).service h

/-- A boundary taken in WAIT_SYNC (R131). -/
def State.waitSyncBoundary (s : State) (h : HeadId) (b : Band) : State :=
  if !s.ctu.speedOk then s
  else if s.standbyHolds h b.next then
    s.cutNext h { b with startRev := some s.ctu.revs, startTime := some s.timestamp }
  else if b.waitCount = 0 then s.setActive h (some { b with waitCount := 1 })
  else s.abortActive h .missingTrack none .retract true

/-- The track just cut: the one in the ACTIVE buffer (R132). -/
def State.trackCut (s : State) (h : HeadId) : Option Nat :=
  (s.buffers.get h).active.held.track?.map BufferTrack.number

/-- The band with the track just cut counted (R132). -/
def Band.counted (b : Band) (number : Option Nat) : Band :=
  { b with cut := b.cut + 1, lastCut := number, firstCut := b.firstCut.or number }

/-- The axis stage is MOVE (R120). -/
def Axis.moving (a : Axis) : Bool := a.feed.any fun f => f.stage = .move

/-- The band passes into SUSPENDED (R134). -/
def State.suspend (s : State) (h : HeadId) (b : Band) : State :=
  let c := { b with phase := .suspended }
  let s := (s.setActive h (some c)).updHead h Head.uncut
  (s.updAxis h Axis.disarm).postProgress h c

/-- A boundary taken in CUTTING: the track is counted, and the first of six cases that applies decides (R132). -/
def State.cuttingBoundary (s : State) (h : HeadId) (b : Band) : State :=
  let number := s.trackCut h
  let c := b.counted number
  let s := s.setActive h (some c)
  if c.feed = .stepped ∧ (s.axes.get h).moving then s.abortActive h .feedLate none .retract true
  else if number = some c.last then s.finishActive h .complete .none true
  else if c.stopTaken then s.finishActive h .ended .stopRequest true
  else if s.standbyHolds h c.next then s.cutNext h c
  else
    match c.feed with
    | .stepped => s.suspend h c
    | .helical => s.abortActive h .underrun none .retract true

/-- A boundary taken in SUSPENDED (R134). -/
def State.suspendedBoundary (s : State) (h : HeadId) (b : Band) : State :=
  if s.standbyHolds h b.next then s.cutNext h b
  else
    let c := { b with suspensions := countUp 255 b.suspensions }
    let s := s.setActive h (some c)
    if (s.heads.get h).settings.suspendLimit ≤ c.suspensions then s.abortActive h .suspendLimit none .retract true
    else s.postProgress h c

/-- A boundary of a head reaches its Band Sequencer (R130 to R134). -/
def State.boundary (s : State) (h : HeadId) : State :=
  match s.active h with
  | none => s
  | some b =>
    match b.phase with
    | .waitSync => s.waitSyncBoundary h b
    | .cutting => s.cuttingBoundary h b
    | .suspended => s.suspendedBoundary h b
    | .pending => s
    | .positioning => s
    | .engaging => s

/-! ### What a count or good index brings to a head (R13, R28, R98, R120, R121) -/

/-- Delivers the cells that are due, and reports their clamps (R28, R45, R98). -/
def State.deliverCells (s : State) (h : HeadId) : State :=
  let x := s.heads.get h
  match x.state, x.nextCell, x.context, (s.buffers.get h).active.held with
  | .cutting, some i, some c, .loaded t =>
    let d := x.deliver c t (s.buffers.get h).active.tones (s.relCount h) (c.n - i) ⟨i, x.depth, 0, 0⟩
    (s.updHead h fun y => { y with nextCell := some d.next, depth := d.depth }).updActive h fun b =>
      { b with
        clampedLow := addCount b.clampedLow d.lows
        clampedHigh := addCount b.clampedHigh d.highs }
  | _, _, _, _ => s

/-- The relative count at which helical step j falls due (R121). -/
def helicalDue (pitch j : Nat) : Nat := j * 65536 / pitch - 1

/-- How many helical steps from j on fall due at a relative count, at most `left` (R121). -/
def helicalSteps (pitch rel : Nat) : Nat → Nat → Nat
  | 0, _ => 0
  | left + 1, j => if helicalDue pitch j ≤ rel then 1 + helicalSteps pitch rel left (j + 1) else 0

/-- A FEEDING axis takes the relative count: an armed trigger fires in the seam gap, and due helical steps are issued
(R120, R121), in stage HOLD, whose bar of R118 is taken to end with the first cut (DESIGN CHOICE,
notes/assumptions/36.md). -/
def Axis.takeCount (a : Axis) (rel now : Nat) : Axis :=
  match a.state, a.feed with
  | .feeding, some f =>
    match f.feed, f.pointer with
    | .stepped, _ =>
      if f.armed ∧ 65536 - f.gap ≤ rel then
        { a with feed := some { f with armed := false, stage := .move } }.drive (a.moveOf true f.pitch now)
      else a
    | .helical, some j =>
      let k := helicalSteps f.pitch rel f.unissued j
      { a with feed := some { f with pointer := some (j + k) }, position := a.position.map (· + k) }.pulse k
    | .helical, none => a
  | _, _ => a

/-- The angle is presented to a head's drive and axis (R13). -/
def State.present (s : State) (h : HeadId) : State :=
  let t := s.deliverCells h
  t.updAxis h fun a => a.takeCount (t.relCount h) t.clock

/-! ### Events of other blocks (R131, R139) -/

/-- A timing loss reaches a band (R8, R131, R139). -/
def State.timingLoss (s : State) (h : HeadId) (e : CylEvent) : State :=
  match s.active h with
  | none => s
  | some b =>
    match b.phase with
    | .cutting => s.abortActive h .timingFault (some (.timing e)) .retract false
    | .suspended => s.abortActive h .timingFault (some (.timing e)) .retract false
    | .waitSync => s.setActive h (some { b with waitCount := 0 })
    | .pending => s
    | .positioning => s
    | .engaging => s

/-- A SPEED event reaches a band (R10, R139). -/
def State.speedEvent (s : State) (h : HeadId) : State :=
  match s.active h with
  | none => s
  | some b =>
    match b.phase with
    | .cutting => s.abortActive h .speedFault none .retract false
    | .suspended => s.abortActive h .speedFault none .retract false
    | .waitSync => s
    | .pending => s
    | .positioning => s
    | .engaging => s

/-- READY_LOST reaches a head, its axis and its band (R92, R115, R139). -/
def State.readyLost (s : State) (h : HeadId) : State :=
  let s := s.immediateRetract h
  let s := s.updAxis h fun a => a.lost .readyLost
  s.abortActive h .machineNotReady none .immediate false

/-- An alarm of a retract action reaches a head and its band (R99, R156). -/
def State.alarmOn (s : State) (slot : Nat) (fast : Bool) (h : HeadId) : State :=
  let s := if fast then s.immediateRetract h else s.retractOrder h
  let s := s.updHead h fun x => { x with inhibit := true }
  s.abortActive h .alarm (some (.slot slot)) (if fast then .immediate else .retract) false

end Sys2Proof.Machine
end

