-- ==== Sys2Proof/Machine/Tracks.lean ====
section
/-! DEFINITION. The Track Store's requests (chapter 4): TRACK, DROP_TRACKS and STORE_CLEAR. -/

namespace Sys2Proof.Machine

/-! ### TRACK (R52 to R57) -/

/-- The state and bytes received of the descriptor of a track number, absent when there is none (R57). The manual
lists no code for the state (notes/assumptions/18.md). -/
def descriptorBytes (d : Option Descriptor) : List Byte :=
  optional 3 (d.map fun x => Config.descriptorStateCode x.complete :: u16 x.received)

/-- The free-page count, the free-descriptor count, and a head's depth and filling count. -/
def Store.countBytes (t : Store) (h : HeadId) : List Byte :=
  u32 t.free.count ++ u16 t.freeDescriptors ++ u16 (t.queues.get h).length ++ u8 (fillingCount (t.queues.get h))

/-- The content of a TRACK reply (R57). -/
def trackContent (h : HeadId) (number : Nat) (s : State) : List Byte :=
  s.store.countBytes h ++ descriptorBytes (s.store.find h number)

/-- The number lies below the next expected track of the head's active band (R54, R55). -/
def State.behind (s : State) (h : HeadId) (number : Nat) : Bool := (s.active h).any fun b => number < b.next

/-- What a refusal of a chunk answers. -/
inductive ChunkRefusal where
  | length
  | reason (r : Reason)
  deriving DecidableEq, Repr

/-- The checks of a continuation chunk against the FILLING descriptor it names (R53). -/
def continuationRefusal (f : TrackFields) (kind : TrackKind) (d : Descriptor) : Option ChunkRefusal :=
  if kind ≠ d.kind ∨ f.n ≠ d.n then some (.reason .mismatch)
  else if f.offset ≠ d.received then some (.reason .order)
  else if d.n < f.offset + f.tones.length then some .length
  else none

/-- The length check of an opening chunk (R55, second check). -/
def openingTooLong (f : TrackFields) (kind : TrackKind) : Bool :=
  match kind with
  | .data => decide (f.n < f.tones.length)
  | .blank => decide (f.tones.length ≠ 0)
  | .again => decide (f.tones.length ≠ 0)

/-- Whether an opening chunk would open its descriptor FILLING. -/
def opensFilling (f : TrackFields) (kind : TrackKind) : Bool :=
  match kind with
  | .data => decide (f.tones.length < f.n)
  | .blank => false
  | .again => false

/-- The checks of an opening chunk (R55). -/
def State.openingRefusal (s : State) (h : HeadId) (f : TrackFields) (kind : TrackKind) : Option ChunkRefusal :=
  let q := s.store.queues.get h
  if s.behind h f.number then some (.reason .stale)
  else if openingTooLong f kind then some .length
  else if Config.queueLimit ≤ q.length then some (.reason .queueLimit)
  else if opensFilling f kind && decide (Config.fillingLimit ≤ fillingCount q) then some (.reason .fillingLimit)
  else if s.store.freeDescriptors = 0 ∨ s.store.free.count < pagesFor kind f.n then some (.reason .storeFull)
  else none

/-- The answer of a refusal, with the content of R57. -/
def ChunkRefusal.response (x : ChunkRefusal) (content : List Byte) : Response :=
  match x with
  | .length => Response.badLength content
  | .reason r => Response.refused r content

/-- A chunk that is taken or refused, with the content every such reply carries as the store then stands. -/
def chunkOutcome (h : HeadId) (number : Nat) (s : State) (refusal : Option ChunkRefusal) (taken : State) :
    State × Response :=
  match refusal with
  | some x => (s, x.response (trackContent h number s))
  | none => (taken, Response.ok (trackContent h number taken))

/-- A continuation that passes its checks (R53); one that completes its track is a change of the queue (R58). -/
def State.continueChunk (s : State) (h : HeadId) (f : TrackFields) (d : Descriptor) : State :=
  let t := { s with store := s.store.continueTrack h d f.tones }
  if d.received + f.tones.length = d.n then t.service h else t

/-- An opening that passes its checks (R56). -/
def State.openChunk (s : State) (h : HeadId) (f : TrackFields) (kind : TrackKind) : State :=
  ({ s with store := s.store.openTrack h kind f.number f.n f.tones } : State).service h

/-- A chunk with a valid kind and N, by what stands in the head's queue under its number (R52). -/
def takeChunk (h : HeadId) (f : TrackFields) (kind : TrackKind) (s : State) : State × Response :=
  match s.store.find h f.number with
  | some d =>
    if d.complete then (s, Response.refused .duplicate (trackContent h f.number s))
    else chunkOutcome h f.number s (continuationRefusal f kind d) (s.continueChunk h f d)
  | none =>
    if f.offset ≠ 0 then
      (s, Response.refused (if s.behind h f.number then .stale else .order) (trackContent h f.number s))
    else chunkOutcome h f.number s (s.openingRefusal h f kind) (s.openChunk h f kind)

/-- TRACK as the Track Store takes it (R52). -/
def takeTrack (f : TrackFields) (s : State) : State × Response :=
  onFitted f.head s fun h =>
    match trackKindOf f.kind with
    | none => (s, Response.badField (trackContent h f.number s))
    | some kind =>
      if outside 64 16384 f.n then (s, Response.badField (trackContent h f.number s))
      else takeChunk h f kind s

/-- TRACK (R52). -/
def execTrack (tag : Byte) (payload : List Byte) (s : State) : Host.Outcome State Fault Refusal :=
  (s.request ⟨0x10, tag, payload⟩ (trackFields payload) takeTrack).done

/-! ### DROP_TRACKS (R62) -/

/-- The range a DROP_TRACKS removes: from alone when from lies above to. -/
def DropFields.holds (f : DropFields) (number : Nat) : Bool :=
  if f.last < f.first then decide (number = f.first) else decide (f.first ≤ number) && decide (number ≤ f.last)

/-- DROP_TRACKS as the Track Store takes it. Its reply reports the store after the removal; the look that the removal
prompts follows it (notes/assumptions/17.md). -/
def takeDropTracks (f : DropFields) (s : State) : State × Response :=
  onFitted f.head s fun h =>
    let gone := (s.store.queues.get h).filter fun d => f.holds d.number
    let t := { s with store := s.store.discard h fun d => f.holds d.number }
    (if gone.isEmpty then t else t.service h, Response.ok (u16 gone.length ++ t.store.countBytes h))

/-- DROP_TRACKS (R62). -/
def execDropTracks (tag : Byte) (payload : List Byte) (s : State) : Host.Outcome State Fault Refusal :=
  (s.request ⟨0x11, tag, payload⟩ (dropFields payload) takeDropTracks).done

/-! ### STORE_CLEAR (R63) -/

/-- The store after a STORE_CLEAR: every queue empty, every descriptor and page free, every head FED. The bytes of
the pages are kept; no track reads them before it writes them (R68). -/
def Store.cleared (t : Store) : Store :=
  { t with
    free := FreePages.reset
    freeDescriptors := Config.descriptorCount
    queues := Quad.all []
    starved := Quad.all false }

/-- STORE_CLEAR as the Track Store takes it. -/
def takeStoreClear (_ : Unit) (s : State) : State × Response :=
  if s.anyHeld then (s, Response.busy [])
  else
    let t := { s with store := s.store.cleared }
    (t, Response.ok (u32 t.store.free.count ++ u16 t.store.freeDescriptors))

/-- STORE_CLEAR (R63). -/
def execStoreClear (tag : Byte) (payload : List Byte) (s : State) : Host.Outcome State Fault Refusal :=
  (s.request ⟨0x12, tag, payload⟩ (noBytes payload) takeStoreClear).done

end Sys2Proof.Machine
end

