-- ==== Sys2Proof/Machine/Orders.lean ====
section
/-! DEFINITION. The Band Sequencer's requests (chapter 8): ENGRAVE, STOP_BAND, ABORT_BAND and READ_RESULT. -/

namespace Sys2Proof.Machine

/-! ### ENGRAVE (R126 to R129) -/

/-- The band context an acceptance makes (R125). -/
def newBand (f : EngraveFields) (source : Source) (feed : Feed) : Band where
  tag := f.tag
  source := source
  first := f.first
  count := f.count
  screen := f.screen
  curve := f.curve
  feed := feed
  start := f.start
  phase := .pending
  next := f.first
  stopTaken := false
  waitCount := 0
  suspensions := 0
  cut := 0
  firstCut := none
  lastCut := none
  clampedLow := 0
  clampedHigh := 0
  stale := 0
  discarded := 0
  sourceless := 0
  startRev := none
  startTime := none

/-- Check 2 of R126: the band an ENGRAVE describes, when its fields are acceptable. -/
def State.bandOf (s : State) (f : EngraveFields) : Option Band :=
  match sourceOf f.source, feedOf f.feed with
  | some source, some feed =>
    if 15 < f.screen ∨ (s.screen f.screen).n = 0 ∨ 7 < f.curve ∨ f.count = 0 ∨ 65535 < f.first + f.count - 1 then none
    else some (newBand f source feed)
  | some _, none => none
  | none, _ => none

/-- The axis's span with a new band's extents clears its neighbours (check 9 of R126, R117). -/
def State.roomFor (s : State) (h : HeadId) (b : Band) : Bool :=
  s.clearOf h (spanOver (s.axes.get h).settings.origin (s.spanPoints h ++ s.extents b))

/-- Checks 3 to 9 of R126: the first that fails, if any. -/
def State.acceptanceFailure (s : State) (h : HeadId) (b : Band) : Option Response :=
  if !s.ctu.ready then some (Response.refused .notReady [])
  else if (s.heads.get h).inhibit then some (Response.refused .inhibited [])
  else if 4 ≤ s.resultLoad h then some (Response.refused .unreadResults [])
  else if 2 ≤ (s.held h).length then some (Response.busy [])
  else if !s.allHomed then some (Response.refused .notHomed [])
  else if (s.extents b).any fun x => (s.axes.get h).settings.maxpos < x then some (Response.refused .range [])
  else if !s.roomFor h b then some (Response.refused .collision [])
  else none

/-- The content of the reply to an accepted ENGRAVE (R127): the tag, the phase its acceptance gave the band, and the
head's held bands and unread records after the request. -/
def engraveContent (tag : Nat) (phase : Phase) (h : HeadId) (s : State) : List Byte :=
  u16 tag ++ u8 phase.code ++ u8 (s.held h).length ++ u8 (s.bands.get h).results.length

/-- A band that passed checks 1 to 9, with no band held: the activation checks, and the activation (R127, R128). -/
def engraveActive (h : HeadId) (b : Band) (s : State) : State × Response :=
  match s.activationFailure h b with
  | some r => (s, Response.refused r [])
  | none =>
    let t := s.prepareBand h b
    let u := t.afterActivation h
    (u, Response.ok (engraveContent b.tag (((t.active h).map Band.phase).getD .pending) h u))

/-- A band that passed checks 1 to 9 behind an active band (R127). -/
def engravePending (h : HeadId) (b : Band) (s : State) : State × Response :=
  let t := s.updBands h fun q => { q with waiting := some b }
  (t, Response.ok (engraveContent b.tag .pending h t))

/-- ENGRAVE as the Band Sequencer takes it (R126). -/
def takeEngrave (f : EngraveFields) (s : State) : State × Response :=
  onFitted f.head s fun h =>
    match s.bandOf f with
    | none => (s, Response.badField [])
    | some b =>
      match s.acceptanceFailure h b with
      | some r => (s, r)
      | none => if (s.held h).isEmpty then engraveActive h b s else engravePending h b s

/-- ENGRAVE (R126). -/
def execEngrave (tag : Byte) (payload : List Byte) (s : State) : Host.Outcome State Fault Refusal :=
  (s.request ⟨0x20, tag, payload⟩ (engraveFields payload) takeEngrave).done

/-! ### STOP_BAND (R137) -/

/-- A STOP taken in CUTTING: the flag is set and the move trigger disarmed; a second one changes nothing. -/
def State.stopCutting (s : State) (h : HeadId) (b : Band) : State :=
  if b.stopTaken then s else (s.setActive h (some { b with stopTaken := true })).updAxis h Axis.disarm

/-- STOP_BAND with target ACTIVE. The reply's phase is absent when the band has ended (notes/assumptions/17.md). -/
def stopActive (h : HeadId) (s : State) : State × Response :=
  match s.active h with
  | none => (s, Response.refused .noBand [])
  | some b =>
    match b.phase with
    | .cutting => (s.stopCutting h b, Response.ok (opt8 (some b.phase.code)))
    | .positioning => (s.finishActive h .ended .stopRequest false, Response.ok (opt8 none))
    | .engaging => (s.finishActive h .ended .stopRequest false, Response.ok (opt8 none))
    | .waitSync => (s.finishActive h .ended .stopRequest false, Response.ok (opt8 none))
    | .suspended => (s.finishActive h .ended .stopRequest false, Response.ok (opt8 none))
    | .pending => (s, Response.refused .noBand [])

/-- STOP_BAND with target PENDING: the band ends ENDED CANCELLED at once. -/
def stopPending (h : HeadId) (s : State) : State × Response :=
  match (s.bands.get h).waiting with
  | none => (s, Response.refused .noBand [])
  | some _ => (s.endPending h .ended .cancelled, Response.ok [])

/-- STOP_BAND as the Band Sequencer takes it: a head above 3 or a bad target comes before an unfitted head. -/
def takeStopBand (f : Nat × Nat) (s : State) : State × Response :=
  if 1 < f.2 then (s, Response.badField [])
  else onFitted f.1 s fun h => if f.2 = 0 then stopActive h s else stopPending h s

/-- STOP_BAND (R137). -/
def execStopBand (tag : Byte) (payload : List Byte) (s : State) : Host.Outcome State Fault Refusal :=
  (s.request ⟨0x21, tag, payload⟩ (twoBytes payload) takeStopBand).done

/-! ### ABORT_BAND (R138) -/

/-- ABORT_BAND as the Band Sequencer takes it. -/
def takeAbortBand (f : Nat × Nat) (s : State) : State × Response :=
  match flagOf f.2 with
  | none => (s, Response.badField [])
  | some immediate =>
    onFitted f.1 s fun h =>
      match s.active h with
      | none => (s, Response.refused .noBand [])
      | some _ =>
        (s.abortActive h .abortRequest none (if immediate then .immediate else .retract) false, Response.ok [])

/-- ABORT_BAND (R138). -/
def execAbortBand (tag : Byte) (payload : List Byte) (s : State) : Host.Outcome State Fault Refusal :=
  (s.request ⟨0x22, tag, payload⟩ (twoBytes payload) takeAbortBand).done

/-! ### READ_RESULT (R145) -/

/-- READ_RESULT as the Band Sequencer takes it: the oldest record leaves the list with the reply. -/
def takeReadResult (n : Nat) (s : State) : State × Response :=
  onFitted n s fun h =>
    match (s.bands.get h).results with
    | [] => (s, Response.refused .noResult [])
    | r :: rest => (s.updBands h fun q => { q with results := rest }, Response.ok (recordBytes r))

/-- READ_RESULT (R145). -/
def execReadResult (tag : Byte) (payload : List Byte) (s : State) : Host.Outcome State Fault Refusal :=
  (s.request ⟨0x36, tag, payload⟩ (oneByte payload) takeReadResult).done

end Sys2Proof.Machine
end

