-- ==== Sys2Proof/Machine/Cylinder.lean ====
section
/-! DEFINITION. The Cylinder Timing Unit (chapter 1): counts, indexes, the stopped timer, the machine-ready line, and
SET_MACHINE. -/

namespace Sys2Proof.Machine

/-! ### Postings and faults (R8, R10, R14) -/

/-- Posts the CYLINDER entry with an event; the state is the one after the event (R8). -/
def State.postCylinder (s : State) (e : CylEvent) : State :=
  s.post .cylinder (.cylinder e s.ctu.timing s.ctu.ready s.ctu.revs s.timestamp)

/-- A timing fault that leaves the CTU as `c`: it posts the CYLINDER entry, and one that leaves SYNCED is handed to
every fitted head as a timing loss (R8). -/
def State.timingFault (s : State) (e : CylEvent) (c : Ctu) : State :=
  let t := ({ s with ctu := c } : State).postCylinder e
  if s.ctu.timing = .synced then t.forFitted fun h u => u.timingLoss h e else t

/-- No origin is known: the streak and E are 0, and a SYNCED state becomes UNSYNCED (R1, R6, R7). -/
def Ctu.unoriginated (c : Ctu) : Ctu :=
  { c with
    streak := 0
    elapsed := 0
    timing := if c.timing = .stopped then .stopped else .unsynced }

/-! ### COUNT_EVENT (R1, R6, R7, R12, R13) -/

/-- A count applied to the angle, to E while an origin is known, and to the stopped timer (R1). -/
def Ctu.counted (c : Ctu) (forward : Bool) : Ctu :=
  { c with
    angle := (c.angle + if forward then 1 else 65535) % Config.revolution
    elapsed := if c.streak = 0 then 0 else if forward then c.elapsed + 1 else c.elapsed - 1
    stoppedTimer := 0 }

/-- E stands above the window (R6). -/
def State.pastWindow (s : State) : Bool := decide (65536 + (s.machine.indexTol : Int) < s.ctu.elapsed)

/-- The boundaries of the fitted heads that satisfy a test, in ascending head order (R12). -/
def State.boundaries (s : State) (due : HeadId → Bool) : State :=
  s.forFitted fun h t => if due h then t.boundary h else t

/-- A count's effect on the timing state, with the count applied (R1, R6, R7, R12). -/
def State.judgeCount (s : State) (forward : Bool) : State :=
  match s.ctu.timing, forward with
  | .stopped, _ => { s with ctu := { s.ctu.unoriginated with timing := .unsynced } }
  | .unsynced, false => { s with ctu := s.ctu.unoriginated }
  | .unsynced, true => if s.pastWindow then s.timingFault .indexMissing s.ctu.unoriginated else s
  | .synced, false => s.timingFault .direction s.ctu.unoriginated
  | .synced, true =>
    if s.pastWindow then s.timingFault .indexMissing s.ctu.unoriginated
    else s.boundaries fun h => decide (s.startAngle h ≠ 0 ∧ s.ctu.elapsed = s.startAngle h)

/-- The angle is presented to each fitted head's drive and axis (R13). -/
def State.presentAll (s : State) : State := s.forFitted fun h t => t.present h

/-- A count as it is taken: the settings that waited for it act, and it is applied (R1, R12, R15). -/
def State.count (s : State) (forward : Bool) : State := { s with ctu := s.takeUp.ctu.counted forward }

/-- COUNT_EVENT (R1). -/
def execCountEvent (forward : Bool) (s : State) : Host.Outcome State Fault Refusal :=
  (((s.count forward).judgeCount forward).presentAll).done

/-! ### INDEX_EVENT (R3 to R5, R9 to R12) -/

/-- The index is taken as an origin, or as the new origin of a slip (R3, R5). -/
def Ctu.origin (c : Ctu) (now : Nat) : Ctu :=
  { c with
    angle := 0
    elapsed := 0
    streak := 1
    indexTime := now
    timing := if c.timing = .stopped then .stopped else .unsynced }

/-- The period of a good index: the present timestamp less the index time, modulo 2^32 (R9). -/
def Ctu.period (c : Ctu) (now : Nat) : Nat := (now + 4294967296 - c.indexTime) % 4294967296

/-- A good index's effect on the CTU itself, up to the streak and the timing state (R4, R9). -/
def Ctu.revolved (c : Ctu) (now : Nat) : Ctu :=
  { c with
    lastPeriod := some (c.period now)
    indexTime := now
    angle := 0
    elapsed := 0
    revs := wrap32 (c.revs + 1)
    streak := min 2 (c.streak + 1)
    timing := if 2 ≤ c.streak + 1 then .synced else c.timing }

/-- The speed window, checked with the period just measured (R10). -/
def State.checkSpeed (s : State) : State :=
  let ok := speedOkFor s.machine (s.ctu.lastPeriod.getD 0)
  let t := { s with ctu := { s.ctu with speedOk := ok } }
  match s.ctu.speedOk, ok with
  | true, false => (t.postCylinder .speedLost).forFitted fun h u => u.speedEvent h
  | false, true => t.postCylinder .speedRegained
  | true, true => t
  | false, false => t

/-- The report countdown (R11). -/
def State.serveReport (s : State) : State :=
  if s.machine.reportRevs = 0 then s
  else if s.ctu.countdown - 1 = 0 then
    ({ s with ctu := { s.ctu with countdown := s.machine.reportRevs } } : State).post .cylStatus
      (.cylStatus s.ctu.revs (s.ctu.lastPeriod.getD 0) s.timestamp s.ctu.speedOk)
  else { s with ctu := { s.ctu with countdown := s.ctu.countdown - 1 } }

/-- Boundaries still owed for the revolution that a good index closes: those of heads whose A_h lies above E (R12). -/
def State.owedBoundaries (s : State) : State :=
  if s.ctu.timing = .synced then s.boundaries fun h => decide (s.ctu.elapsed < s.startAngle h) else s

/-- Boundaries of heads with A_h = 0, raised at a good index that leaves the state SYNCED (R4, R12). -/
def State.zeroBoundaries (s : State) : State :=
  if s.ctu.timing = .synced then s.boundaries fun h => decide (s.startAngle h = 0) else s

/-- A good index, in the order R4 gives; the angle is then presented (R28, R120, R121). -/
def State.goodIndex (s : State) : State :=
  let t := s.owedBoundaries
  let t := { t with ctu := t.ctu.revolved t.timestamp }
  t.checkSpeed.serveReport.zeroBoundaries.presentAll

/-- An index taken with an origin known, judged against E (R3). -/
def State.judgeIndex (s : State) : State :=
  if s.pastWindow then
    let t := s.timingFault .indexMissing s.ctu.unoriginated
    { t with ctu := t.ctu.origin t.timestamp }
  else if s.ctu.elapsed < 65536 - (s.machine.indexTol : Int) then
    s.timingFault .indexSlip (s.ctu.origin s.timestamp)
  else s.goodIndex

/-- INDEX_EVENT (R3): the edge that the setting selects; the other one is ignored. -/
def execIndexEvent (edge : IndexEdge) (s : State) : Host.Outcome State Fault Refusal :=
  (if edge ≠ s.machine.indexEdge ∨ s.ctu.timing = .stopped then s
   else if s.ctu.streak = 0 then { s with ctu := s.ctu.origin s.timestamp }
   else s.judgeIndex).done

/-! ### STOPPED_TIMEOUT (R2) -/

/-- The CTU after the entry to STOPPED. -/
def Ctu.stopped (c : Ctu) : Ctu :=
  { c with timing := .stopped, streak := 0, elapsed := 0, lastPeriod := none }

/-- STOPPED_TIMEOUT (R2): the moment comes when the stopped timer has run its 50,000 µs; in STOPPED it is not
examined. -/
def execStoppedTimeout (s : State) : Host.Outcome State Fault Refusal :=
  (if s.ctu.timing = .stopped then s
   else
    let t := s.elapse (stoppedLimit - s.ctu.stoppedTimer)
    t.timingFault .stopped t.ctu.stopped).done

/-! ### The machine-ready line (R14) -/

/-- READY_LINE_CHANGE (R14): a return to agreement sets the debounce timer back to 0. -/
def execReadyLineChange (level : Bool) (s : State) : Host.Outcome State Fault Refusal :=
  ({ s with
      pins := { s.pins with readyLine := level }
      ctu := { s.ctu with debounce := if level = s.ctu.ready then 0 else s.ctu.debounce } } : State).done

/-- The ready state takes the raw level: READY_LOST is handed to every fitted head, READY_GAINED to none. -/
def State.takeReady (s : State) : State :=
  let t := { s with ctu := { s.ctu with ready := s.pins.readyLine, debounce := 0 } }
  if s.pins.readyLine then t.postCylinder .readyGained
  else (t.postCylinder .readyLost).forFitted fun h u => u.readyLost h

/-- READY_DEBOUNCE_EXPIRY (R14): the moment comes when the raw line has differed for 10,000 µs. -/
def execReadyDebounceExpiry (s : State) : Host.Outcome State Fault Refusal :=
  (if s.pins.readyLine = s.ctu.ready then s else (s.elapse (debounceLimit - s.ctu.debounce)).takeReady).done

/-! ### SET_MACHINE (R15, R107) -/

/-- The NOMINAL_PERIOD a request stores: 0 stands, and any other value is saturated. -/
def nominalOf (n : Nat) : Nat := if n = 0 then 0 else clampTo 10000 4000000 n

/-- The settings a SET_MACHINE stores. -/
def MachineFields.settings (f : MachineFields) (edge : IndexEdge) : MachineSettings where
  fitted := f.fitted
  minsep := f.minsep
  indexEdge := edge
  indexTol := min 255 f.indexTol
  nominalPeriod := nominalOf f.nominalPeriod
  periodTol := min 65535 f.periodTol
  reportRevs := min 255 f.reportRevs

/-- Whether a field of a SET_MACHINE was saturated. -/
def MachineFields.saturated (f : MachineFields) : Bool :=
  outside 0 255 f.indexTol || decide (nominalOf f.nominalPeriod ≠ f.nominalPeriod) || outside 0 65535 f.periodTol ||
    outside 0 255 f.reportRevs

/-- The CTU after a SET_MACHINE: a changed index edge drops the origin, and REPORT_REVS loads the countdown
(R11, R15). -/
def Ctu.afterSetting (c : Ctu) (edgeChanged : Bool) (reportRevs : Nat) : Ctu :=
  { (if edgeChanged then c.unoriginated else c) with countdown := reportRevs }

/-- A head and axis that become unfitted: an immediate retract, and UNHOMED with fault NONE (R104, R107). -/
def State.unfit (s : State) (h : HeadId) : State := (s.immediateRetract h).updAxis h fun a => a.lost .none

/-- The heads that a new F leaves unfitted. -/
def State.unfitAbove (s : State) (before : Nat) : State :=
  heads4.foldl (fun t h => if t.machine.fitted ≤ h.val ∧ h.val < before then t.unfit h else t) s

/-- The settings that act once a SET_MACHINE has written F: a raised F waits for the next count (R15), and a lowered one
leaves heads and axes unfitted in the step itself (R104, R107; DEDUCED, notes/assumptions/31.md). -/
def Acting.afterSetting (a : Acting) (fitted : Nat) : Acting := { a with fitted := min a.fitted fitted }

/-- A SET_MACHINE that passes its checks is written whole. -/
def State.writeMachine (s : State) (c : MachineSettings) : State :=
  ({ s with
      machine := c
      ctu := { s.ctu.afterSetting (decide (c.indexEdge ≠ s.machine.indexEdge)) c.reportRevs with
        acting := s.ctu.acting.afterSetting c.fitted } } : State).unfitAbove s.machine.fitted

/-- SET_MACHINE as the CTU takes it. -/
def takeSetMachine (f : MachineFields) (s : State) : State × Response :=
  if s.anyHeld && decide (f.fitted ≠ s.machine.fitted ∨ f.edge ≠ edgeCode s.machine.indexEdge) then
    (s, Response.busy [])
  else
    match edgeOf f.edge with
    | none => (s, Response.badField [])
    | some edge =>
      if outside 1 4 f.fitted || outside 0 1000000 f.minsep then (s, Response.badField [])
      else if s.lawHolds f.minsep f.fitted then
        (s.writeMachine (f.settings edge), Response.taken f.saturated [])
      else (s, Response.refused .collision [])

/-- SET_MACHINE (R15). -/
def execSetMachine (tag : Byte) (payload : List Byte) (s : State) : Host.Outcome State Fault Refusal :=
  (s.request ⟨0x01, tag, payload⟩ (machineFields payload) takeSetMachine).done

end Sys2Proof.Machine
end

