-- ==== Sys2Proof/Machine/Monitor.lean ====
section
/-! DEFINITION. The Monitor Sequencer (chapter 9): slot records, conversions, alarms, and its requests. -/

namespace Sys2Proof.Machine

/-- The µs a conversion takes (R148). -/
def conversionTime : Nat := 40

/-- The record of a slot number. -/
def Monitor.slot (m : Monitor) (i : Fin 16) : Slot := m.slots.get i

/-- Replaces a slot's record. -/
def Monitor.setSlot (m : Monitor) (i : Fin 16) (x : Slot) : Monitor := { m with slots := m.slots.set i.val x i.isLt }

/-- A slot record in a reply, in the order of R149. -/
def slotBytes (x : Slot) : List Byte :=
  opt16 x.value ++ opt32 x.valueTime ++ u16 x.low ++ u16 x.high ++ u8 x.hysteresis ++ u8 x.run ++ u8 x.action.code ++
    [x.mask] ++ u8 (flagCode x.latched)

/-- The slot a carried number names; numbers above 15 name none. -/
def slotOf (n : Nat) : Option (Fin 16) := if h : n < 16 then some ⟨n, h⟩ else none

/-- Replaces the monitor's record. -/
def State.setMonitor (s : State) (m : Monitor) : State := { s with monitor := m }

/-! ### SET_MONITOR (R150) -/

/-- The record a SET_MONITOR stores over the one that stands. -/
def MonitorFields.record (f : MonitorFields) (action : AlarmAction) (x : Slot) : Slot :=
  { x with
    low := min 4095 f.low
    high := min 4095 f.high
    hysteresis := clampTo 1 15 f.hysteresis
    run := 0
    action := action
    mask := f.mask }

/-- Whether a field of a SET_MONITOR was saturated. -/
def MonitorFields.saturated (f : MonitorFields) : Bool :=
  outside 0 4095 f.low || outside 0 4095 f.high || outside 1 15 f.hysteresis

/-- SET_MONITOR as the MS takes it. -/
def takeSetMonitor (f : MonitorFields) (s : State) : State × Response :=
  match slotOf f.slot with
  | none => (s, Response.badField [])
  | some i =>
    let x := s.monitor.slot i
    if s.monitor.mode ≠ .halted then (s, Response.busy (slotBytes x))
    else if x.latched then (s, Response.refused .stillActive (slotBytes x))
    else
      match actionOf f.action with
      | none => (s, Response.badField (slotBytes x))
      | some action =>
        if 15 < f.mask.toNat ∨ min 4095 f.high < min 4095 f.low then (s, Response.badField (slotBytes x))
        else
          (s.setMonitor (s.monitor.setSlot i (f.record action x)),
            Response.taken f.saturated (slotBytes (f.record action x)))

/-- SET_MONITOR (R150). -/
def execSetMonitor (tag : Byte) (payload : List Byte) (s : State) : Host.Outcome State Fault Refusal :=
  (s.request ⟨0x07, tag, payload⟩ (monitorFields payload) takeSetMonitor).done

/-! ### MONITOR_RUN (R151) and MONITOR_HALT (R153) -/

/-- The Monitor Sequencer with a conversion of a slot started. -/
def Monitor.convert (m : Monitor) (i : Fin 16) (now : Nat) : Monitor :=
  { m with conversion := some ⟨i, now + conversionTime⟩ }

/-- A run that passes its checks; a start above the stop is taken as the start alone. -/
def Monitor.run (m : Monitor) (mode : MonitorMode) (start stop : Fin 16) (now : Nat) : Monitor :=
  { m with mode := mode, start := start, stop := max start stop }.convert start now

/-- MONITOR_RUN as the MS takes it. -/
def takeMonitorRun (f : Nat × Nat × Nat) (s : State) : State × Response :=
  if s.monitor.mode ≠ .halted then (s, Response.busy [])
  else
    match runModeOf f.1, slotOf f.2.1, slotOf f.2.2 with
    | some mode, some start, some stop =>
      (s.setMonitor (s.monitor.run mode start stop s.clock),
        Response.ok (u8 mode.code ++ u8 start.val ++ u8 (max start stop).val))
    | _, _, _ => (s, Response.badField [])

/-- MONITOR_RUN (R151). -/
def execMonitorRun (tag : Byte) (payload : List Byte) (s : State) : Host.Outcome State Fault Refusal :=
  (s.request ⟨0x26, tag, payload⟩ (threeBytes payload) takeMonitorRun).done

/-- MONITOR_HALT as the MS takes it. -/
def takeMonitorHalt (_ : Unit) (s : State) : State × Response :=
  (if s.monitor.mode = .halted then s else s.setMonitor { s.monitor with haltRequest := true }, Response.ok [])

/-- MONITOR_HALT (R153). -/
def execMonitorHalt (tag : Byte) (payload : List Byte) (s : State) : Host.Outcome State Fault Refusal :=
  (s.request ⟨0x27, tag, payload⟩ (noBytes payload) takeMonitorHalt).done

/-! ### ALARM_ACK (R157) -/

/-- The latest value of a slot lies in range. -/
def Slot.latestInRange (x : Slot) : Bool := x.value.any x.inRange

/-- ALARM_ACK as the MS takes it. -/
def takeAlarmAck (n : Nat) (s : State) : State × Response :=
  match slotOf n with
  | none => (s, Response.badField [])
  | some i =>
    let x := s.monitor.slot i
    if !x.latched then (s, Response.ok (slotBytes x))
    else if x.latestInRange then
      (s.setMonitor (s.monitor.setSlot i { x with latched := false }), Response.ok (slotBytes { x with latched := false }))
    else (s, Response.refused .stillActive (slotBytes x))

/-- ALARM_ACK (R157). -/
def execAlarmAck (tag : Byte) (payload : List Byte) (s : State) : Host.Outcome State Fault Refusal :=
  (s.request ⟨0x28, tag, payload⟩ (oneByte payload) takeAlarmAck).done

/-! ### CONVERSION_COMPLETE (R148, R152, R154 to R156) -/

/-- The value a conversion stores: slots 14 and 15 convert to 0 (R148). -/
def convertedValue (i : Fin 16) (value : BitVec 12) : Nat := if 14 ≤ i.val then 0 else value.toNat

/-- A slot with a conversion's value, its time and its run counter (R152, R154). -/
def Slot.converted (x : Slot) (v now : Nat) : Slot :=
  { x with
    value := some v
    valueTime := some now
    run := if x.inRange v then 0 else countUp 15 x.run }

/-- Whether the alarm of a slot latches on the value just counted (R155). -/
def Slot.latches (x : Slot) (v : Nat) : Bool :=
  !x.inRange v && decide (x.hysteresis ≤ x.run) && !x.latched && decide (x.action ≠ .none)

/-- The fitted heads, as a mask. -/
def fittedMask (f : Nat) : Byte := BitVec.ofNat 8 (2 ^ f - 1)

/-- The heads an alarm acts on: the masked fitted heads, for an action that retracts (R155). -/
def actedMask (x : Slot) (fitted : Nat) : Byte := if x.action.retracts then x.mask &&& fittedMask fitted else 0

/-- The action of an alarm on each masked fitted head (R156). -/
def State.alarmAll (s : State) (i : Fin 16) (x : Slot) : State :=
  if x.action.retracts then
    s.forFitted fun h t => if masked x.mask h then t.alarmOn i.val (decide (x.action = .retractFast)) h else t
  else s

/-- An alarm latches: its latch is set, its ALARM entry posted, and its action taken (R155, R156). -/
def State.latchAlarm (s : State) (i : Fin 16) (x : Slot) (v : Nat) : State :=
  let s := s.setMonitor (s.monitor.setSlot i { x with latched := true })
  let s := s.post (.alarm i)
    (.alarm v x.low x.high x.run x.action x.mask (actedMask x s.ctu.acting.fitted) s.timestamp s.ctu.revs)
  s.alarmAll i x

/-- The slot's record takes the value, and its alarm is judged (R152, R154, R155). -/
def State.judgeConversion (s : State) (i : Fin 16) (v : Nat) : State :=
  let x := (s.monitor.slot i).converted v s.timestamp
  if x.latches v then s.latchAlarm i x v else s.setMonitor (s.monitor.setSlot i x)

/-- The next slot of a run that goes on: the one above, or the start slot after the stop slot. -/
def nextSlot (m : Monitor) (i : Fin 16) : Fin 16 := if i.val < m.stop.val then i + 1 else m.start

/-- What follows a conversion (R152). -/
def Monitor.follow (m : Monitor) (i : Fin 16) (now : Nat) : Monitor :=
  if m.haltRequest then { m with mode := .halted, haltRequest := false, conversion := none }
  else if m.mode = .continuous ∨ i.val < m.stop.val then m.convert (nextSlot m i) now
  else { m with mode := .halted, conversion := none }

/-- The conversion in flight completes with a value (R152). -/
def State.completeConversion (s : State) (c : Conversion) (value : BitVec 12) : State :=
  let t := (s.reach c.done).judgeConversion c.slot (convertedValue c.slot value)
  t.setMonitor (t.monitor.follow c.slot t.clock)

/-- CONVERSION_COMPLETE (R152): without a conversion in flight nothing completes. -/
def execConversionComplete (value : BitVec 12) (s : State) : Host.Outcome State Fault Refusal :=
  (match s.monitor.conversion with
   | none => s
   | some c => s.completeConversion c value).done

end Sys2Proof.Machine
end

