-- ==== Sys2Proof/Machine/Events.lean ====
section
/-! DEFINITION. Events of the heads, axes and line buffers: ramp updates, settle and dwell expiries, move steps, home
sensors and limit switches, and the ends of copies and patch fills (chapters 5 to 7). -/

namespace Sys2Proof.Machine

/-! ### Head timers (R87, R94, R95) -/

/-- A head's ramp takes the update that is due now; the head's report reaches its band (R87, R93). -/
def State.rampStep (s : State) (h : HeadId) (r : Ramp) : State :=
  let x := (s.heads.get h).rampUpdate r
  (s.updHead h fun _ => x.1).onReport h x.2

/-- RAMP_UPDATE (R87): the update time of the head's ramp comes; a head without a ramp has no update. -/
def execRampUpdate (h : HeadId) (s : State) : Host.Outcome State Fault Refusal :=
  (match (s.heads.get h).ramp with
   | none => s
   | some r => (s.reach r.next).rampStep h r).done

/-- A running settle timer's time left; it runs in SETTLING alone (R94). -/
def Head.settleLeft (x : Head) : Option Nat := if x.state = .settling then x.settleTimer else none

/-- SETTLE_EXPIRY (R94): the settle timer runs out, the head enters READY and reports engaged. -/
def execSettleExpiry (h : HeadId) (s : State) : Host.Outcome State Fault Refusal :=
  (match (s.heads.get h).settleLeft with
   | none => s
   | some n => ((s.elapse n).updHead h Head.settleOver).onEngaged h).done

/-- A running dwell timer's time left; it runs while the head is READY with no band active (R95). -/
def State.dwellLeft (s : State) (h : HeadId) : Option Nat :=
  if (s.heads.get h).state = .ready ∧ (s.active h).isNone then (s.heads.get h).dwellTimer else none

/-- DWELL_EXPIRY (R95): the dwell timer runs out, and the head starts a retract ramp from L to 0. -/
def execDwellExpiry (h : HeadId) (s : State) : Host.Outcome State Fault Refusal :=
  (match s.dwellLeft h with
   | none => s
   | some n => (s.elapse n).retractOrder h).done

/-! ### Move steps (R105, R111, R112, R118, R120) -/

/-- The axis after a step of a homed move. -/
def Axis.advance (a : Axis) (m : Move) : Axis :=
  { a with position := a.position.map (stepFrom m.up), move := if m.toGo ≤ 1 then none else some m.stepped }.pulse 1

/-- A step of a homing move: one home step, and the failure of the home at the HOME_SPAN-th (R111). -/
def State.homingStep (s : State) (k : HeadId) (m : Move) : State :=
  let steps := (s.axes.get k).homeSteps.getD 0 + 1
  let t := s.updAxis k fun a => { a with homeSteps := some steps, move := some m.stepped }.pulse 1
  if (s.axes.get k).settings.homeSpan ≤ steps ∧ s.pins.homeSensor.get k = false then
    (t.updAxis k fun a => a.lost .homeNotFound).postAxis k .homeNotFound
  else t

/-- A step of a seek: the step that reaches the target ends it (R112). -/
def State.seekStep (s : State) (k : HeadId) (m : Move) : State :=
  let t := s.updAxis k fun a => a.advance m
  if m.toGo ≤ 1 then (t.updAxis k Axis.rest).postAxis k .arrived else t

/-- A step of a band's move: the last one ends in stage HOLD, and a positioning move then reports at start
(R118, R120). -/
def State.feedStep (s : State) (k : HeadId) (m : Move) : State :=
  let t := s.updAxis k fun a => a.advance m
  if m.toGo ≤ 1 then
    if (s.axes.get k).moving then t.updAxis k fun a => a.setStage .hold
    else (t.updAxis k fun a => a.setStage .hold).onAtStart k
  else t

/-- A step of an axis's move, by the axis state. -/
def State.moveStep (s : State) (k : HeadId) (m : Move) : State :=
  match (s.axes.get k).state with
  | .homing => s.homingStep k m
  | .seeking => s.seekStep k m
  | .feeding => s.feedStep k m
  | .idle => s
  | .unhomed => s

/-- MOVE_STEP (R105): the next step of the axis's move falls due and is issued. -/
def execMoveStep (k : HeadId) (s : State) : Host.Outcome State Fault Refusal :=
  (match (s.axes.get k).move with
   | none => s
   | some m => (s.reach m.due).moveStep k m).done

/-! ### Inputs of an axis (R111, R114) -/

/-- The home sensor of a HOMING axis becomes active (R111). -/
def State.homeFound (s : State) (k : HeadId) : State :=
  if (s.axes.get k).state = .homing then (s.updAxis k Axis.foundHome).postAxis k .homed else s

/-- HOME_SENSOR_ACTIVE (R111). -/
def execHomeSensorActive (k : HeadId) (level : Bool) (s : State) : Host.Outcome State Fault Refusal :=
  (let t := { s with pins := { s.pins with homeSensor := s.pins.homeSensor.set k level } }
   if level then t.homeFound k else t).done

/-- LIMIT_SWITCH_ACTIVE (R114). -/
def execLimitSwitchActive (k : HeadId) (level : Bool) (s : State) : Host.Outcome State Fault Refusal :=
  (({ s with pins := { s.pins with limitSwitch := s.pins.limitSwitch.set k level } } : State).limitCheck k).done

/-! ### Ends of copies and fills (R76, R83) -/

/-- The STANDBY buffer becomes LOADED with the tones of cells 0 to N − 1 (R76, R83). -/
def LineBuffers.filled (b : LineBuffers) (t : BufferTrack) (tones : List Byte) : LineBuffers :=
  b.setStandby ⟨.loaded t, Memory.writeRun b.standby.tones 0 tones⟩

/-- A copy completes: its tones stand in the STANDBY buffer, its pages are free, and so is the port (R76). -/
def State.finishCopy (s : State) (c : Copy) : State :=
  let t := s.updBuffers c.head fun b => b.filled ⟨c.track, .data, c.n⟩ (readTones s.store.dram c.pages c.n)
  let t := { t with store := t.store.giveBack c.pages, fetch := { t.fetch with copy := none } }
  (t.service c.head).arbitrate

/-- COPY_COMPLETE (R76): the copy in flight reaches its completion time. -/
def execCopyComplete (s : State) : Host.Outcome State Fault Refusal :=
  (match s.fetch.copy with
   | none => s
   | some c => (s.reach c.done).finishCopy c).done

/-- A fill ends with the tones of the patch record in the STANDBY buffer, which is LOADING with kind PATCH while the
fill is in flight (R83, R85). -/
def State.finishFill (s : State) (h : HeadId) : State :=
  let t := { s with fetch := { s.fetch with fills := s.fetch.fills.set h none } }
  match (s.buffers.get h).standby.held with
  | .loading x =>
    if x.kind = .patch then (t.updBuffers h fun b => b.filled x (patchTones (s.patches.get h) x.n)).service h else t
  | .empty => t
  | .loaded _ => t

/-- PATCH_FILL_COMPLETE (R83): the head's fill in flight ends. -/
def execPatchFillComplete (h : HeadId) (s : State) : Host.Outcome State Fault Refusal :=
  (match s.fetch.fills.get h with
   | none => s
   | some done => (s.reach done).finishFill h).done

end Sys2Proof.Machine
end

