-- ==== Sys2Proof/Machine/Queries.lean ====
section
/-! DEFINITION. The queries: GET_CYLINDER, GET_STORE, GET_HEAD, GET_AXIS, GET_MONITOR and GET_STATUS. Each reports the
card as it stands when it is taken; GET_STATUS alone may change something, the frame-error record. Fields stand in the
order their chapter lists them, in the sizes of R174. A presence byte stands before each optional field, and one before
each group of values that are absent together (notes/assumptions/17.md). -/

namespace Sys2Proof.Machine

/-- One run of bytes for each fitted head, in ascending order, all that a reply gives of one head before the next (DESIGN
CHOICE, notes/assumptions/17.md). -/
def State.perFitted (s : State) (f : HeadId → List Byte) : List Byte := (heads4.filter s.fitted).flatMap f

/-! ### GET_CYLINDER (R16) -/

/-- The machine settings in the order of section 1.8. -/
def machineSettingsBytes (m : MachineSettings) : List Byte :=
  u8 m.fitted ++ u32 m.minsep ++ u8 (edgeCode m.indexEdge) ++ u8 m.indexTol ++ u32 m.nominalPeriod ++
    u16 m.periodTol ++ u8 m.reportRevs

/-- The event of the last CYLINDER posting: the content of its entry, which a sending keeps (R16, R168). -/
def State.lastCylEvent (s : State) : Option Nat :=
  match (s.link.entry .cylinder).content with
  | some (.cylinder e _ _ _ _) => some e.code
  | _ => none

/-- The content of a GET_CYLINDER reply. -/
def cylinderContent (s : State) : List Byte :=
  u8 s.ctu.timing.code ++ u16 s.ctu.angle ++ i32 s.ctu.elapsed ++ u8 s.ctu.streak ++ u32 s.ctu.revs ++
    opt32 s.ctu.lastPeriod ++ u8 (flagCode s.ctu.speedOk) ++ u32 s.timestamp ++ u8 (flagCode s.ctu.ready) ++
    u8 s.ctu.countdown ++ machineSettingsBytes s.machine ++ (s.perFitted fun h => u16 (s.relCount h)) ++
    opt8 s.lastCylEvent

/-- GET_CYLINDER as the CTU takes it. -/
def takeGetCylinder (_ : Unit) (s : State) : State × Response := (s, Response.ok (cylinderContent s))

/-- GET_CYLINDER (R16). -/
def execGetCylinder (tag : Byte) (payload : List Byte) (s : State) : Host.Outcome State Fault Refusal :=
  (s.request ⟨0x31, tag, payload⟩ (noBytes payload) takeGetCylinder).done

/-! ### GET_STORE (R67) -/

/-- One head's part of a GET_STORE reply. -/
def storeHeadBytes (s : State) (h : HeadId) : List Byte :=
  let q := s.store.queues.get h
  u16 q.length ++ opt16 (q.head?.map Descriptor.number) ++ opt16 (q.getLast?.map Descriptor.number) ++
    u8 (fillingCount q) ++ opt16 (s.lead h) ++ u8 (flagCode (s.store.starved.get h))

/-- The content of a GET_STORE reply: all four heads, fitted or not, every field of one head before the next head (DESIGN
CHOICE, notes/assumptions/17.md). -/
def storeContent (s : State) : List Byte :=
  u32 s.store.free.count ++ u16 s.store.freeDescriptors ++ heads4.flatMap (storeHeadBytes s)

/-- GET_STORE as the Track Store takes it. -/
def takeGetStore (_ : Unit) (s : State) : State × Response := (s, Response.ok (storeContent s))

/-- GET_STORE (R67). -/
def execGetStore (tag : Byte) (payload : List Byte) (s : State) : Host.Outcome State Fault Refusal :=
  (s.request ⟨0x34, tag, payload⟩ (noBytes payload) takeGetStore).done

/-! ### GET_HEAD (R103) -/

/-- A ramp context; the segment is absent on a LINEAR ramp. -/
def rampBytes (r : Ramp) : List Byte :=
  u8 r.shape.code ++ u16 r.start ++ u16 r.target ++ i16 r.delta ++
    optional 3 (r.segment.map fun x => u8 x.number ++ u16 x.target) ++ u32 (wrap32 r.next)

/-- The depth table summary (R42): the built flag, and then, each behind its own presence byte (R175), the curve, the
calibration copy and the two counts. -/
def tableSummary (t : Option DepthTable) : List Byte :=
  u8 (flagCode t.isSome) ++ opt8 (t.map DepthTable.curve) ++
    optional 8 (t.map fun x => calibrationBytes x.calibration) ++ opt8 (t.map DepthTable.lows) ++
    opt8 (t.map DepthTable.highs)

/-- The placement context summary (R27). -/
def contextSummary (c : Option PlacementContext) : List Byte :=
  optional 7 (c.map fun x => u8 x.screen ++ u16 x.rate ++ u32 x.period)

/-- One line buffer (R70): role, state, track number, kind and N. -/
def bufferBytes (b : LineBuffer) (active : Bool) : List Byte :=
  u8 (if active then 0 else 1) ++ u8 b.held.code ++ opt16 (b.held.track?.map BufferTrack.number) ++
    opt8 (b.held.track?.map fun t => t.kind.code) ++ opt16 (b.held.track?.map BufferTrack.n)

/-- The tag and phase of a band, absent when none is held. -/
def bandBytes (b : Option Band) : List Byte := optional 3 (b.map fun x => u16 x.tag ++ u8 x.phase.code)

/-- The content of a GET_HEAD reply. -/
def headContent (h : HeadId) (s : State) : List Byte :=
  let x := s.heads.get h
  let b := s.buffers.get h
  let q := s.bands.get h
  u8 x.state.code ++ u16 x.level ++ u16 x.depth ++ optional 15 (x.ramp.map rampBytes) ++ opt32 x.settleTimer ++
    opt32 x.dwellTimer ++ opt16 x.nextCell ++ u8 (flagCode x.inhibit) ++ headSettingsBytes x.settings ++
    tableSummary x.table ++ contextSummary x.context ++ bufferBytes b.buf0 (!b.oneActive) ++
    bufferBytes b.buf1 b.oneActive ++ u16 (s.relCount h) ++ bandBytes q.active ++ bandBytes q.waiting ++
    u8 q.results.length

/-- GET_HEAD as the HDU takes it. -/
def takeGetHead (n : Nat) (s : State) : State × Response :=
  onFitted n s fun h => (s, Response.ok (headContent h s))

/-- GET_HEAD (R103). -/
def execGetHead (tag : Byte) (payload : List Byte) (s : State) : Host.Outcome State Fault Refusal :=
  (s.request ⟨0x32, tag, payload⟩ (oneByte payload) takeGetHead).done

/-! ### GET_AXIS (R123) -/

/-- The last known position, which an UNHOMED axis reports (R105). -/
def Axis.lastKnownReported (a : Axis) : Option Nat := if a.state = .unhomed then a.lastKnown else none

/-- A feed context in a reply: band tag, feed mode, start, stage, trigger and helical pointer. -/
def feedBytes (f : FeedContext) : List Byte :=
  u16 f.tag ++ u8 f.feed.code ++ u32 f.start ++ u8 f.stage.code ++ u8 (flagCode f.armed) ++ opt16 f.pointer

/-- The content of a GET_AXIS reply. An active home sensor or limit switch is reported as level HIGH, code 1, and an
inactive one as LOW, code 0 (DESIGN CHOICE, notes/assumptions/35.md). -/
def axisContent (k : HeadId) (s : State) : List Byte :=
  let a := s.axes.get k
  u8 a.state.code ++ u8 a.lastFault.code ++ opt32 a.position ++ opt32 (a.position.map (a.settings.origin + ·)) ++
    opt32 a.lastKnownReported ++ opt32 a.target ++ opt32 a.homeSteps ++
    optional 8 ((s.span k).map fun x => u32 x.1 ++ u32 x.2) ++ u8 (flagCode (s.pins.homeSensor.get k)) ++
    u8 (flagCode (s.pins.limitSwitch.get k)) ++ axisSettingsBytes a.settings ++ u32 s.machine.minsep ++
    optional 12 (a.feed.map feedBytes)

/-- GET_AXIS as the CA takes it. -/
def takeGetAxis (n : Nat) (s : State) : State × Response :=
  onFitted n s fun k => (s, Response.ok (axisContent k s))

/-- GET_AXIS (R123). -/
def execGetAxis (tag : Byte) (payload : List Byte) (s : State) : Host.Outcome State Fault Refusal :=
  (s.request ⟨0x33, tag, payload⟩ (oneByte payload) takeGetAxis).done

/-! ### GET_MONITOR (R159) -/

/-- The content of a GET_MONITOR reply: every field of one slot before the next slot (DESIGN CHOICE,
notes/assumptions/17.md). -/
def monitorContent (m : Monitor) : List Byte :=
  u8 m.mode.code ++ u8 (flagCode m.haltRequest) ++ u8 m.start.val ++ u8 m.stop.val ++
    opt8 (m.conversion.map fun c => c.slot.val) ++ m.slots.toList.flatMap slotBytes

/-- GET_MONITOR as the MS takes it. -/
def takeGetMonitor (_ : Unit) (s : State) : State × Response := (s, Response.ok (monitorContent s.monitor))

/-- GET_MONITOR (R159). -/
def execGetMonitor (tag : Byte) (payload : List Byte) (s : State) : Host.Outcome State Fault Refusal :=
  (s.request ⟨0x35, tag, payload⟩ (noBytes payload) takeGetMonitor).done

/-! ### GET_STATUS (R171) -/

/-- One head's part of a GET_STATUS reply. -/
def statusHeadBytes (s : State) (h : HeadId) : List Byte :=
  u8 (s.heads.get h).state.code ++ u8 (flagCode (s.heads.get h).inhibit) ++ bandBytes (s.bands.get h).active ++
    bandBytes (s.bands.get h).waiting ++ u8 (s.bands.get h).results.length

/-- One axis's part of a GET_STATUS reply. -/
def statusAxisBytes (s : State) (k : HeadId) : List Byte :=
  u8 (s.axes.get k).state.code ++ u8 (s.axes.get k).lastFault.code

/-- The port state, and the head and track number of the copy in flight (R85). -/
def portBytes (e : FetchEngine) : List Byte :=
  u8 (flagCode e.copy.isSome) ++ optional 3 (e.copy.map fun c => u8 c.head.val ++ u16 c.track)

/-- How many entries of a group are pending. -/
def Link.pendingIn (l : Link) (g : Fin 6) : Nat :=
  (noticeIds.filter fun id => decide (noticeGroup id = g) && (l.entry id).pending).length

/-- A group's level and enable, and how many of its entries are pending. -/
def groupStatus (l : Link) (g : Fin 6) : List Byte :=
  u8 (l.groups.get g).level ++ u8 (flagCode (l.groups.get g).enabled) ++ u8 (l.pendingIn g)

/-- The content of a GET_STATUS reply: every field of one head, axis or group before the next (DESIGN CHOICE,
notes/assumptions/17.md). -/
def statusContent (s : State) : List Byte :=
  u8 s.ctu.timing.code ++ u8 (flagCode s.ctu.speedOk) ++ u8 (flagCode s.ctu.ready) ++ u32 s.ctu.revs ++
    u32 s.timestamp ++ u8 s.machine.fitted ++ s.perFitted (statusHeadBytes s) ++ heads4.flatMap (statusAxisBytes s) ++
    u32 s.store.free.count ++ u16 s.store.freeDescriptors ++ portBytes s.fetch ++ u8 s.monitor.mode.code ++
    u8 (s.monitor.slots.toList.filter Slot.latched).length ++ u8 s.link.inbound.length ++
    u8 s.link.outbound.length ++ u16 s.link.errors ++ opt8 (s.link.lastError.map FrameError.code) ++
    (List.finRange 6).flatMap (groupStatus s.link)

/-- The link with its frame-error record cleared. -/
def Link.errorsCleared (l : Link) : Link := { l with errors := 0, lastError := none }

/-- GET_STATUS as the Link Interface takes it: the frame errors are reported, and then cleared when the flag is
YES. -/
def takeGetStatus (n : Nat) (s : State) : State × Response :=
  match flagOf n with
  | none => (s, Response.badField [])
  | some true => ({ s with link := s.link.errorsCleared }, Response.ok (statusContent s))
  | some false => (s, Response.ok (statusContent s))

/-- GET_STATUS (R171). -/
def execGetStatus (tag : Byte) (payload : List Byte) (s : State) : Host.Outcome State Fault Refusal :=
  (s.request ⟨0x30, tag, payload⟩ (oneByte payload) takeGetStatus).done

end Sys2Proof.Machine
end

