-- ==== Sys2Proof/Machine/Receive.lean ====
section
/-! DEFINITION. The way of a request from the line to its owner: the receiver, the inbound request list, and the handing
of listed requests (R162 to R165), with the link's events FRAME_RECEIVED, STALL_TIMEOUT and FRAME_SENT. -/

namespace Sys2Proof.Machine

/-! ### Handing the listed requests (R165) -/

/-- A request given to its owner by its kind (section 11.2); a kind that names no request is answered by the Link
Interface. -/
def State.serve (s : State) (f : Frame) : Host.Outcome State Fault Refusal :=
  match f.kind.toNat with
  | 0x01 => execSetMachine f.tag f.payload s
  | 0x02 => execSetHead f.tag f.payload s
  | 0x03 => execSetAxis f.tag f.payload s
  | 0x04 => execSetScreen f.tag f.payload s
  | 0x05 => execSetCurve f.tag f.payload s
  | 0x06 => execSetPatch f.tag f.payload s
  | 0x07 => execSetMonitor f.tag f.payload s
  | 0x08 => execSetNotice f.tag f.payload s
  | 0x10 => execTrack f.tag f.payload s
  | 0x11 => execDropTracks f.tag f.payload s
  | 0x12 => execStoreClear f.tag f.payload s
  | 0x20 => execEngrave f.tag f.payload s
  | 0x21 => execStopBand f.tag f.payload s
  | 0x22 => execAbortBand f.tag f.payload s
  | 0x23 => execHome f.tag f.payload s
  | 0x24 => execSeek f.tag f.payload s
  | 0x25 => execAxisHalt f.tag f.payload s
  | 0x26 => execMonitorRun f.tag f.payload s
  | 0x27 => execMonitorHalt f.tag f.payload s
  | 0x28 => execAlarmAck f.tag f.payload s
  | 0x29 => execHeadClear f.tag f.payload s
  | 0x2A => execModuleReset f.tag f.payload s
  | 0x30 => execGetStatus f.tag f.payload s
  | 0x31 => execGetCylinder f.tag f.payload s
  | 0x32 => execGetHead f.tag f.payload s
  | 0x33 => execGetAxis f.tag f.payload s
  | 0x34 => execGetStore f.tag f.payload s
  | 0x35 => execGetMonitor f.tag f.payload s
  | 0x36 => execReadResult f.tag f.payload s
  | _ => execUnknownKindRequest f.kind f.tag f.payload s

/-- The card after a request has been taken; no request stops the card (notes/assumptions/23.md). -/
def State.served (s : State) (f : Frame) : State :=
  match s.serve f with
  | .next t => t
  | .fault _ => s
  | .refused _ => s

/-- The oldest listed requests are handed one after another while one can be handed, at most `n` of them. The
transmitter chooses after each (R165, R167). -/
def State.handUpTo (s : State) : Nat → State
  | 0 => s
  | n + 1 =>
    match s.link.inbound with
    | [] => s
    | f :: _ => if s.canHand f then (s.served f).handUpTo n else s

/-- Every listed request that can be handed now is handed, oldest first (R165). -/
def State.handAll (s : State) : State := s.handUpTo s.link.inbound.length

/-! ### The receiver (R162 to R164) -/

/-- The smallest LEN (R160). -/
def lenMin : Nat := 2

/-- The largest LEN (R160). -/
def lenMax : Nat := 4108

/-- A frame under reception is discarded (R163). -/
def State.discardFrame (s : State) (e : FrameError) : State := { s with link := s.link.discard e }

/-- A good frame is listed, and the listed requests are handed while they can be (R164, R165). -/
def State.takeFrame (s : State) (f : Frame) : State := ({ s with link := s.link.accept f } : State).handAll

/-- The bytes the receiver holds, from the SYNC of the frame under reception onward. -/
def State.hold (s : State) (bytes : List Byte) : State := { s with link := { s.link with received := bytes } }

/-- The receiver reads bytes from the start of a frame search: it drops bytes until a SYNC, waits for the rest of a
frame it is inside, takes a good frame, and after a discard searches again from the byte that followed the discarded
frame's SYNC (R162, R163). `fuel` bounds the searches; one more than the bytes is enough. -/
def scan : Nat → List Byte → State → State
  | 0, buf, s => s.hold buf
  | _ + 1, [], s => s.hold []
  | fuel + 1, b :: rest, s =>
    if b ≠ sync then scan fuel rest s
    else if rest.length < 2 then s.hold (b :: rest)
    else if rd16 rest 0 < lenMin ∨ lenMax < rd16 rest 0 then scan fuel rest (s.discardFrame .badLen)
    else if rest.length < rd16 rest 0 + 4 then s.hold (b :: rest)
    else if rd16 rest (rd16 rest 0 + 2) = (crc (rest.take (rd16 rest 0 + 2))).toNat then
      scan fuel (rest.drop (rd16 rest 0 + 4))
        (s.takeFrame ⟨rest.getD 2 0, rest.getD 3 0, (rest.take (rd16 rest 0 + 2)).drop 4⟩)
    else scan fuel rest (s.discardFrame .badCheck)

/-- The stall timer starts anew (R162). -/
def State.freshStall (s : State) : State := { s with link := { s.link with stall := 0 } }

/-- The receiver takes bytes: they follow those it holds, and the stall timer starts anew (R162). -/
def State.receive (s : State) (bytes : List Byte) : State :=
  match bytes with
  | [] => s
  | _ :: _ => scan (s.link.received.length + bytes.length + 1) (s.link.received ++ bytes) s.freshStall

/-- The stall timer's expiry: the frame under reception is discarded and the bytes after its SYNC are examined again
(R162, R163). -/
def State.stalled (s : State) : State :=
  match s.link.received with
  | [] => s
  | _ :: rest => scan (rest.length + 1) rest (s.freshStall.discardFrame .stall)

/-! ### Link events -/

/-- FRAME_RECEIVED (R162). -/
def execFrameReceived (bytes : List Byte) (s : State) : Host.Outcome State Fault Refusal := (s.receive bytes).done

/-- STALL_TIMEOUT (R162): the moment comes when the stall timer has run its 5,000 µs inside a frame. -/
def execStallTimeout (s : State) : Host.Outcome State Fault Refusal :=
  (if s.link.received = [] then s else (s.elapse (stallLimit - s.link.stall)).stalled).done

/-- The µs until the frame on the line has left it. -/
def Sending.timeLeft (x : Sending) : Nat := ceilDiv x.left bytesPerMicro

/-- The frame on the line ends. After the MODULE_RESET reply the reset follows (R172). -/
def Link.lineFree (l : Link) (x : Sending) : Link :=
  { l with sending := none, resetSent := l.resetSent || x.resets }

/-- FRAME_SENT (R167): the frame on the line ends and the transmitter chooses the next one. A reply that then leaves the
list may let listed requests be handed (R165). -/
def execFrameSent (s : State) : Host.Outcome State Fault Refusal :=
  (match s.link.sending with
   | none => s
   | some x =>
    let t := s.elapse x.timeLeft
    (({ t with link := t.link.lineFree x } : State).settled).handAll).done

end Sys2Proof.Machine
end

