-- ==== Sys2Proof/Machine/Time.lean ====
section
/-! DEFINITION. What the card does of itself while no command waits: the event that is due now, if any, in a fixed
order (notes/assumptions/1.md). -/

namespace Sys2Proof.Machine

/-- The command when a condition holds. -/
def onlyIf (p : Bool) (c : Instr) : Option Instr := if p then some c else none

/-- Whether an instant has come. -/
def State.isDue (s : State) (due : Option Nat) : Bool := due.any fun d => d ≤ s.clock

/-- The oldest listed request, when it can be handed (R165). Every step that lists a request, or lets a reply leave its
list, hands what can be handed, so only a card set up by hand has one here. -/
def State.handing (s : State) : Option Instr :=
  match s.link.inbound with
  | [] => none
  | f :: _ => onlyIf (s.canHand f) (requestOf f)

/-- The link's due event: the reset, the end of a frame, a request to hand, the stall timer (R162, R165, R167,
R172). -/
def State.linkEvent (s : State) : Option Instr :=
  (onlyIf s.link.resetSent .moduleResetEffect).or <|
  (onlyIf (s.link.sending.any fun x => x.left = 0) .frameSent).or <|
  s.handing.or <|
  onlyIf (decide (s.link.received ≠ []) && decide (stallLimit ≤ s.link.stall)) .stallTimeout

/-- The CTU's due event: the stopped timer or the ready debounce timer (R2, R14). -/
def State.cylinderEvent (s : State) : Option Instr :=
  (onlyIf (decide (s.ctu.timing ≠ .stopped) && decide (stoppedLimit ≤ s.ctu.stoppedTimer)) .stoppedTimeout).or <|
  onlyIf (decide (s.pins.readyLine ≠ s.ctu.ready) && decide (debounceLimit ≤ s.ctu.debounce)) .readyDebounceExpiry

/-- A head's due event: its fill's end, its ramp's update, its settle or dwell timer (R83, R87, R94, R95). -/
def State.headEvent (s : State) (h : HeadId) : Option Instr :=
  (onlyIf (s.isDue (s.fetch.fills.get h)) (.patchFillComplete h)).or <|
  (onlyIf (s.isDue ((s.heads.get h).ramp.map Ramp.next)) (.rampUpdate h)).or <|
  (onlyIf (decide ((s.heads.get h).settleLeft = some 0)) (.settleExpiry h)).or <|
  onlyIf (decide (s.dwellLeft h = some 0)) (.dwellExpiry h)

/-- An axis's due event: the next step of its move (R105). -/
def State.axisEvent (s : State) (k : HeadId) : Option Instr :=
  onlyIf (s.isDue ((s.axes.get k).move.map Move.due)) (.moveStep k)

/-- The conversion due to complete, with the value its channel then shows (R148, notes/assumptions/6.md). -/
def State.monitorEvent (s : State) : Option Instr :=
  match s.monitor.conversion with
  | none => none
  | some c => onlyIf (s.isDue (some c.done)) (.conversionComplete (Config.analogInput c.slot.val s.clock))

/-- The event that is due now, the first in the order of the blocks and then of the heads and axes. -/
def State.dueEvent (s : State) : Option Instr :=
  s.linkEvent.or <|
  s.cylinderEvent.or <|
  (onlyIf (s.isDue (s.fetch.copy.map Copy.done)) .copyComplete).or <|
  (heads4.findSome? s.headEvent).or <|
  (heads4.findSome? s.axisEvent).or <|
  s.monitorEvent

end Sys2Proof.Machine
end

