-- ==== Sys2Proof/Machine/Dispatch.lean ====
section
/-! DEFINITION. The meaning of every command, by its constructor. -/

namespace Sys2Proof.Machine

/-- The effect of a command on everything but the queue of waiting commands. -/
def exec (i : Instr) (s : State) : Host.Outcome State Fault Refusal :=
  match i with
  | .powerOn => Sys2Proof.Machine.execPowerOn s
  | .countEvent forward => Sys2Proof.Machine.execCountEvent forward s
  | .indexEvent edge => Sys2Proof.Machine.execIndexEvent edge s
  | .stoppedTimeout => Sys2Proof.Machine.execStoppedTimeout s
  | .readyLineChange level => Sys2Proof.Machine.execReadyLineChange level s
  | .readyDebounceExpiry => Sys2Proof.Machine.execReadyDebounceExpiry s
  | .frameReceived bytes => Sys2Proof.Machine.execFrameReceived bytes s
  | .stallTimeout => Sys2Proof.Machine.execStallTimeout s
  | .frameSent => Sys2Proof.Machine.execFrameSent s
  | .moduleResetEffect => Sys2Proof.Machine.execModuleResetEffect s
  | .unknownKindRequest kind tag payload => Sys2Proof.Machine.execUnknownKindRequest kind tag payload s
  | .setMachine tag payload => Sys2Proof.Machine.execSetMachine tag payload s
  | .getCylinder tag payload => Sys2Proof.Machine.execGetCylinder tag payload s
  | .setScreen tag payload => Sys2Proof.Machine.execSetScreen tag payload s
  | .setCurve tag payload => Sys2Proof.Machine.execSetCurve tag payload s
  | .setPatch tag payload => Sys2Proof.Machine.execSetPatch tag payload s
  | .track tag payload => Sys2Proof.Machine.execTrack tag payload s
  | .dropTracks tag payload => Sys2Proof.Machine.execDropTracks tag payload s
  | .storeClear tag payload => Sys2Proof.Machine.execStoreClear tag payload s
  | .getStore tag payload => Sys2Proof.Machine.execGetStore tag payload s
  | .setHead tag payload => Sys2Proof.Machine.execSetHead tag payload s
  | .headClear tag payload => Sys2Proof.Machine.execHeadClear tag payload s
  | .getHead tag payload => Sys2Proof.Machine.execGetHead tag payload s
  | .setAxis tag payload => Sys2Proof.Machine.execSetAxis tag payload s
  | .home tag payload => Sys2Proof.Machine.execHome tag payload s
  | .seek tag payload => Sys2Proof.Machine.execSeek tag payload s
  | .axisHalt tag payload => Sys2Proof.Machine.execAxisHalt tag payload s
  | .getAxis tag payload => Sys2Proof.Machine.execGetAxis tag payload s
  | .engrave tag payload => Sys2Proof.Machine.execEngrave tag payload s
  | .stopBand tag payload => Sys2Proof.Machine.execStopBand tag payload s
  | .abortBand tag payload => Sys2Proof.Machine.execAbortBand tag payload s
  | .readResult tag payload => Sys2Proof.Machine.execReadResult tag payload s
  | .setMonitor tag payload => Sys2Proof.Machine.execSetMonitor tag payload s
  | .monitorRun tag payload => Sys2Proof.Machine.execMonitorRun tag payload s
  | .monitorHalt tag payload => Sys2Proof.Machine.execMonitorHalt tag payload s
  | .alarmAck tag payload => Sys2Proof.Machine.execAlarmAck tag payload s
  | .getMonitor tag payload => Sys2Proof.Machine.execGetMonitor tag payload s
  | .setNotice tag payload => Sys2Proof.Machine.execSetNotice tag payload s
  | .getStatus tag payload => Sys2Proof.Machine.execGetStatus tag payload s
  | .moduleReset tag payload => Sys2Proof.Machine.execModuleReset tag payload s
  | .rampUpdate h => Sys2Proof.Machine.execRampUpdate h s
  | .settleExpiry h => Sys2Proof.Machine.execSettleExpiry h s
  | .dwellExpiry h => Sys2Proof.Machine.execDwellExpiry h s
  | .moveStep k => Sys2Proof.Machine.execMoveStep k s
  | .homeSensorActive k level => Sys2Proof.Machine.execHomeSensorActive k level s
  | .limitSwitchActive k level => Sys2Proof.Machine.execLimitSwitchActive k level s
  | .copyComplete => Sys2Proof.Machine.execCopyComplete s
  | .patchFillComplete h => Sys2Proof.Machine.execPatchFillComplete h s
  | .conversionComplete value => Sys2Proof.Machine.execConversionComplete value s

end Sys2Proof.Machine
end

