-- ==== Sys2Proof/Machine/Step.lean ====
section
/-! DEFINITION. One step of the card: the command at the front of the queue, or, while none waits, the card's own due
event or the passing of one µs (notes/assumptions/1.md). -/

namespace Sys2Proof.Machine

/-- The step of a card for which no command waits: the event that is due now, or one µs in which nothing happens. -/
def State.idle (s : State) : Host.Outcome State Fault Refusal :=
  match s.dueEvent with
  | some c => exec c s
  | none => .next (s.elapse 1)

/-- One step: the command at the front of the queue takes effect with the rest of the queue. -/
def step (s : State) : Host.Outcome State Fault Refusal :=
  match s.pending with
  | c :: rest => exec c { s with pending := rest }
  | [] => s.idle

/-- The card with the command that a word spells put at the front of its queue; the table gives no row bits, so no
word spells one (notes/assumptions/22.md). -/
def State.withFetchWord (s : State) (nbits w : Nat) : State :=
  match decodeTableWord nbits w with
  | some c => { s with pending := c :: s.pending }
  | none => s

end Sys2Proof.Machine
end

