-- ==== Sys2Proof/Safety.lean ====
section
/-! DEFINITION. What counts as a sound card: the laws the manual states over its state, and the shapes in which the
statements say that a request was answered and that nothing else changed. -/

namespace Sys2Proof.Machine

/-! ### Laws over the state -/

/-- The track store's DRAM and every line buffer's cells are in canonical form. -/
def State.memoriesCanonical (s : State) : Prop :=
  s.store.dram.wf ∧ ∀ h, (s.buffers.get h).buf0.tones.wf ∧ (s.buffers.get h).buf1.tones.wf

/-- The lists and counts of the job link stay within the sizes of R163, R164, R168 and R170. -/
def Link.withinBounds (l : Link) : Prop :=
  l.inbound.length ≤ 8 ∧ l.outbound.length ≤ 16 ∧ l.errors ≤ 65535 ∧ (∀ id, (l.entry id).count ≤ 255) ∧
    ∀ g : Fin 6, (l.groups.get g).level ≤ 3

/-- An entry of the notice table is pending exactly when it holds postings, and then it has content (R168, R176). -/
def Link.noticesSound (l : Link) : Prop :=
  ∀ id, ((l.entry id).pending = true ↔ (l.entry id).count ≠ 0) ∧
    ((l.entry id).pending = true → (l.entry id).content.isSome = true)

/-- A head holds a pending band only while it holds an active one (R127). -/
def BandSequencer.pendingFollows (q : BandSequencer) : Prop := q.waiting.isSome = true → q.active.isSome = true

/-- The bands a head holds, active and pending. -/
def BandSequencer.heldCount (q : BandSequencer) : Nat := q.active.toList.length + q.waiting.toList.length

/-- The band laws of R127 and R145. -/
def State.bandsLawful (s : State) : Prop :=
  ∀ h, (s.bands.get h).pendingFollows ∧ (s.bands.get h).results.length + (s.bands.get h).heldCount ≤ 4

/-- The order, the size and the FILLING count of one track queue (R51). -/
def queueLawful (q : List Descriptor) : Prop :=
  q.Pairwise (fun d e => d.number < e.number) ∧ q.length ≤ 1024 ∧ fillingCount q ≤ 2

/-- How many descriptors the four queues hold together. -/
def Store.queued (t : Store) : Nat :=
  (t.queues.get 0).length + (t.queues.get 1).length + (t.queues.get 2).length + (t.queues.get 3).length

/-- The queue law of R51, with the pool of R50 that holds the rest of the 4,096 descriptors. -/
def Store.queuesLawful (t : Store) : Prop :=
  (∀ h, queueLawful (t.queues.get h)) ∧ t.freeDescriptors + t.queued = 4096

/-- The pages that the descriptors of the four queues hold. -/
def Store.heldPages (t : Store) : List Nat := heads4.flatMap fun h => (t.queues.get h).flatMap Descriptor.pages

/-- The pages of the copy in flight. -/
def FetchEngine.copyPages (e : FetchEngine) : List Nat := (e.copy.map Copy.pages).getD []

/-- The page law of R48: the free-page list, the page lists and the copy in flight hold each page exactly once. -/
def State.pagesAccounted (s : State) : Prop :=
  (s.store.free.toList ++ s.store.heldPages ++ s.fetch.copyPages).Perm (List.range 65536)

/-- A copy in flight belongs to a head with an active band, whose STANDBY buffer is LOADING with its track (R76,
R79). -/
def State.copyOwned (s : State) : Prop :=
  ∀ c, s.fetch.copy = some c →
    (s.active c.head).isSome = true ∧ (s.buffers.get c.head).standby.held = .loading ⟨c.track, .data, c.n⟩

/-- What the head state says of a head's outputs, ramp and settle timer (R86, R87, R94, section 6.1). -/
def Head.outputsLawful (x : Head) : Prop :=
  (x.state = .parked → x.level = 0) ∧
    (x.state ≠ .cutting → x.depth = 0 ∧ x.nextCell = none) ∧
    (x.ramp.isSome = true ↔ x.state = .engaging ∨ x.state = .retracting) ∧
    (x.state = .retracting → ∀ r, x.ramp = some r → r.target = 0) ∧
    (x.settleTimer.isSome = true ↔ x.state = .settling)

/-- What the axis state says of what an axis holds (section 7.1, R105). -/
def Axis.stateLawful (a : Axis) : Prop :=
  (a.position.isSome = true → a.homed = true) ∧ (a.target.isSome = true → a.state = .seeking) ∧
    (a.feed.isSome = true → a.state = .feeding)

/-- The separation law of R109 over the spans of the fitted axes as they stand, a HOMING axis taken at its home claim. -/
def State.separated (s : State) : Prop := s.lawHolds s.machine.minsep s.ctu.acting.fitted = true

/-! ### The invariant behind the separation law -/

/-- Every defined screen entry has a pitch of at least 1 (R20). -/
def State.screensPitched (s : State) : Prop := ∀ i, (s.screen i).n ≠ 0 → 1 ≤ (s.screen i).pitch

/-- What an axis's state says of its position, its seek and its outputs (R105, R112, R121). -/
structure Axis.Tracked (a : Axis) : Prop where
  /-- A homed axis knows its position. -/
  positioned : a.homed = true → a.position.isSome = true
  /-- A seek's move ends at its target. -/
  seeks : a.state = .seeking → ∃ (p t : Nat) (m : Move), a.position = some p ∧ a.target = some t ∧ a.move = some m ∧
    1 ≤ m.toGo ∧ (if m.up then p + m.toGo = t else p = t + m.toGo)
  /-- The direction output is that of the move under way. -/
  moves : ∀ m, a.move = some m → a.outputs.up = m.up
  /-- A helical revolution under way has the direction output up. -/
  feedsUp : (a.feed.bind FeedContext.pointer).isSome = true → a.outputs.up = true

/-- A held band has tracks, is not past their end, and runs on a screen with a pitch (R125, R126). -/
def State.bandFits (s : State) (b : Band) : Prop :=
  1 ≤ b.count ∧ b.first ≤ b.next ∧ b.next ≤ b.first + b.count ∧ 1 ≤ (s.screen b.screen).pitch

/-- How far a band's feed context lets its axis stand from the band's start: where its move ends, with the pitch an
armed trigger still adds, or with the steps of the helical revolution under way (R118, R120, R121). -/
def FeedContext.reach (f : FeedContext) (p : Nat) (move : Option Move) : Nat :=
  p + (if f.armed then f.pitch else 0) + ((move.map Move.toGo).getD 0) + f.unissued

/-- The farthest place a band has earned for its carriage: one pitch for each track it has begun, the last track of a
STEPPED band excepted (R120, R121). -/
def Band.earned (b : Band) (pitch : Nat) : Nat :=
  b.start + (match b.feed with
    | .stepped => min (b.next - b.first) (b.count - 1)
    | .helical => b.next - b.first) * pitch

/-- An axis under its head's active band (R118 to R121). -/
structure State.Carries (s : State) (h : HeadId) (b : Band) (f : FeedContext) (p : Nat) : Prop where
  context : f.feed = b.feed ∧ f.start = b.start ∧ f.pitch = (s.screen b.screen).pitch
  /-- A positioning move ends at the start. -/
  positioning : f.stage = .positioning → b.phase = .positioning ∧ f.armed = false ∧ f.pointer = none ∧
    ∀ m, (s.axes.get h).move = some m → 1 ≤ m.toGo ∧ if m.up then p + m.toGo = b.start else p = b.start + m.toGo
  /-- An axis in HOLD has no move. -/
  hold : f.stage = .hold → (s.axes.get h).move = none
  /-- A feed move runs up, for a STEPPED band alone. -/
  moving : f.stage = .move → f.feed = .stepped ∧ ∃ m, (s.axes.get h).move = some m ∧ m.up = true ∧ 1 ≤ m.toGo
  /-- Outside CUTTING and POSITIONING the axis holds, and outside CUTTING no trigger is armed. -/
  phases : (b.phase = .engaging ∨ b.phase = .waitSync ∨ b.phase = .suspended → f.stage = .hold) ∧
    (b.phase ≠ .cutting → f.armed = false) ∧ (f.armed = true → f.feed = .stepped)
  /-- The carriage stays within what the band has earned. -/
  within : f.stage ≠ .positioning → f.reach p (s.axes.get h).move ≤ b.earned f.pitch

/-- What a head holds agrees with its axis: the bands it holds, and an active one with a FEEDING axis and with a STANDBY
buffer that holds none but the band's tracks (R69, R118, R127). -/
structure State.CarriageSound (s : State) (h : HeadId) : Prop where
  lawful : (s.axes.get h).stateLawful
  tracked : (s.axes.get h).Tracked
  follows : (s.bands.get h).pendingFollows
  feeding : (s.active h).isSome = true ↔ (s.axes.get h).state = .feeding
  fits : ∀ b ∈ s.held h, s.bandFits b
  empty : s.active h = none → (s.buffers.get h).standby.held = .empty
  loads : ∀ b, s.active h = some b → ∀ t, (s.buffers.get h).standby.held.track? = some t → t.number ≤ b.last
  carries : ∀ b, s.active h = some b → ∃ f p, (s.axes.get h).feed = some f ∧ (s.axes.get h).position = some p ∧
    s.Carries h b f p

/-- The F that acts is not above the F written, and an unfitted axis is UNHOMED (R15, R107). -/
def State.unfittedRest (s : State) : Prop :=
  s.ctu.acting.fitted ≤ s.machine.fitted ∧ ∀ k, s.fitted k = false → (s.axes.get k).state = .unhomed

/-- The separation law with what keeps it: every carriage stays within the span its bands and its seek reserve. -/
def State.carriagesSound (s : State) : Prop :=
  s.separated ∧ s.unfittedRest ∧ s.copyOwned ∧ s.screensPitched ∧ ∀ h, s.CarriageSound h

/-! ### What an order leaves of a head and an axis -/

/-- A SINE ramp from a level by Δ opens in this segment: segment 1 or, passing over segments without movement, the first
that holds one (R87, R89, notes/assumptions/33.md). -/
def Segment.opens (g : Segment) (level : Nat) (delta : Int) : Prop :=
  1 ≤ g.number ∧ g.number ≤ 16 ∧ g.target = (level + (delta * (sineList.getD g.number 256 : Nat)).tdiv 256).toNat ∧
    (g.target ≠ level ∨ g.number = 16) ∧
    ∀ i, 1 ≤ i → i < g.number → (level + (delta * (sineList.getD i 256 : Nat)).tdiv 256).toNat = level

/-- From `x` to `y` a head takes a state in which a ramp has just started, from its present level to a target, with the
first update one interval later (R87). -/
def Head.ramps (x y : Head) (state : HeadState) (target now : Nat) : Prop :=
  y.state = state ∧ y.level = x.level ∧
    ∃ r, y.ramp = some r ∧ r.shape = x.settings.shape ∧ r.start = x.level ∧ r.target = target ∧
      r.delta = (target : Int) - x.level ∧ r.next = now + 100 * 2 ^ x.settings.rampCode ∧
      (r.shape = .linear → r.segment = none) ∧
      (r.shape = .sine → ∃ g, r.segment = some g ∧ g.opens x.level r.delta)

/-- From `x` to `y` a PARKED or RETRACTING head takes an engage order (R87, R90, R94): it ramps to LE, and at LE already it
settles, or is READY with a settle time of 0. -/
def Head.engages (x y : Head) (now : Nat) : Prop :=
  (x.level ≠ x.settings.level → x.ramps y .engaging x.settings.level now) ∧
    (x.level = x.settings.level → y.level = x.level ∧ y.ramp = none ∧
      if x.settings.settle = 0 then y.state = .ready
      else y.state = .settling ∧ y.settleTimer = some (x.settings.settle * 1000))

/-- From `x` to `y` a head takes a retract order (R87, R91). -/
def Head.retracts (x y : Head) (now : Nat) : Prop :=
  ((x.state = .parked ∨ x.state = .retracting) → y.state = x.state ∧ y.level = x.level ∧ y.ramp = x.ramp) ∧
    (x.state ≠ .parked → x.state ≠ .retracting →
      (x.level ≠ 0 → x.ramps y .retracting 0 now) ∧
      (x.level = 0 → y.state = .parked ∧ y.level = 0 ∧ y.ramp = none)) ∧
    (x.state = .settling → y.settleTimer = none) ∧ (x.state = .ready → y.dwellTimer = none) ∧
    (x.state = .cutting → y.depth = 0 ∧ y.nextCell = none)

/-- From `x` to `y` a head takes a release order with no band active behind it (R95, R97): a CUTTING or READY head dwells,
or retracts at once with a dwell of 0, and any other goes on. -/
def Head.releases (x y : Head) (now : Nat) : Prop :=
  ((x.state = .cutting ∨ x.state = .ready) → x.dwellTimer = none →
      (x.settings.dwell ≠ 0 → y.state = .ready ∧ y.level = x.level ∧ y.ramp = x.ramp ∧
        y.dwellTimer = some (x.settings.dwell * 10000)) ∧
      (x.settings.dwell = 0 → x.level ≠ 0 → x.ramps y .retracting 0 now)) ∧
    (x.state = .cutting → y.depth = 0 ∧ y.nextCell = none) ∧
    (x.state ≠ .cutting → x.state ≠ .ready → y = x)

/-- From head `x` and axis `a` to `y` and `z` the orders of R129 for a band that starts at `start`: in place the axis holds
and the head is READY or engages; elsewhere the head retracts, and once it is PARKED the axis moves to the start at RATE
(R118, R130). -/
def ordersGiven (x y : Head) (a z : Axis) (start now : Nat) : Prop :=
  (a.position.getD 0 = start → z.move = none ∧ z.outputs = a.outputs ∧
      (x.state = .ready → y.state = .ready ∧ y.level = x.level ∧ y.dwellTimer = none) ∧
      ((x.state = .parked ∨ x.state = .retracting) → x.engages y now) ∧
      ((x.state = .engaging ∨ x.state = .settling) →
        y.state = x.state ∧ y.level = x.level ∧ y.ramp = x.ramp ∧ y.settleTimer = x.settleTimer)) ∧
    (a.position.getD 0 ≠ start → x.retracts y now ∧ (y.state ≠ .parked → z.move = none ∧ z.outputs = a.outputs) ∧
      (y.state = .parked → z.outputs = { a.outputs with up := decide (a.position.getD 0 < start) } ∧
        z.move = some ⟨decide (a.position.getD 0 < start), 0,
          (start - a.position.getD 0) + (a.position.getD 0 - start), now, 1000000, a.settings.rate⟩))

/-- The steps of a helical revolution under way that are still to issue: from the pointer to PITCH (R121). -/
def Axis.stepsOwed (a : Axis) : Nat :=
  match a.feed with
  | none => 0
  | some f =>
    match f.feed, f.pointer with
    | .helical, some j => f.pitch + 1 - j
    | .helical, none => 0
    | .stepped, _ => 0

/-- From `a` to `z` an axis takes a cut order, told whether the track is the band's last (R120, R121): a STEPPED band's
trigger is armed unless it is; a HELICAL band's revolution is closed, and a new one starts at step 1. -/
def Axis.takesCutOrder (a z : Axis) (isLast : Bool) : Prop :=
  (a.feed = none → z = a) ∧
    ∀ f, a.feed = some f →
      (f.feed = .stepped → z = { a with feed := some { f with armed := !isLast } }) ∧
      (f.feed = .helical → z = { a with
        position := a.position.map (· + a.stepsOwed)
        outputs := ⟨true, a.outputs.pulses + a.stepsOwed⟩
        feed := some { f with pointer := some 1 } })

/-! ### What happens to a band -/

/-- A slot with a latched retract-action alarm whose mask names a head (R158). -/
def Slot.pullsBack (x : Slot) (h : HeadId) : Prop :=
  x.latched = true ∧ (x.action = .retract ∨ x.action = .retractFast) ∧ x.mask.getLsbD h.val = true

/-- The record of a band of head h that ends, with the band's counts (R144). -/
def Band.recorded (b : Band) (h : HeadId) (cls : ResultClass) (cause : Cause) (detail : Option CauseDetail)
    (rev time : Nat) (position : Option Nat) : ResultRecord where
  tag := b.tag
  head := h
  cls := cls
  cause := cause
  detail := detail
  cut := b.cut
  firstCut := b.firstCut
  lastCut := b.lastCut
  clampedLow := b.clampedLow
  clampedHigh := b.clampedHigh
  stale := b.stale
  discarded := b.discarded
  sourceless := b.sourceless
  suspensions := b.suspensions
  startRev := b.startRev
  startTime := b.startTime
  endRev := rev
  endTime := time
  position := position

/-- The band with a copy or fill in flight for its head counted as discarded (R79, R84). -/
def State.discarding (s : State) (h : HeadId) (b : Band) : Band :=
  if (s.fetch.copy.any fun x => x.head = h) || (s.fetch.fills.get h).isSome then
    { b with discarded := min 4294967295 (b.discarded + 1) }
  else b

/-- From `s` to `t` both line buffers of head h have become EMPTY, in the roles they had (R69). -/
def State.emptiesBuffers (s t : State) (h : HeadId) : Prop :=
  t.buffers.get h = ⟨{ (s.buffers.get h).buf0 with held := .empty }, { (s.buffers.get h).buf1 with held := .empty },
    (s.buffers.get h).oneActive⟩

/-- The BAND_END entry of head h carries the newest record of its list, and how many the list holds (R146). -/
def State.endPosted (t : State) (h : HeadId) : Prop :=
  ∃ r, (t.bands.get h).results.getLast? = some r ∧
    (t.link.entry (.bandEnd h)).content = some (.bandEnd r.tag r.cls r.cause r.detail r.cut r.lastCut r.endRev r.endTime
      (t.bands.get h).results.length)

/-- From `s` to `t` the active band of head h ends with a class and a cause and no detail, and no band follows it (R140):
the head retracts, or is released; a homed axis is IDLE; the buffers are EMPTY; the record of the band as `c` joins the
head's list, with the present revolution and time and the axis's position, at a boundary after a helical revolution is
closed; and BAND_END is posted. -/
def State.endsBand (s t : State) (h : HeadId) (c : Band) (cls : ResultClass) (cause : Cause) (atBoundary : Bool) : Prop :=
  t.active h = none ∧
    (if cls = .aborted then (s.heads.get h).retracts (t.heads.get h) s.clock
      else (s.heads.get h).releases (t.heads.get h) s.clock) ∧
    ((s.axes.get h).homed = true → (t.axes.get h).state = .idle) ∧ (t.axes.get h).feed = none ∧
    s.emptiesBuffers t h ∧ t.endPosted h ∧
    ∃ position, (t.bands.get h).results =
        (s.bands.get h).results ++ [c.recorded h cls cause none s.ctu.revs s.timestamp position] ∧
      ((s.axes.get h).homed = true → position = (s.axes.get h).position.map fun p =>
        p + if atBoundary then (s.axes.get h).stepsOwed else 0) ∧
      ((s.axes.get h).state = .unhomed ∨ atBoundary = false → position = (s.axes.get h).reported)

/-- From `s` to `t` the active band `b` of head h ends ABORTED within a revolution, with a cause and a detail: its record
joins the head's list with the band's counts, a copy or fill in flight as one more discarded, the revolution, the time and
the axis's position; the record of a pending band follows, PRECEDING_ABORT; BAND_END is posted; the head takes a retract
order; a homed axis is IDLE; and the buffers are EMPTY (R84, R139, R140, R142, R144). -/
def State.abortsBand (s t : State) (h : HeadId) (b : Band) (cause : Cause) (detail : Option CauseDetail)
    (rev now : Nat) : Prop :=
  t.bands.get h = ⟨none, none, (s.bands.get h).results ++
      (s.discarding h b).recorded h .aborted cause detail rev (wrap32 now) (s.axes.get h).reported ::
      (s.bands.get h).waiting.toList.map fun p => p.recorded h .aborted .precedingAbort none rev (wrap32 now) none⟩ ∧
    t.endPosted h ∧ (s.heads.get h).retracts (t.heads.get h) now ∧
    ((s.axes.get h).homed = true → (t.axes.get h).state = .idle) ∧ s.emptiesBuffers t h

/-- From `s` to `t`, at a time, a timing loss has reached the active band of every fitted head: one in CUTTING or SUSPENDED
is aborted; one in WAIT_SYNC waits anew; the others are unchanged (R8, R131, R139). -/
def State.timingLost (s t : State) (e : CylEvent) (now : Nat) : Prop :=
  ∀ (h : HeadId) (b : Band), s.fitted h = true → s.active h = some b →
    ((b.phase = .cutting ∨ b.phase = .suspended) →
      s.abortsBand t h b .timingFault (some (.timing e)) s.ctu.revs now) ∧
    (b.phase = .waitSync → (s.heads.get h).state ≠ .cutting →
      (t.bands.get h).active = some { b with waitCount := 0 }) ∧
    ((b.phase = .positioning ∨ b.phase = .engaging) → (s.heads.get h).state ≠ .cutting →
      t.bands.get h = s.bands.get h)

/-- From `s` to `t` the BAND_PROGRESS entry of head h is posted for the band `b` as a boundary leaves it (R136). -/
def State.postsProgress (s t : State) (h : HeadId) (b : Band) : Prop :=
  t.link.entry (.progress h) = ⟨true, min 255 ((s.link.entry (.progress h)).count + 1),
    some (.progress b.tag b.phase b.lastCut s.ctu.revs s.timestamp (t.lead h))⟩

/-- From `s` to `t` head h cuts the next expected track of the band `c` from this boundary (R131, R133, R134): the buffers
are swapped, the head and the axis take the cut order, the band is CUTTING with the next track expected, and BAND_PROGRESS
is posted. -/
def State.cutsTrack (s t : State) (h : HeadId) (c : Band) : Prop :=
  t.active h = some { c with next := c.next + 1, phase := .cutting } ∧
    (t.buffers.get h).active = (s.buffers.get h).standby ∧ (t.buffers.get h).standby.held = .empty ∧
    t.heads.get h = (if (s.heads.get h).state = .ready ∨ (s.heads.get h).state = .cutting then
      { s.heads.get h with state := .cutting, nextCell := some 0 } else s.heads.get h) ∧
    (s.axes.get h).takesCutOrder (t.axes.get h) (decide (c.next = c.first + c.count - 1)) ∧
    s.postsProgress t h { c with phase := .cutting }

/-! ### Shapes of a taken request -/

/-- The link after the reply of the request at hand, and the transmitter's choice behind it. -/
def State.answered (s : State) (kind tag : Byte) (r : Response) : Link := (s.handed.respond kind tag r).link.choose

/-- A request command on `s` has no effect but its answer. -/
def State.onlyAnswers (s : State) (c : Instr) (kind tag : Byte) (r : Response) : Prop :=
  exec c s = .next { s with link := s.answered kind tag r }

/-- Two states that differ at most in the link. -/
def State.sameButLink (s t : State) : Prop := t = { s with link := t.link }

end Sys2Proof.Machine
end

