-- ==== Sys2Proof/Certificates/Slice0/Obligations.lean ====
section
/-! DEFINITION. The statements about the card that are put to the provers. -/

open Sys2Proof Sys2Proof.Machine

/-- A step of a card with a command at the front of its queue is the command's effect on the card with the rest
of the queue. -/
def Obligations.StepRunsFrontCommand : Prop :=
  ∀ (c : Instr) (rest : List Instr) (s : State), s.pending = c :: rest →
    step s = exec c { s with pending := rest }

/-- With an empty queue a step runs the event that is due now, if there is one, and otherwise lets one µs pass.
It is the model's choice that an idle card runs its own events (notes/assumptions/1.md). -/
def Obligations.IdleStepRunsDueEvent : Prop :=
  ∀ s : State, s.pending = [] →
    (∀ c, s.dueEvent = some c → step s = exec c s) ∧ (s.dueEvent = none → step s = .next (s.elapse 1))

/-- For every command and every state, exec answers a next state, neither a fault nor a refusal, and the
commands that wait behind it are the same before and after. That nothing stops a command is read from the spec
by inference (notes/assumptions/23.md). -/
def Obligations.EveryCommandCompletes : Prop :=
  ∀ (c : Instr) (s : State), ∃ t, exec c s = .next t ∧ t.pending = s.pending

/-- After reset the Cylinder Timing Unit is STOPPED with every count, period and timer at its stated value, the
settings have their defaults, which act at once, the screens are undefined, curve knot j is min(4095, 256 j),
each patch record is one blank pair, the store holds all pages in ascending order and all descriptors, the
buffers are EMPTY with buffer 0 ACTIVE, the heads are PARKED at level and depth 0, the axes UNHOMED, no band is
held, the monitor is HALTED, and the link is empty with every group enabled at level 0. A calibration copy, a
table and a context are absent. That an axis's direction output is then LOW and no step pulse has been given is
the model's choice (notes/assumptions/30.md). -/
def Obligations.ResetState : Prop :=
  State.reset.clock = 0 ∧
    State.reset.ctu = ⟨0, 0, .stopped, 0, 0, none, true, 0, 0, 0, false, 0, ⟨4, ⟨0, 0, 0, 0⟩⟩⟩ ∧
    State.reset.machine = ⟨4, 100000, .rising, 8, 750000, 7500, 0⟩ ∧
    (∀ i : Fin 16, State.reset.screens.get i = ⟨0, 0, 0, 0⟩) ∧
    (∀ i : Fin 8, State.reset.curves.get i = (List.range 17).map fun j => min 4095 (256 * j)) ∧
    (∀ h, State.reset.patches.get h = [⟨0, 1⟩]) ∧
    State.reset.store.free.toList = List.range 65536 ∧ State.reset.store.freeDescriptors = 4096 ∧
    (∀ h, State.reset.store.queues.get h = [] ∧ State.reset.store.starved.get h = false) ∧
    (∀ h, (State.reset.buffers.get h).buf0.held = .empty ∧ (State.reset.buffers.get h).buf1.held = .empty ∧
      (State.reset.buffers.get h).oneActive = false) ∧
    State.reset.fetch.copy = none ∧ (∀ h, State.reset.fetch.fills.get h = none) ∧
    (∀ h, State.reset.heads.get h = ⟨.parked, 0, 0, none, none, none, false, none, none, none,
      ⟨2048, 16, 3, .linear, 20, 50, 2000, 8000, 32, 0, 0, ⟨0, 0, 32, 4095⟩⟩⟩) ∧
    (∀ k : HeadId, State.reset.axes.get k = ⟨.unhomed, none, none, none, none, none, .none, none, ⟨false, 0⟩,
      ⟨k.val * 650000, 650000, 700000, 20000⟩⟩) ∧
    (∀ h, State.reset.bands.get h = ⟨none, none, []⟩) ∧
    (∀ i : Fin 16, State.reset.monitor.slots.get i = ⟨none, none, 0, 4095, 1, 0, .none, 0, false⟩) ∧
    State.reset.monitor.mode = .halted ∧ State.reset.monitor.haltRequest = false ∧
    State.reset.monitor.start = 0 ∧ State.reset.monitor.stop = 15 ∧ State.reset.monitor.conversion = none ∧
    State.reset.link.received = [] ∧ State.reset.link.inbound = [] ∧ State.reset.link.outbound = [] ∧
    State.reset.link.sending = none ∧ (∀ id, State.reset.link.entry id = ⟨false, 0, none⟩) ∧
    (∀ g : Fin 6, State.reset.link.groups.get g = ⟨0, true⟩) ∧ State.reset.link.errors = 0 ∧
    State.reset.link.lastError = none

/-- After reset the memories are canonical, the link's lists and entries are within their bounds, no band is
held, the queues and pages keep their laws, each head and axis is as its state says, the separation law holds,
and every carriage stands where its bands and its seek reserve room for it. The canonical form of the memories
and the direction output's part in a carriage's soundness are the model's choices (notes/assumptions/8.md,
notes/assumptions/30.md). -/
def Obligations.ResetIsSound : Prop :=
  State.reset.memoriesCanonical ∧ State.reset.link.withinBounds ∧ State.reset.link.noticesSound ∧
    State.reset.bandsLawful ∧ (∀ h, State.reset.held h = []) ∧ State.reset.store.queuesLawful ∧ State.reset.pagesAccounted ∧
    State.reset.copyOwned ∧ (∀ h, (State.reset.heads.get h).outputsLawful) ∧
    (∀ k, (State.reset.axes.get k).stateLawful) ∧ State.reset.separated ∧ State.reset.carriagesSound

/-- If the store's DRAM and every line buffer's cells list their bytes by rising address with no cell that an
unlisted address reads as, they do so after any step. The canonical form is the model's choice
(notes/assumptions/8.md). -/
def Obligations.MemoriesStayCanonical : Prop :=
  ∀ s t : State, s.memoriesCanonical → step s = .next t → t.memoriesCanonical

/-- At most 8 requests are listed, at most 16 replies wait, the frame-error count is at most 65,535, every
occurrence count at most 255 and every level at most 3, and an entry is pending exactly when its count is not 0,
and then has content: every step keeps this. -/
def Obligations.LinkStaysWithinBounds : Prop :=
  ∀ s t : State, s.link.withinBounds → s.link.noticesSound → step s = .next t →
    t.link.withinBounds ∧ t.link.noticesSound

/-- If each head holds a pending band only while it holds an active one, and its unread records and held bands
number at most 4, the same holds after any step. -/
def Obligations.BandsStayLawful : Prop :=
  ∀ s t : State, s.bandsLawful → step s = .next t → t.bandsLawful

/-- If each head's queue is in strictly ascending order with at most 1,024 descriptors of which at most 2 are
FILLING, and the queues and the pool together hold 4,096 descriptors, the same holds after any step. -/
def Obligations.QueuesStayLawful : Prop :=
  ∀ s t : State, s.store.queuesLawful → step s = .next t → t.store.queuesLawful

/-- The free-page list, the page lists of all descriptors and the pages of a copy in flight together are a
rearrangement of the pages 0 to 65535: this holds after reset, and every step keeps it, with the copy in flight
belonging to a head with an active band whose STANDBY buffer is LOADING with its track, and with no pages held
by a BLANK or REPEAT descriptor. -/
def Obligations.PagesStayAccounted : Prop :=
  (State.reset.pagesAccounted ∧ State.reset.copyOwned ∧
      ∀ h, ∀ d ∈ State.reset.store.queues.get h, d.kind ≠ .data → d.pages = []) ∧
    ∀ s t : State, s.pagesAccounted → s.copyOwned →
      (∀ h, ∀ d ∈ s.store.queues.get h, d.kind ≠ .data → d.pages = []) → step s = .next t →
      t.pagesAccounted ∧ t.copyOwned ∧ ∀ h, ∀ d ∈ t.store.queues.get h, d.kind ≠ .data → d.pages = []

/-- For every head: L is 0 while PARKED; the cell depth is 0 and no next-cell pointer stands outside CUTTING; a
ramp stands exactly in ENGAGING and RETRACTING, with target 0 in RETRACTING; and the settle timer runs exactly
in SETTLING. Every step keeps this. -/
def Obligations.HeadOutputsStayLawful : Prop :=
  ∀ s t : State, (∀ h, (s.heads.get h).outputsLawful) → step s = .next t → ∀ h, (t.heads.get h).outputsLawful

/-- For every axis: a position stands only while it is IDLE, SEEKING or FEEDING, a seek target only in SEEKING
and a feed context only in FEEDING. Every step keeps this. -/
def Obligations.AxisStatesStayLawful : Prop :=
  ∀ s t : State, (∀ k, (s.axes.get k).stateLawful) → step s = .next t → ∀ k, (t.axes.get k).stateLawful

/-- If neighbouring spans keep the separation law (a HOMING axis taken at its home claim), and each axis holds
what its state says, they keep it after a HOME, a SEEK, a SET_AXIS, a SET_MACHINE or an ENGRAVE, whatever it
carries and whether it is taken or refused: these are the five tests of the law that section 7.3 lists. -/
def Obligations.RequestsKeepSeparation : Prop :=
  ∀ (c : Instr) (tag : Byte) (payload : List Byte) (s t : State),
    c ∈ [Instr.home tag payload, .seek tag payload, .setAxis tag payload, .setMachine tag payload,
      .engrave tag payload] →
    s.separated → (∀ k, (s.axes.get k).stateLawful) → exec c s = .next t → t.separated

/-- After reset, and after every step, the reserved spans of fitted neighbours keep the separation law, a HOMING
axis taken at its home claim, so that for fitted, homed neighbours the high end plus MINSEP does not exceed the
low end. The step keeps it together with what makes the changes that are not tested narrow a span: every
carriage stays within what its seek or its active band reserves, a seek's and a positioning move's steps end at
their target, an active band stands with a FEEDING axis and a STANDBY buffer of its own tracks, the direction
output is that of the move or the helical revolution under way, an unfitted axis is UNHOMED, and every defined
screen has a pitch. That the direction output is set as a move or a helical revolution begins, and not only at
its steps, is the model's choice (notes/assumptions/30.md). -/
def Obligations.CarriagesStaySeparated : Prop :=
  State.reset.carriagesSound ∧ (∀ s t : State, s.carriagesSound → step s = .next t → t.carriagesSound) ∧
    ∀ (s : State) (k j : HeadId) (lower upper : Nat × Nat), s.carriagesSound → j.val = k.val + 1 →
      s.fitted j = true → s.span k = some lower → s.span j = some upper →
      lower.2 + s.machine.minsep ≤ upper.1

/-- FRAME_RECEIVED with the bytes of a frame, taken in HUNT with no request listed, fewer than 16 replies
waiting and no reset taken, has the effect of the well-formed request command that the frame carries, with the
stall timer at 0. Frames back to back, as many as the reply list has room for and no MODULE_RESET among them,
are each handed in arrival order while a frame is on the line: none stays listed, and their replies join in that
order with their kinds plus 0x80 and their tags. While 16 replies wait or a MODULE_RESET has been taken, a frame
of any kind, tag and payload up to 4,106 bytes that finds fewer than 8 requests listed joins the tail of the
list as it was encoded, and nothing else changes but the stall timer and what the transmitter chooses. That a
request command is the arrival of the request with no frame bytes, and that a request is handed in the step that
makes it possible, is the model's choice (notes/assumptions/5.md). -/
def Obligations.FrameIsListedAndHanded : Prop :=
  (∀ (kind tag : Byte) (payload : List Byte) (s : State), payload.length ≤ 4106 → s.link.received = [] →
      s.link.inbound.length < 8 → (16 ≤ s.link.outbound.length ∨ s.link.resetTaken = true) →
      exec (.frameReceived (encodeFrame kind tag payload)) s = .next { s with
        link := ({ s.link with inbound := s.link.inbound ++ [⟨kind, tag, payload⟩], stall := 0 } : Link).choose }) ∧
    (∀ (c : Instr) (f : Frame) (s : State), c.wellFormed = true → frameOf c = some f → s.link.received = [] →
      s.link.inbound = [] → s.link.outbound.length < 16 → s.link.resetTaken = false →
      exec (.frameReceived (encodeFrame f.kind f.tag f.payload)) s =
        exec c { s with link := { s.link with stall := 0 } }) ∧
    ∀ (fs : List Frame) (s : State), (∀ f ∈ fs, f.payload.length ≤ 4106 ∧ f.kind ≠ 0x2A) → s.link.received = [] →
      s.link.inbound = [] → s.link.sending.isSome = true → s.link.resetTaken = false →
      s.link.outbound.length + fs.length ≤ 16 →
      ∃ t rs, exec (.frameReceived (fs.flatMap fun f => encodeFrame f.kind f.tag f.payload)) s = .next t ∧
        t.link.inbound = [] ∧ t.link.received = [] ∧ t.link.outbound = s.link.outbound ++ rs ∧
        rs.map (fun r => (r.kind, r.tag)) = fs.map (fun f => (f.kind + 0x80, f.tag))

/-- For every kind of request with fields, and every value each field can carry, reading the payload written
from the fields gives the fields. -/
def Obligations.RequestFieldsRoundTrip : Prop :=
  (∀ f : MachineFields, f.fitted < 256 → f.minsep < 4294967296 → f.edge < 256 → f.indexTol < 65536 →
      f.nominalPeriod < 4294967296 → f.periodTol < 4294967296 → f.reportRevs < 65536 →
      machineFields (machinePayload f) = some f) ∧
    (∀ f : ScreenFields, f.screen < 256 → f.mode < 256 → f.n < 65536 → f.gap < 65536 → f.stagger < 4294967296 →
      f.pitch < 65536 → screenFields (screenPayload f) = some f) ∧
    (∀ f : CurveFields, f.curve < 256 → f.mode < 256 → f.head < 256 → f.knots.length = 17 →
      (∀ k ∈ f.knots, k < 65536) → curveFields (curvePayload f) = some f) ∧
    (∀ f : PatchFields, f.head < 256 → f.mode < 256 → f.pairs.length < 256 → (∀ p ∈ f.pairs, p.run < 65536) →
      patchFields (patchPayload f) = some f) ∧
    (∀ f : TrackFields, f.head < 256 → f.kind < 256 → f.number < 65536 → f.n < 65536 → f.offset < 65536 →
      f.tones.length ≤ 4096 → trackFields (trackPayload f) = some f) ∧
    (∀ f : DropFields, f.head < 256 → f.first < 65536 → f.last < 65536 → dropFields (dropPayload f) = some f) ∧
    (∀ f : HeadFields, f.head < 256 → f.level < 65536 → f.rampStep < 65536 → f.rampCode < 256 → f.shape < 256 →
      f.settle < 65536 → f.dwell < 65536 → f.fmin < 65536 → f.fmax < 65536 → f.suspendLimit < 65536 →
      f.leadMark < 65536 → f.startAngle < 65536 → -32768 ≤ f.gain → f.gain < 32768 → -32768 ≤ f.offset →
      f.offset < 32768 → f.floor < 65536 → f.ceiling < 65536 → headFields (headPayload f) = some f) ∧
    (∀ f : AxisFields, f.axis < 256 → f.origin < 4294967296 → f.maxpos < 4294967296 → f.homeSpan < 4294967296 →
      f.rate < 4294967296 → axisFields (axisPayload f) = some f) ∧
    (∀ f : SeekFields, f.axis < 256 → -2147483648 ≤ f.target → f.target < 2147483648 →
      seekFields (seekPayload f) = some f) ∧
    (∀ f : EngraveFields, f.tag < 65536 → f.head < 256 → f.source < 256 → f.first < 65536 → f.count < 65536 →
      f.screen < 256 → f.curve < 256 → f.feed < 256 → f.start < 4294967296 →
      engraveFields (engravePayload f) = some f) ∧
    (∀ f : MonitorFields, f.slot < 256 → f.low < 65536 → f.high < 65536 → f.hysteresis < 256 → f.action < 256 →
      monitorFields (monitorPayload f) = some f) ∧
    (∀ a b c : Nat, a < 256 → b < 256 → c < 256 → threeBytes (u8 a ++ u8 b ++ u8 c) = some (a, b, c)) ∧
    (∀ a b : Nat, a < 256 → b < 256 → twoBytes (u8 a ++ u8 b) = some (a, b)) ∧
    ∀ a : Nat, a < 256 → oneByte (u8 a) = some a

/-- In HUNT: a good frame that finds 8 listed requests, none of which can be handed because a MODULE_RESET has
been taken or 16 replies wait, is answered QUEUE_FULL while fewer than 16 replies wait, and is an overrun while
16 wait; bytes with no SYNC among them are dropped without a count; and a frame with a LEN outside 2..4,108, or
with a CHECK that is not the one computed, with no SYNC behind its first byte, is discarded and counted with its
kind of error. The stall timer starts anew, and nothing else changes but what the transmitter chooses.
STALL_TIMEOUT inside a frame whose bytes after the first hold no SYNC brings the stall timer's 5,000 µs, empties
the receiver, and counts one STALL error. In HUNT it changes nothing. That the event STALL_TIMEOUT brings its
due time is the model's choice (notes/assumptions/4.md). -/
def Obligations.UnlistedFramesAreAnsweredOrDropped : Prop :=
  (∀ s : State, s.link.received = [] →
    (∀ (kind tag : Byte) (payload : List Byte), payload.length ≤ 4106 → s.link.inbound.length = 8 →
      (s.link.outbound.length < 16 → s.link.resetTaken = true →
        exec (.frameReceived (encodeFrame kind tag payload)) s = .next { s with link := ({ s.link with
          outbound := s.link.outbound ++ [⟨kind + 0x80, tag, .queueFull, none, []⟩], stall := 0 } : Link).choose }) ∧
      (s.link.outbound.length = 16 →
        exec (.frameReceived (encodeFrame kind tag payload)) s = .next { s with link := ({ s.link with
          errors := min 65535 (s.link.errors + 1), lastError := some .overrun, stall := 0 } : Link).choose })) ∧
    (∀ bytes : List Byte, bytes ≠ [] → sync ∉ bytes →
      exec (.frameReceived bytes) s = .next { s with link := ({ s.link with stall := 0 } : Link).choose }) ∧
    (∀ lo hi : Byte, lo ≠ sync → hi ≠ sync → (lo.toNat + 256 * hi.toNat < 2 ∨ 4108 < lo.toNat + 256 * hi.toNat) →
      exec (.frameReceived [sync, lo, hi]) s = .next { s with link := ({ s.link with
        errors := min 65535 (s.link.errors + 1), lastError := some .badLen, stall := 0 } : Link).choose }) ∧
    ∀ (kind tag : Byte) (payload : List Byte) (check : Nat), payload.length ≤ 4106 → check < 65536 →
      check ≠ (crc (frameBody kind tag payload)).toNat → sync ∉ frameBody kind tag payload → sync ∉ u16 check →
      exec (.frameReceived (sync :: frameBody kind tag payload ++ u16 check)) s = .next { s with link := ({ s.link with
        errors := min 65535 (s.link.errors + 1), lastError := some .badCheck, stall := 0 } : Link).choose }) ∧
    (∀ (b : Byte) (rest : List Byte) (s : State), s.link.received = b :: rest → sync ∉ rest →
      exec .stallTimeout s = .next { s.elapse (5000 - s.link.stall) with
        link := ({ (s.elapse (5000 - s.link.stall)).link with
          received := [], stall := 0, errors := min 65535 (s.link.errors + 1), lastError := some .stall } : Link).choose }) ∧
    ∀ s : State, s.link.received = [] → exec .stallTimeout s = .next { s with link := s.link.choose }

/-- FRAME_SENT ends the frame on the line at its end. With no request listed: the oldest reply is sent next;
with no reply waiting, the first eligible notice entry is sent and cleared and keeps its content; with neither,
the line is free. After the MODULE_RESET reply nothing is chosen. With 16 replies waiting and a request listed,
the room that the oldest reply leaves lets the oldest listed request be handed in the same step. That the event
brings its due time, at 5 bytes a µs, is the model's choice (notes/assumptions/4.md, notes/assumptions/19.md),
and so is that the step hands a listed request (notes/assumptions/5.md). That the end of the MODULE_RESET reply
is recorded in this step, and the reset follows by its own command, is the model's reading
(notes/assumptions/20.md). -/
def Obligations.FrameSentChoosesNext : Prop :=
  ∀ (x : Sending) (s : State), s.link.sending = some x → s.link.resetSent = false →
    (s.link.inbound = [] → x.resets = false →
      (∀ r rs, s.link.outbound = r :: rs →
        exec .frameSent s = .next { s.elapse (ceilDiv x.left 5) with
          link := { (s.elapse (ceilDiv x.left 5)).link with outbound := rs, sending := some (sendReply r) } }) ∧
      (∀ id, s.link.outbound = [] → s.link.firstNotice = some id →
        exec .frameSent s = .next { s.elapse (ceilDiv x.left 5) with
          link := { (s.elapse (ceilDiv x.left 5)).link.setEntry id
              { s.link.entry id with pending := false, count := 0 } with
            sending := some (sendNotice id (s.link.entry id)) } }) ∧
      (s.link.outbound = [] → s.link.firstNotice = none →
        exec .frameSent s = .next { s.elapse (ceilDiv x.left 5) with
          link := { (s.elapse (ceilDiv x.left 5)).link with sending := none } })) ∧
    (s.link.inbound = [] → x.resets = true →
      exec .frameSent s = .next { s.elapse (ceilDiv x.left 5) with
        link := { (s.elapse (ceilDiv x.left 5)).link with sending := none, resetSent := true } }) ∧
    ∀ (f : Frame) (rest : List Frame) (r : Reply) (rs : List Reply), s.link.inbound = f :: rest →
      s.link.outbound = r :: rs → rs.length = 15 → s.link.resetTaken = false → x.resets = false →
      exec .frameSent s = exec (requestOf f) { s.elapse (ceilDiv x.left 5) with
        link := { (s.elapse (ceilDiv x.left 5)).link with outbound := rs, sending := some (sendReply r) } }

/-- The chosen entry is pending in an enabled group, and every other eligible entry has a lower level, or the
same level and a higher group number, or the same level and group and a higher source number. When none is
chosen, none is eligible. -/
def Obligations.NoticesLeaveInDispatchOrder : Prop :=
  ∀ l : Link,
    (∀ id, l.firstNotice = some id → l.eligible id = true ∧ ∀ j, l.eligible j = true → j ≠ id →
      l.levelOf j < l.levelOf id ∨
        (l.levelOf j = l.levelOf id ∧ ((noticeGroup id).val < (noticeGroup j).val ∨
          (noticeGroup id = noticeGroup j ∧ noticeSource id < noticeSource j)))) ∧
    (l.firstNotice = none → ∀ j, l.eligible j = false)

/-- A kind that names no request is answered UNKNOWN_KIND, and a payload whose length does not fit its kind
BAD_LENGTH, with no content and no other effect: every kind of fixed length, TRACK outside 8 to 4,104 bytes, and
SET_PATCH whose length does not hold the pairs it names. While a frame is on the line, a reply joins the tail of
the reply list and the handed request leaves the inbound list; with a free line and no reply waiting it is sent
at once. When the transmitter chooses is the model's reading (notes/assumptions/26.md). -/
def Obligations.LinkAnswersWrongRequests : Prop :=
  (∀ (kind tag : Byte) (payload : List Byte) (s : State), requestKinds.contains kind = false →
      s.canHand ⟨kind, tag, payload⟩ = true →
      exec (.unknownKindRequest kind tag payload) s =
        .next { s with link := s.answered kind tag ⟨.unknownKind, none, []⟩ }) ∧
    (∀ (f : Frame) (n : Nat) (s : State), (f.kind, n) ∈ ([(0x01, 18), (0x02, 29), (0x03, 17), (0x04, 12), (0x05, 37),
        (0x07, 8), (0x08, 3), (0x11, 5), (0x12, 0), (0x20, 15), (0x21, 2), (0x22, 2), (0x23, 1), (0x24, 5), (0x25, 1),
        (0x26, 3), (0x27, 0), (0x28, 1), (0x29, 1), (0x2A, 0), (0x30, 1), (0x31, 0), (0x32, 1), (0x33, 1), (0x34, 0),
        (0x35, 0), (0x36, 1)] : List (Byte × Nat)) →
      f.payload.length ≠ n → s.canHand f = true →
      exec (requestOf f) s = .next { s with link := s.answered f.kind f.tag ⟨.badLength, none, []⟩ }) ∧
    (∀ (tag : Byte) (payload : List Byte) (s : State), (payload.length < 8 ∨ 4104 < payload.length) →
      s.canHand ⟨0x10, tag, payload⟩ = true →
      exec (.track tag payload) s = .next { s with link := s.answered 0x10 tag ⟨.badLength, none, []⟩ }) ∧
    (∀ (tag : Byte) (payload : List Byte) (s : State),
      (payload.length < 3 ∨ payload.length ≠ 3 + 3 * (payload.getD 2 0).toNat) →
      s.canHand ⟨0x06, tag, payload⟩ = true →
      exec (.setPatch tag payload) s = .next { s with link := s.answered 0x06 tag ⟨.badLength, none, []⟩ }) ∧
    (∀ (kind tag : Byte) (r : Response) (s : State), s.link.sending.isSome = true →
      (s.answered kind tag r).outbound =
          s.link.outbound ++ [⟨kind + 0x80, tag, r.status, r.reason, r.content⟩] ∧
        (s.answered kind tag r).inbound = s.link.inbound.tail) ∧
    ∀ (kind tag : Byte) (r : Response) (s : State), s.link.sending = none → s.link.outbound = [] →
      s.link.resetSent = false →
      (s.answered kind tag r).outbound = [] ∧
        (s.answered kind tag r).sending = some (sendReply ⟨kind + 0x80, tag, r.status, r.reason, r.content⟩)

/-- A SET_NOTICE for a group up to 5 with enable NO or YES gives the group the level, saturated at 3, and the
enable, and is answered with all six groups as they then stand: CLAMPED when the level was above 3, OK
otherwise. Nothing else changes. That the reply gives the level and the enable of one group together, group by
group, is the model's choice (notes/assumptions/17.md). -/
def Obligations.SetNoticeWritesItsGroup : Prop :=
  ∀ (tag : Byte) (payload : List Byte) (g level e : Nat) (enabled : Bool) (s : State) (hg : g < 6),
    threeBytes payload = some (g, level, e) → flagOf e = some enabled → s.canHand ⟨0x08, tag, payload⟩ = true →
    exec (.setNotice tag payload) s = .next { s with
      link := ({ s with link := { s.link with groups := s.link.groups.set g ⟨min 3 level, enabled⟩ hg } } : State).answered
        0x08 tag ⟨if 3 < level then .clamped else .ok, none,
          (s.link.groups.set g ⟨min 3 level, enabled⟩ hg).toList.flatMap fun x =>
            u8 x.level ++ u8 (if x.enabled then 1 else 0)⟩ }

/-- A MODULE_RESET is answered OK and no further request is handed. POWER_ON, and MODULE_RESET_EFFECT once the
reply has been sent whole, give every block its reset state; the input lines and the waiting commands stay,
which is the model's choice (notes/assumptions/3.md). MODULE_RESET_EFFECT without a sent reply changes nothing.
When the reset may be brought is the model's reading (notes/assumptions/20.md). -/
def Obligations.PowerOnAndModuleReset : Prop :=
  (∀ (tag : Byte) (s : State), s.canHand ⟨0x2A, tag, []⟩ = true →
      exec (.moduleReset tag []) s = .next { s with
        link := ({ s with link := { s.link with resetTaken := true } } : State).answered 0x2A tag ⟨.ok, none, []⟩ }) ∧
    (∀ (f : Frame) (s : State), s.link.resetTaken = true → s.canHand f = false) ∧
    (∀ s : State, exec .powerOn s = .next { State.reset with pins := s.pins, pending := s.pending }) ∧
    (∀ s : State, s.link.resetSent = true →
      exec .moduleResetEffect s = .next { State.reset with pins := s.pins, pending := s.pending }) ∧
    ∀ s : State, s.link.resetSent = false → s.link.sending.any Sending.resets = false →
      exec .moduleResetEffect s = .next { s with link := s.link.choose }

/-- GET_CYLINDER, GET_STORE, GET_HEAD, GET_AXIS, GET_MONITOR and GET_STATUS are answered OK with the report of
the card as it stands and change nothing else. GET_STATUS with the clear flag YES reports the frame errors first
and then clears them. Where the spec leaves the layout of a report open, it is the model's choice
(notes/assumptions/17.md). -/
def Obligations.QueriesReportWithoutChange : Prop :=
  (∀ (tag : Byte) (s : State), s.canHand ⟨0x31, tag, []⟩ = true →
      exec (.getCylinder tag []) s =
        .next { s with link := s.answered 0x31 tag ⟨.ok, none, cylinderContent s.handed⟩ }) ∧
    (∀ (tag : Byte) (s : State), s.canHand ⟨0x34, tag, []⟩ = true →
      exec (.getStore tag []) s = .next { s with link := s.answered 0x34 tag ⟨.ok, none, storeContent s.handed⟩ }) ∧
    (∀ (tag : Byte) (h : HeadId) (s : State), s.canHand ⟨0x32, tag, u8 h.val⟩ = true → s.fitted h = true →
      exec (.getHead tag (u8 h.val)) s =
        .next { s with link := s.answered 0x32 tag ⟨.ok, none, headContent h s.handed⟩ }) ∧
    (∀ (tag : Byte) (k : HeadId) (s : State), s.canHand ⟨0x33, tag, u8 k.val⟩ = true → s.fitted k = true →
      exec (.getAxis tag (u8 k.val)) s =
        .next { s with link := s.answered 0x33 tag ⟨.ok, none, axisContent k s.handed⟩ }) ∧
    (∀ (tag : Byte) (s : State), s.canHand ⟨0x35, tag, []⟩ = true →
      exec (.getMonitor tag []) s =
        .next { s with link := s.answered 0x35 tag ⟨.ok, none, monitorContent s.monitor⟩ }) ∧
    (∀ (tag : Byte) (s : State), s.canHand ⟨0x30, tag, [0]⟩ = true →
      exec (.getStatus tag [0]) s =
        .next { s with link := s.answered 0x30 tag ⟨.ok, none, statusContent s.handed⟩ }) ∧
    ∀ (tag : Byte) (s : State), s.canHand ⟨0x30, tag, [1]⟩ = true →
      exec (.getStatus tag [1]) s = .next { s with
        link := ({ s with link := { s.link with errors := 0, lastError := none } } : State).answered 0x30 tag
          ⟨.ok, none, statusContent s.handed⟩ }

/-- COUNT_EVENT answers a next state in which the angle has moved by 1 modulo 65536, the stopped timer is 0, and
E has followed while an origin is known. In STOPPED the state becomes UNSYNCED; a reverse count, and a forward
count that brings E above 65536 + INDEX_TOL, clear E and the streak and leave UNSYNCED. The heads fitted F and
the start angles written since the last count act from this count on. The rest of the CTU, the settings, tables,
monitor and input lines are unchanged. With no band active, no head CUTTING and no axis FEEDING, a forward count
inside the window changes nothing else but what the transmitter chooses. A forward count past the window in
UNSYNCED is reported as INDEX_MISSING by the CYLINDER entry, and while no head is CUTTING it leaves every band
as it is. -/
def Obligations.CountMovesAngle : Prop :=
  (∀ (forward : Bool) (s : State), ∃ t, exec (.countEvent forward) s = .next t ∧
      t.ctu = { s.ctu with
        angle := (s.ctu.angle + if forward then 1 else 65535) % 65536
        stoppedTimer := 0
        acting := ⟨s.machine.fitted, s.heads.map fun x => x.settings.startAngle⟩
        elapsed := if forward = true ∧ s.ctu.timing ≠ .stopped ∧ s.ctu.streak ≠ 0 ∧
          s.ctu.elapsed + 1 ≤ 65536 + s.machine.indexTol then s.ctu.elapsed + 1 else 0
        streak := if forward = true ∧ s.ctu.timing ≠ .stopped ∧ s.ctu.elapsed + 1 ≤ 65536 + s.machine.indexTol
          then s.ctu.streak else 0
        timing := if forward = true ∧ s.ctu.timing = .synced ∧
          (s.ctu.streak = 0 ∨ s.ctu.elapsed + 1 ≤ 65536 + s.machine.indexTol) then .synced else .unsynced } ∧
      t.clock = s.clock ∧ t.pins = s.pins ∧ t.machine = s.machine ∧ t.screens = s.screens ∧ t.curves = s.curves ∧
      t.patches = s.patches ∧ t.monitor = s.monitor) ∧
    (∀ s : State, s.ctu.timing = .unsynced → s.ctu.streak ≠ 0 → 65536 + (s.machine.indexTol : Int) < s.ctu.elapsed + 1 →
      ∃ t, exec (.countEvent true) s = .next t ∧
        (t.link.entry .cylinder).content =
          some (.cylinder .indexMissing .unsynced s.ctu.ready s.ctu.revs s.timestamp) ∧
        ((∀ h, (s.heads.get h).state ≠ .cutting) → t.bands = s.bands)) ∧
    ∀ s : State, s.ctu.timing ≠ .stopped →
      (s.ctu.streak = 0 ∨ s.ctu.elapsed + 1 ≤ 65536 + s.machine.indexTol) →
      (∀ h, s.active h = none ∧ (s.heads.get h).state ≠ .cutting ∧ (s.axes.get h).state ≠ .feeding) →
      exec (.countEvent true) s = .next { s with
        ctu := { s.ctu with
          angle := (s.ctu.angle + 1) % 65536
          elapsed := if s.ctu.streak = 0 then 0 else s.ctu.elapsed + 1
          stoppedTimer := 0
          acting := ⟨s.machine.fitted, s.heads.map fun x => x.settings.startAngle⟩ }
        link := s.link.choose }

/-- For a forward count that loses no origin and reaches no head's start angle, and a head fitted under the F
that the count takes up, with r the new relative count, from the start angle that the count takes up: a CUTTING
head delivers, in order, exactly the cells from its pointer on whose fire counts r has reached, and holds the
depth of the last one delivered, and its active band's clamp counts rise by the LOW and the HIGH marks among
them and stop at 2^32 − 1; an armed stepped trigger fires when r is at 65536 − GAP or above, and otherwise
stays; a helical axis issues exactly the steps from its pointer on that r has reached, each with a pulse on its
step output. That the trigger's move sets the direction output up as it starts is the model's choice
(notes/assumptions/30.md). That the stage of a HELICAL band stays as it is while its steps are issued is the
model's choice (notes/assumptions/36.md). The order within a count is the model's reading
(notes/assumptions/13.md). -/
def Obligations.CountServesCellsAndFeed : Prop :=
  ∀ (h : HeadId) (s : State) (r : Nat), h.val < s.machine.fitted →
    s.ctu.timing ≠ .stopped → s.ctu.streak ≠ 0 → s.ctu.elapsed + 1 ≤ 65536 + s.machine.indexTol →
    (∀ g, (s.heads.get g).settings.startAngle = 0 ∨ s.ctu.elapsed + 1 ≠ (s.heads.get g).settings.startAngle) →
    r = ((s.ctu.angle + 1) % 65536 + 65536 - (s.heads.get h).settings.startAngle) % 65536 →
    (∀ (i : Nat) (c : PlacementContext) (tr : BufferTrack), (s.heads.get h).state = .cutting →
      (s.heads.get h).nextCell = some i → (s.heads.get h).context = some c →
      (s.buffers.get h).active.held = .loaded tr → i ≤ c.n →
      ∃ t j d, exec (.countEvent true) s = .next t ∧
        t.heads.get h = { s.heads.get h with nextCell := some j, depth := d } ∧ i ≤ j ∧ j ≤ c.n ∧
        (∀ x, i ≤ x → x < j → c.fireCount tr.number x ≤ r) ∧ (j < c.n → r < c.fireCount tr.number j) ∧
        (j = i → d = (s.heads.get h).depth) ∧
        (i < j → d = ((s.heads.get h).cellEntry tr.kind (s.buffers.get h).active.tones (j - 1)).depth) ∧
        ∀ (b : Band) (marks : ClampMark → Nat), s.active h = some b →
          (∀ m, marks m = ((List.range' i (j - i)).filter fun x =>
            ((s.heads.get h).cellEntry tr.kind (s.buffers.get h).active.tones x).mark = m).length) →
          t.active h = some { b with
            clampedLow := min 4294967295 (b.clampedLow + marks .low)
            clampedHigh := min 4294967295 (b.clampedHigh + marks .high) }) ∧
    (∀ x : FeedContext, (s.axes.get h).state = .feeding → (s.axes.get h).feed = some x → x.feed = .stepped →
      x.armed = true →
      ∃ t, exec (.countEvent true) s = .next t ∧
        t.axes.get h = if 65536 - x.gap ≤ r then
            { s.axes.get h with
              feed := some { x with armed := false, stage := .move }
              outputs := { (s.axes.get h).outputs with up := true }
              move := some ⟨true, 0, x.pitch, s.clock, 1000000, (s.axes.get h).settings.rate⟩ }
          else s.axes.get h) ∧
    ∀ (x : FeedContext) (j : Nat), (s.axes.get h).state = .feeding → (s.axes.get h).feed = some x →
      x.feed = .helical → x.pointer = some j → 1 ≤ j → j ≤ x.pitch + 1 →
      ∃ t k, exec (.countEvent true) s = .next t ∧
        t.axes.get h = { s.axes.get h with
          feed := some { x with pointer := some k }
          outputs := { (s.axes.get h).outputs with pulses := (s.axes.get h).outputs.pulses + (k - j) }
          position := (s.axes.get h).position.map (· + (k - j)) } ∧
        j ≤ k ∧ k ≤ x.pitch + 1 ∧ (∀ i, j ≤ i → i < k → i * 65536 / x.pitch - 1 ≤ r) ∧
        (k ≤ x.pitch → r < k * 65536 / x.pitch - 1)

/-- The edge the setting does not select, and every edge in STOPPED, change nothing. An index with no origin
known becomes the origin: angle and E 0, streak 1, index time now, UNSYNCED. In UNSYNCED, and in SYNCED with no
band active, an index with E below 65536 − INDEX_TOL is a new origin too, leaves UNSYNCED, and posts the
CYLINDER entry with INDEX_SLIP; one with E above 65536 + INDEX_TOL first posts INDEX_MISSING and is then an
origin. The last period, speed-ok and the revolution counter are kept. What such an index does to bands another
statement says. -/
def Obligations.IndexTakesOriginOrSlips : Prop :=
  (∀ (edge : IndexEdge) (s : State), (edge ≠ s.machine.indexEdge ∨ s.ctu.timing = .stopped) →
      exec (.indexEvent edge) s = .next { s with link := s.link.choose }) ∧
    (∀ s : State, s.ctu.timing ≠ .stopped → s.ctu.streak = 0 →
      exec (.indexEvent s.machine.indexEdge) s = .next { s with
        ctu := { s.ctu with angle := 0, elapsed := 0, streak := 1, indexTime := s.timestamp, timing := .unsynced }
        link := s.link.choose }) ∧
    ∀ (e : CylEvent) (s : State), (s.ctu.timing = .unsynced ∨ (s.ctu.timing = .synced ∧ ∀ h, s.active h = none)) →
      s.ctu.streak ≠ 0 →
      ((e = .indexSlip ∧ s.ctu.elapsed < 65536 - (s.machine.indexTol : Int)) ∨
        (e = .indexMissing ∧ 65536 + (s.machine.indexTol : Int) < s.ctu.elapsed)) →
      exec (.indexEvent s.machine.indexEdge) s = .next { s with
        ctu := { s.ctu with angle := 0, elapsed := 0, streak := 1, indexTime := s.timestamp, timing := .unsynced }
        link := (s.link.post .cylinder
          (.cylinder e .unsynced s.ctu.ready s.ctu.revs s.timestamp)).choose }

/-- An index whose E lies within INDEX_TOL of 65536 stores the µs since the last index as the last period, sets
angle and E to 0, raises the revolution counter modulo 2^32, leaves SYNCED with streak 2, sets speed-ok from the
window, and counts the report countdown down, or reloads it and posts the CYL_STATUS entry. A change of speed-ok
posts the CYLINDER entry. -/
def Obligations.GoodIndexMeasures : Prop :=
  ∀ s : State, s.ctu.timing ≠ .stopped → s.ctu.streak ≠ 0 →
    65536 - (s.machine.indexTol : Int) ≤ s.ctu.elapsed → s.ctu.elapsed ≤ 65536 + s.machine.indexTol →
    ∃ t p ok, exec (.indexEvent s.machine.indexEdge) s = .next t ∧
      p = (s.timestamp + 4294967296 - s.ctu.indexTime) % 4294967296 ∧
      (ok = true ↔ s.machine.nominalPeriod = 0 ∨
        (p ≤ s.machine.nominalPeriod + s.machine.periodTol ∧ s.machine.nominalPeriod ≤ p + s.machine.periodTol)) ∧
      t.ctu = { s.ctu with
        angle := 0
        elapsed := 0
        timing := .synced
        streak := 2
        indexTime := s.timestamp
        lastPeriod := some p
        speedOk := ok
        revs := (s.ctu.revs + 1) % 4294967296
        countdown := if s.machine.reportRevs = 0 then s.ctu.countdown
          else if s.ctu.countdown ≤ 1 then s.machine.reportRevs else s.ctu.countdown - 1 } ∧
      (s.machine.reportRevs ≠ 0 → s.ctu.countdown ≤ 1 → (t.link.entry .cylStatus).content =
        some (.cylStatus ((s.ctu.revs + 1) % 4294967296) p s.timestamp ok)) ∧
      (s.ctu.speedOk ≠ ok → (t.link.entry .cylinder).content =
        some (.cylinder (if ok then .speedRegained else .speedLost) .synced s.ctu.ready
          ((s.ctu.revs + 1) % 4294967296) s.timestamp))

/-- STOPPED_TIMEOUT brings the stopped timer's 50,000 µs: from UNSYNCED, and from SYNCED with no band active,
the state becomes STOPPED with streak and E 0 and no period, and the CYLINDER entry is posted; in STOPPED it
changes nothing. READY_LINE_CHANGE sets the raw level, and a return to agreement sets the debounce timer to 0.
READY_DEBOUNCE_EXPIRY changes nothing while the levels agree; with the raw line HIGH it brings the timer's
10,000 µs, sets the ready state and posts READY_GAINED. That the events bring their due times is the model's
choice (notes/assumptions/4.md). -/
def Obligations.StoppedAndReadyLine : Prop :=
  (∀ s : State, s.ctu.timing = .stopped → exec .stoppedTimeout s = .next { s with link := s.link.choose }) ∧
    (∀ s t : State, (s.ctu.timing = .unsynced ∨ (s.ctu.timing = .synced ∧ ∀ h, s.active h = none)) →
      t = s.elapse (50000 - s.ctu.stoppedTimer) →
      exec .stoppedTimeout s = .next { t with
        ctu := { t.ctu with timing := .stopped, streak := 0, elapsed := 0, lastPeriod := none }
        link := (t.link.post .cylinder (.cylinder .stopped .stopped t.ctu.ready t.ctu.revs t.timestamp)).choose }) ∧
    (∀ (level : Bool) (s : State), exec (.readyLineChange level) s = .next { s with
        pins := { s.pins with readyLine := level }
        ctu := { s.ctu with debounce := if level = s.ctu.ready then 0 else s.ctu.debounce }
        link := s.link.choose }) ∧
    (∀ s : State, s.pins.readyLine = s.ctu.ready →
      exec .readyDebounceExpiry s = .next { s with link := s.link.choose }) ∧
    ∀ s t : State, s.pins.readyLine = true → s.ctu.ready = false → t = s.elapse (10000 - s.ctu.debounce) →
      exec .readyDebounceExpiry s = .next { t with
        ctu := { t.ctu with ready := true, debounce := 0 }
        link := (t.link.post .cylinder
          (.cylinder .readyGained t.ctu.timing true t.ctu.revs t.timestamp)).choose }

/-- When the debounced line goes LOW, every fitted head is PARKED at level and depth 0 with no ramp, every
fitted axis is UNHOMED with last fault READY_LOST, no position, and as last known position the one it had, and
no fitted head holds a band. With no copy in flight, each active band's record joins its list ABORTED
MACHINE_NOT_READY, and the pending band's behind it PRECEDING_ABORT. The premises are the laws of the head
states and of pending bands, which other statements keep. The order head, axis, band is the model's choice
(notes/assumptions/16.md), and so is the due time (notes/assumptions/4.md). -/
def Obligations.ReadyLostStopsEverything : Prop :=
  ∀ s : State, s.pins.readyLine = false → s.ctu.ready = true → (∀ h, (s.heads.get h).outputsLawful) →
    (∀ h, (s.bands.get h).pendingFollows) →
    ∃ t, exec .readyDebounceExpiry s = .next t ∧ t.ctu.ready = false ∧
      (∀ h, s.fitted h = true →
        (t.heads.get h).state = .parked ∧ (t.heads.get h).level = 0 ∧ (t.heads.get h).depth = 0 ∧
        (t.heads.get h).ramp = none ∧ (t.heads.get h).nextCell = none ∧
        (t.axes.get h).state = .unhomed ∧ (t.axes.get h).lastFault = .readyLost ∧ (t.axes.get h).position = none ∧
        (t.axes.get h).move = none ∧ (t.axes.get h).feed = none ∧
        (t.axes.get h).lastKnown =
          (if (s.axes.get h).homed then (s.axes.get h).position else (s.axes.get h).lastKnown) ∧
        (t.bands.get h).active = none ∧ (t.bands.get h).waiting = none ∧
        (s.fetch.copy = none →
          (t.bands.get h).results.map (fun r => (r.tag, r.cls, r.cause)) =
            (s.bands.get h).results.map (fun r => (r.tag, r.cls, r.cause)) ++
            (s.bands.get h).active.toList.map (fun b => (b.tag, .aborted, .machineNotReady)) ++
            (s.bands.get h).waiting.toList.map (fun b => (b.tag, .aborted, .precedingAbort)))) ∧
      (s.fetch.copy = none →
        ∀ h, s.fitted h = false → t.bands.get h = s.bands.get h ∧ t.axes.get h = s.axes.get h)

/-- With no band held, or with F and the edge as they are, an edge code of 0 or 1, F in 1 to 4, MINSEP at most
1,000,000 and the spans clear under them, the seven settings are stored, the last four saturated; the F that
acts is lowered at once and never raised, since a raised F waits for the next count; a changed edge drops the
origin; REPORT_REVS loads the report countdown. Heads that a lowered F leaves unfitted are PARKED at level 0 and
depth 0 with no ramp or timer, and their axes UNHOMED with fault NONE and the position kept as the last known
one, with no notice; all other heads and axes are unchanged. CLAMPED tells of a saturated value. A held band
with another F or edge is BUSY, a bad edge, F or MINSEP BAD_FIELD, and spans that break the law COLLISION, each
without a change. That a lowered F acts at once for requests too is the model's reading
(notes/assumptions/31.md). That a bad F or edge counts as a change is the model's reading
(notes/assumptions/25.md). -/
def Obligations.SetMachineWritten : Prop :=
  ∀ (tag : Byte) (payload : List Byte) (f : MachineFields) (s : State), machineFields payload = some f →
    s.canHand ⟨0x01, tag, payload⟩ = true →
    (∀ (edge : IndexEdge) (heads : Quad Head) (axes : Quad Axis),
      (s.anyHeld = false ∨ (f.fitted = s.machine.fitted ∧ edge = s.machine.indexEdge)) →
      edgeOf f.edge = some edge → 1 ≤ f.fitted → f.fitted ≤ 4 → f.minsep ≤ 1000000 →
      s.lawHolds f.minsep f.fitted = true →
      (∀ h, heads.get h = if f.fitted ≤ h.val ∧ h.val < s.machine.fitted ∧ (s.heads.get h).state ≠ .parked
        then { s.heads.get h with
          state := .parked, level := 0, depth := 0, ramp := none, settleTimer := none, dwellTimer := none
          nextCell := none }
        else s.heads.get h) →
      (∀ k, axes.get k = if f.fitted ≤ k.val ∧ k.val < s.machine.fitted
        then { s.axes.get k with
          state := .unhomed, position := none, target := none, move := none, homeSteps := none, feed := none
          lastKnown := if (s.axes.get k).homed then (s.axes.get k).position else (s.axes.get k).lastKnown
          lastFault := .none }
        else s.axes.get k) →
      exec (.setMachine tag payload) s = .next { s with
        machine := ⟨f.fitted, f.minsep, edge, min 255 f.indexTol,
          if f.nominalPeriod = 0 then 0 else max 10000 (min 4000000 f.nominalPeriod), min 65535 f.periodTol,
          min 255 f.reportRevs⟩
        ctu := if edge = s.machine.indexEdge then { s.ctu with
            acting := { s.ctu.acting with fitted := min s.ctu.acting.fitted f.fitted }
            countdown := min 255 f.reportRevs }
          else { s.ctu with
            acting := { s.ctu.acting with fitted := min s.ctu.acting.fitted f.fitted }
            streak := 0
            elapsed := 0
            timing := if s.ctu.timing = .stopped then .stopped else .unsynced
            countdown := min 255 f.reportRevs }
        heads := heads
        axes := axes
        link := s.answered 0x01 tag ⟨if 255 < f.indexTol ∨ (f.nominalPeriod ≠ 0 ∧ f.nominalPeriod < 10000) ∨
          4000000 < f.nominalPeriod ∨ 65535 < f.periodTol ∨ 255 < f.reportRevs then .clamped else .ok, none, []⟩ }) ∧
    (s.anyHeld = true → (f.fitted ≠ s.machine.fitted ∨ f.edge ≠ edgeCode s.machine.indexEdge) →
      exec (.setMachine tag payload) s = .next { s with link := s.answered 0x01 tag ⟨.busy, none, []⟩ }) ∧
    ((s.anyHeld = false ∨ (f.fitted = s.machine.fitted ∧ f.edge = edgeCode s.machine.indexEdge)) → (1 < f.edge ∨ f.fitted = 0 ∨ 4 < f.fitted ∨ 1000000 < f.minsep) →
      exec (.setMachine tag payload) s = .next { s with link := s.answered 0x01 tag ⟨.badField, none, []⟩ }) ∧
    ((s.anyHeld = false ∨ (f.fitted = s.machine.fitted ∧ f.edge = edgeCode s.machine.indexEdge)) → f.edge ≤ 1 → 1 ≤ f.fitted → f.fitted ≤ 4 → f.minsep ≤ 1000000 →
      s.lawHolds f.minsep f.fitted = false →
      exec (.setMachine tag payload) s =
        .next { s with link := s.answered 0x01 tag ⟨.refused, some .collision, []⟩ })

/-- In SYNCED and with no copy in flight, each of these posts the CYLINDER entry and is handed to every fitted
head: a reverse count (DIRECTION), a forward count past the window (INDEX_MISSING), an early index (INDEX_SLIP),
an index above the window (INDEX_MISSING), and the stopped timeout (STOPPED). The band of a fitted head in
CUTTING or SUSPENDED ends with the record of R144: class ABORTED, cause TIMING_FAULT, the fault's kind as
detail, the band's counts with a fill in flight as one discarded, and the axis's position; a pending band's
record follows it, ABORTED PRECEDING_ABORT; BAND_END is posted with the newest record; its head takes a retract
order, its homed axis is IDLE, and both its line buffers are EMPTY in their roles. A band in WAIT_SYNC stays,
with its wait count 0; one in POSITIONING or ENGAGING is unchanged. A good index at which speed-ok falls, and
which raises no boundary, posts SPEED_LOST and ends such a band with cause SPEED_FAULT and no detail; bands in
WAIT_SYNC, POSITIONING and ENGAGING are unchanged. The ascending order of the heads, and that STOPPED_TIMEOUT
brings its due time, are the model's choices (notes/assumptions/29.md, notes/assumptions/4.md), and so is the
segment in which a SINE retract ramp opens (notes/assumptions/33.md). -/
def Obligations.TimingLossEndsCuttingBands : Prop :=
  ∀ s : State, s.fetch.copy = none →
    (s.ctu.timing = .synced →
      (∃ t, exec (.countEvent false) s = .next t ∧
        (t.link.entry .cylinder).content =
          some (.cylinder .direction .unsynced s.ctu.ready s.ctu.revs s.timestamp) ∧
        s.takeUp.timingLost t .direction s.clock) ∧
      (s.ctu.streak ≠ 0 → 65536 + (s.machine.indexTol : Int) < s.ctu.elapsed + 1 →
        ∃ t, exec (.countEvent true) s = .next t ∧
          (t.link.entry .cylinder).content =
            some (.cylinder .indexMissing .unsynced s.ctu.ready s.ctu.revs s.timestamp) ∧
          s.takeUp.timingLost t .indexMissing s.clock) ∧
      (s.ctu.streak ≠ 0 → s.ctu.elapsed < 65536 - (s.machine.indexTol : Int) →
        ∃ t, exec (.indexEvent s.machine.indexEdge) s = .next t ∧
          (t.link.entry .cylinder).content =
            some (.cylinder .indexSlip .unsynced s.ctu.ready s.ctu.revs s.timestamp) ∧
          s.timingLost t .indexSlip s.clock) ∧
      (s.ctu.streak ≠ 0 → 65536 + (s.machine.indexTol : Int) < s.ctu.elapsed →
        ∃ t, exec (.indexEvent s.machine.indexEdge) s = .next t ∧
          (t.link.entry .cylinder).content =
            some (.cylinder .indexMissing .unsynced s.ctu.ready s.ctu.revs s.timestamp) ∧
          s.timingLost t .indexMissing s.clock) ∧
      ∃ t, exec .stoppedTimeout s = .next t ∧
        (t.link.entry .cylinder).content = some (.cylinder .stopped .stopped s.ctu.ready s.ctu.revs
          (s.elapse (50000 - s.ctu.stoppedTimer)).timestamp) ∧
        s.timingLost t .stopped (s.elapse (50000 - s.ctu.stoppedTimer)).clock) ∧
    ∀ p : Nat, s.ctu.timing ≠ .stopped → s.ctu.streak ≠ 0 →
      65536 - (s.machine.indexTol : Int) ≤ s.ctu.elapsed → s.ctu.elapsed ≤ 65536 + s.machine.indexTol →
      p = (s.timestamp + 4294967296 - s.ctu.indexTime) % 4294967296 → s.ctu.speedOk = true →
      s.machine.nominalPeriod ≠ 0 →
      (s.machine.nominalPeriod + s.machine.periodTol < p ∨ p + s.machine.periodTol < s.machine.nominalPeriod) →
      (∀ g, s.fitted g = true → s.startAngle g ≠ 0 ∧ (s.startAngle g : Int) ≤ s.ctu.elapsed) →
      ∃ t, exec (.indexEvent s.machine.indexEdge) s = .next t ∧
        (t.link.entry .cylinder).content =
          some (.cylinder .speedLost .synced s.ctu.ready ((s.ctu.revs + 1) % 4294967296) s.timestamp) ∧
        ∀ (h : HeadId) (b : Band), s.fitted h = true → s.active h = some b →
          ((b.phase = .cutting ∨ b.phase = .suspended) →
            s.abortsBand t h b .speedFault none ((s.ctu.revs + 1) % 4294967296) s.clock) ∧
          ((b.phase = .waitSync ∨ b.phase = .positioning ∨ b.phase = .engaging) →
            (s.heads.get h).state ≠ .cutting → t.bands.get h = s.bands.get h)

/-- For a screen up to 15: a WRITE with N in 64 to 16,384 and PITCH in 1 to 4,095, to an entry no held band
names, stores the four fields with G and S saturated and answers with the entry and its derived values; a READ
answers OK with the entry; a WRITE to an entry in use is BUSY, and other values and modes are BAD_FIELD, with
the entry unchanged. -/
def Obligations.SetScreenWritesOrReads : Prop :=
  ∀ (tag : Byte) (payload : List Byte) (f : ScreenFields) (i : Fin 16) (s : State), screenFields payload = some f →
    f.screen = i.val → s.canHand ⟨0x04, tag, payload⟩ = true →
    (f.mode = 0 → s.screenInUse i.val = false → 64 ≤ f.n → f.n ≤ 16384 → 1 ≤ f.pitch → f.pitch ≤ 4095 →
      exec (.setScreen tag payload) s = .next { s with
        screens := s.screens.set i.val ⟨f.n, min 8191 f.gap, min 65535 f.stagger, f.pitch⟩ i.isLt
        link := s.answered 0x04 tag ⟨if 8191 < f.gap ∨ 65535 < f.stagger then .clamped else .ok, none,
          screenContent i.val ⟨f.n, min 8191 f.gap, min 65535 f.stagger, f.pitch⟩⟩ }) ∧
    (f.mode = 1 →
      exec (.setScreen tag payload) s = .next { s with
        link := s.answered 0x04 tag ⟨.ok, none, screenContent i.val (s.screens.get i)⟩ }) ∧
    (f.mode = 0 → s.screenInUse i.val = true →
      exec (.setScreen tag payload) s = .next { s with
        link := s.answered 0x04 tag ⟨.busy, none, screenContent i.val (s.screens.get i)⟩ }) ∧
    ((1 < f.mode ∨ (f.mode = 0 ∧ s.screenInUse i.val = false ∧ f.n ≠ 0 ∧
        (f.n < 64 ∨ 16384 < f.n ∨ f.pitch = 0 ∨ 4095 < f.pitch))) →
      exec (.setScreen tag payload) s = .next { s with
        link := s.answered 0x04 tag ⟨.badField, none, screenContent i.val (s.screens.get i)⟩ })

/-- A WRITE with N = 0 to an entry named by a held band is refused BUSY and changes nothing. Otherwise the entry
becomes undefined, with its four fields 0; G, S and PITCH are not looked at; the reply is OK and carries the
entry number, four zero fields and absent derived values. An undefined entry is cleared again with the same
reply. That each of the ten derived values has a presence byte of its own in the reply is the model's choice
(notes/assumptions/17.md). -/
def Obligations.SetScreenClears : Prop :=
  ∀ (tag : Byte) (payload : List Byte) (f : ScreenFields) (i : Fin 16) (s : State), screenFields payload = some f →
    f.screen = i.val → f.mode = 0 → f.n = 0 → s.canHand ⟨0x04, tag, payload⟩ = true →
    ((∃ h, ∃ b ∈ s.held h, b.screen = i.val) →
      exec (.setScreen tag payload) s = .next { s with
        link := s.answered 0x04 tag ⟨.busy, none, screenContent i.val (s.screens.get i)⟩ }) ∧
    ((∀ h, ∀ b ∈ s.held h, b.screen ≠ i.val) →
      exec (.setScreen tag payload) s = .next { s with
        screens := s.screens.set i.val ⟨0, 0, 0, 0⟩ i.isLt
        link := s.answered 0x04 tag ⟨.ok, none, u8 i.val ++ List.replicate 41 0⟩ })

/-- For every defined entry: fire counts strictly increase and are at most 65,535 and at most 65536 − G; P is at
least 229,380; successive raw fire counts differ by at least 3; every cell before the last has a raw fire count
of at most 65,533; on an even track the last is at most 65533 − G; and with G at least 1 only the last cell of
an odd track falls due in the gap, at its first count. -/
def Obligations.FireCountsIncrease : Prop :=
  ∀ x : Screen, 64 ≤ x.n → x.n ≤ 16384 → x.gap ≤ 8191 → x.stagger ≤ 65535 →
    229380 ≤ x.cellPitch ∧
    (∀ (odd : Bool) (i j : Nat), i < j → j < x.n → x.fireCount odd i < x.fireCount odd j) ∧
    (∀ (odd : Bool) (i : Nat), i < x.n → x.fireCount odd i ≤ 65535 ∧ x.fireCount odd i ≤ 65536 - x.gap) ∧
    (∀ (odd : Bool) (i : Nat), rawFireCount x.cellPitch (if odd then x.shift else 0) i + 3 ≤
      rawFireCount x.cellPitch (if odd then x.shift else 0) (i + 1)) ∧
    (∀ (odd : Bool) (i : Nat), i + 1 < x.n →
      rawFireCount x.cellPitch (if odd then x.shift else 0) i ≤ 65533) ∧
    x.fireCount false (x.n - 1) ≤ 65533 - x.gap ∧
    ∀ (odd : Bool) (i : Nat), 1 ≤ x.gap → i < x.n → 65536 - x.gap ≤ x.fireCount odd i →
      odd = true ∧ i = x.n - 1 ∧ x.fireCount odd i = 65536 - x.gap

/-- For 17 knots up to 4095 and a calibration within its ranges: a non-blank tone's raw value is K_s +
floor((K_(s+1) − K_s) × f / 16), lies between its two knots, and with gain and offset gives w in −512 to 5117; a
w below DF gives DF marked LOW, one above DC gives DC marked HIGH, and any other gives w with mark NONE, so the
depth lies in DF..DC and is at least 1. Tone 0 alone has depth 0, with mark NONE. -/
def Obligations.DepthsStayInTheWindow : Prop :=
  ∀ (knots : List Nat) (c : Calibration), knots.length = 17 → (∀ k ∈ knots, k ≤ 4095) →
    -4096 ≤ c.gain → c.gain ≤ 4095 → -512 ≤ c.offset → c.offset ≤ 511 → 1 ≤ c.floor → c.floor ≤ c.ceiling →
    c.ceiling ≤ 4095 →
    depthEntry knots c 0 = ⟨0, .none⟩ ∧
    ∀ tone, 1 ≤ tone → tone ≤ 255 → ∀ (k0 k1 : Nat) (v w : Int), knots[tone / 16]? = some k0 →
      knots[tone / 16 + 1]? = some k1 → v = k0 + ((k1 : Int) - k0) * (tone % 16 : Nat) / 16 →
      w = v * (32768 + c.gain) / 32768 + c.offset →
      ((min k0 k1 : Nat) : Int) ≤ v ∧ v ≤ (max k0 k1 : Nat) ∧ -512 ≤ w ∧ w ≤ 5117 ∧
      (w < c.floor → depthEntry knots c tone = ⟨c.floor, .low⟩) ∧
      ((c.ceiling : Int) < w → depthEntry knots c tone = ⟨c.ceiling, .high⟩) ∧
      ((c.floor : Int) ≤ w → w ≤ c.ceiling → depthEntry knots c tone = ⟨w.toNat, .none⟩) ∧
      c.floor ≤ (depthEntry knots c tone).depth ∧ (depthEntry knots c tone).depth ≤ c.ceiling ∧
      1 ≤ (depthEntry knots c tone).depth

/-- SET_CURVE: a WRITE stores the 17 knots, saturated at 4095, unless a held band names the curve (BUSY); a READ
answers the knots; a PREVIEW for a fitted head answers the head's calibration and the 256 depths, marks and
counts, and changes nothing. SET_PATCH: a WRITE of 1 to 32 pairs stores them with runs saturated to 1..4096,
unless the head holds a PATCH band (BUSY); 0 or more than 32 pairs are BAD_FIELD; a READ answers the record. -/
def Obligations.CurvesAndPatchesWritten : Prop :=
  (∀ (tag : Byte) (payload : List Byte) (f : CurveFields) (i : Fin 8) (s : State), curveFields payload = some f →
      f.curve = i.val → s.canHand ⟨0x05, tag, payload⟩ = true →
      (f.mode = 0 → s.curveInUse i.val = false →
        exec (.setCurve tag payload) s = .next { s with
          curves := s.curves.set i.val (f.knots.map (min 4095)) i.isLt
          link := s.answered 0x05 tag ⟨if f.knots.any (fun k => 4095 < k) then .clamped else .ok, none,
            u8 i.val ++ (f.knots.map (min 4095)).flatMap u16⟩ }) ∧
      (f.mode = 0 → s.curveInUse i.val = true →
        exec (.setCurve tag payload) s = .next { s with
          link := s.answered 0x05 tag ⟨.busy, none, u8 i.val ++ (s.curves.get i).flatMap u16⟩ }) ∧
      (f.mode = 1 →
        exec (.setCurve tag payload) s = .next { s with
          link := s.answered 0x05 tag ⟨.ok, none, u8 i.val ++ (s.curves.get i).flatMap u16⟩ }) ∧
      ∀ (h : HeadId) (c : Calibration) (es : List DepthEntry), f.mode = 2 → f.head = h.val → s.fitted h = true →
        c = (s.heads.get h).settings.calibration → es = (List.range 256).map (depthEntry (s.curves.get i) c) →
        exec (.setCurve tag payload) s = .next { s with
          link := s.answered 0x05 tag ⟨.ok, none, u8 i.val ++ (s.curves.get i).flatMap u16 ++
            (i16 c.gain ++ i16 c.offset ++ u16 c.floor ++ u16 c.ceiling ++ (es.flatMap fun e => u16 e.depth) ++
              (es.flatMap fun e => u8 e.mark.code) ++ u8 (es.filter fun e => e.mark = .low).length ++
              u8 (es.filter fun e => e.mark = .high).length)⟩ }) ∧
    ∀ (tag : Byte) (payload : List Byte) (f : PatchFields) (h : HeadId) (s : State), patchFields payload = some f →
      f.head = h.val → s.fitted h = true → s.canHand ⟨0x06, tag, payload⟩ = true →
      (∀ pairs : List PatchPair, f.mode = 0 → s.patchInUse h = false → 1 ≤ f.pairs.length → f.pairs.length ≤ 32 →
        pairs = (f.pairs.map fun p => ⟨p.tone, max 1 (min 4096 p.run)⟩) →
        exec (.setPatch tag payload) s = .next { s with
          patches := s.patches.set h pairs
          link := s.answered 0x06 tag ⟨if f.pairs.any (fun p => p.run = 0 ∨ 4096 < p.run) then .clamped else .ok,
            none, u8 h.val ++ u8 pairs.length ++ (pairs.flatMap fun p => p.tone :: u16 p.run) ++
              u32 (pairs.map PatchPair.run).sum⟩ }) ∧
      (f.mode = 0 → s.patchInUse h = true →
        exec (.setPatch tag payload) s = .next { s with
          link := s.answered 0x06 tag ⟨.busy, none, patchContent h (s.patches.get h)⟩ }) ∧
      (f.mode = 0 → s.patchInUse h = false → (f.pairs.length = 0 ∨ 32 < f.pairs.length) →
        exec (.setPatch tag payload) s = .next { s with
          link := s.answered 0x06 tag ⟨.badField, none, patchContent h (s.patches.get h)⟩ }) ∧
      (f.mode = 1 →
        exec (.setPatch tag payload) s = .next { s with
          link := s.answered 0x06 tag ⟨.ok, none, patchContent h (s.patches.get h)⟩ })

/-- While a frame is on the line, a request that is handed adds exactly one reply to the tail of the reply list,
with the request's kind plus 0x80 and its tag. If its status is neither OK nor CLAMPED, the card is unchanged
but for the handed request, which has left the inbound list, and that reply. -/
def Obligations.RefusedRequestsChangeNothing : Prop :=
  ∀ (f : Frame) (s : State), s.canHand f = true → s.link.sending.isSome = true →
    ∃ t r, exec (requestOf f) s = .next t ∧ t.link.outbound = s.link.outbound ++ [r] ∧
      t.link.inbound = s.link.inbound.tail ∧ r.kind = f.kind + 0x80 ∧ r.tag = f.tag ∧
      (r.status ≠ .ok → r.status ≠ .clamped →
        t = { s with link := { s.link with inbound := s.link.inbound.tail, outbound := s.link.outbound ++ [r] } })

/-- With no band active on the fitted head: an opening chunk with offset 0 for a number that is not in the
queue, of a valid kind, N and length, with room in the queue, the pool, the FILLING limit and the free pages,
takes ceil(N / 1024) pages from the head of the free-page list (none for BLANK and REPEAT), stores its tones
from offset 0, and joins the queue in ascending order. A continuation of a FILLING track with the same kind and
N, at the offset of its bytes received and within N, stores its tones there. The reply is OK with the store's
counts. The layout of the reply and its state code are the model's choice (notes/assumptions/17.md,
notes/assumptions/18.md). -/
def Obligations.TrackOpenedAndContinued : Prop :=
  ∀ (tag : Byte) (payload : List Byte) (f : TrackFields) (kind : TrackKind) (h : HeadId) (s : State) (st : Store),
    trackFields payload = some f → f.head = h.val → trackKindOf f.kind = some kind → 64 ≤ f.n → f.n ≤ 16384 →
    s.fitted h = true → s.canHand ⟨0x10, tag, payload⟩ = true → s.active h = none →
    (∀ (k : Nat) (pages : List Nat) (free : FreePages),
      (∀ d ∈ s.store.queues.get h, d.number ≠ f.number) → f.offset = 0 →
      f.tones.length ≤ (if kind = .data then f.n else 0) → k = (if kind = .data then ceilDiv f.n 1024 else 0) →
      (s.store.queues.get h).length < 1024 → (kind = .data → f.tones.length < f.n →
        ((s.store.queues.get h).filter fun d => !d.complete).length < 2) →
      1 ≤ s.store.freeDescriptors → k ≤ s.store.free.count → (pages, free) = s.store.free.take k →
      st = { s.store with
        dram := storeTones pages 0 f.tones s.store.dram
        free := free
        freeDescriptors := s.store.freeDescriptors - 1
        queues := s.store.queues.set h (((s.store.queues.get h).takeWhile fun d => d.number < f.number) ++
          ⟨f.number, kind, f.n, f.tones.length, pages⟩ ::
            (s.store.queues.get h).dropWhile fun d => d.number < f.number)
        starved := s.store.starved.set h false } →
      exec (.track tag payload) s = .next { s with
        store := st
        link := s.answered 0x10 tag ⟨.ok, none, st.countBytes h ++ descriptorBytes (st.find h f.number)⟩ }) ∧
    ∀ d : Descriptor, s.store.find h f.number = some d → d.complete = false → d.kind = kind → d.n = f.n →
      d.received = f.offset → f.offset + f.tones.length ≤ f.n →
      st = { s.store with
        dram := storeTones d.pages f.offset f.tones s.store.dram
        queues := s.store.queues.set h ((s.store.queues.get h).map fun e =>
          if e.number = f.number then { e with received := e.received + f.tones.length } else e)
        starved := if f.offset + f.tones.length = f.n then s.store.starved.set h false else s.store.starved } →
      exec (.track tag payload) s = .next { s with
        store := st
        link := s.answered 0x10 tag ⟨.ok, none, st.countBytes h ++ descriptorBytes (st.find h f.number)⟩ }

/-- Storing bytes from an offset of a track whose pages are distinct changes exactly those tones of the track:
tone j is the byte stored there, and every other tone of the track and every address outside the track's pages
reads as before. -/
def Obligations.TonesReadBack : Prop :=
  ∀ (m : Memory) (pages : List Nat) (off n : Nat) (bs : List Byte), pages.Nodup →
    off + bs.length ≤ 1024 * pages.length → n ≤ 1024 * pages.length →
    (∀ j < n, (readTones (storeTones pages off bs m) pages n).getD j 0 =
      if off ≤ j ∧ j < off + bs.length then bs.getD (j - off) 0 else (readTones m pages n).getD j 0) ∧
    ∀ a, a / 1024 ∉ pages → Memory.read (storeTones pages off bs m) a = Memory.read m a

/-- A head above 3 is BAD_FIELD, an unfitted head NOT_FITTED, and for a fitted head another kind or an N outside
64 to 16,384 BAD_FIELD. For a fitted head and a valid kind and N: a chunk for a COMPLETE track is DUPLICATE. For
a FILLING one, another kind or N is MISMATCH, then another offset ORDER, then too many bytes BAD_LENGTH. For a
number not in the queue, an offset that is not 0 is STALE below the active band's next expected track and ORDER
otherwise; an opening is STALE below it, then BAD_LENGTH for too many bytes, QUEUE_LIMIT at 1,024, FILLING_LIMIT
for a third FILLING track, and STORE_FULL without a descriptor or the pages. The layout of the reply is the
model's choice (notes/assumptions/17.md, notes/assumptions/18.md). -/
def Obligations.TrackRefusalsInOrder : Prop :=
  (∀ (f : TrackFields) (s : State), 3 < f.head → takeTrack f s = (s, ⟨.badField, none, []⟩)) ∧
    (∀ (f : TrackFields) (h : HeadId) (s : State), f.head = h.val →
      (s.fitted h = false → takeTrack f s = (s, ⟨.refused, some .notFitted, []⟩)) ∧
      (s.fitted h = true → (2 < f.kind ∨ f.n < 64 ∨ 16384 < f.n) →
        takeTrack f s = (s, ⟨.badField, none, trackContent h f.number s⟩))) ∧
    ∀ (f : TrackFields) (kind : TrackKind) (h : HeadId) (s : State) (behind : Bool), f.head = h.val →
    trackKindOf f.kind = some kind → 64 ≤ f.n → f.n ≤ 16384 → s.fitted h = true →
    behind = ((s.active h).any fun b => f.number < b.next) →
    (∀ d, s.store.find h f.number = some d → d.complete = true →
      takeTrack f s = (s, ⟨.refused, some .duplicate, trackContent h f.number s⟩)) ∧
    (∀ d, s.store.find h f.number = some d → d.complete = false →
      ((d.kind ≠ kind ∨ d.n ≠ f.n) →
        takeTrack f s = (s, ⟨.refused, some .mismatch, trackContent h f.number s⟩)) ∧
      (d.kind = kind → d.n = f.n → d.received ≠ f.offset →
        takeTrack f s = (s, ⟨.refused, some .order, trackContent h f.number s⟩)) ∧
      (d.kind = kind → d.n = f.n → d.received = f.offset → f.n < f.offset + f.tones.length →
        takeTrack f s = (s, ⟨.badLength, none, trackContent h f.number s⟩))) ∧
    (s.store.find h f.number = none →
      (f.offset ≠ 0 →
        takeTrack f s = (s, ⟨.refused, some (if behind then .stale else .order), trackContent h f.number s⟩)) ∧
      (f.offset = 0 → behind = true →
        takeTrack f s = (s, ⟨.refused, some .stale, trackContent h f.number s⟩)) ∧
      (f.offset = 0 → behind = false → (if kind = .data then f.n else 0) < f.tones.length →
        takeTrack f s = (s, ⟨.badLength, none, trackContent h f.number s⟩)) ∧
      (f.offset = 0 → behind = false → f.tones.length ≤ (if kind = .data then f.n else 0) →
        (1024 ≤ (s.store.queues.get h).length →
          takeTrack f s = (s, ⟨.refused, some .queueLimit, trackContent h f.number s⟩)) ∧
        ((s.store.queues.get h).length < 1024 → kind = .data → f.tones.length < f.n →
          2 ≤ fillingCount (s.store.queues.get h) →
          takeTrack f s = (s, ⟨.refused, some .fillingLimit, trackContent h f.number s⟩)) ∧
        ((s.store.queues.get h).length < 1024 →
          (kind = .data → f.tones.length < f.n → fillingCount (s.store.queues.get h) < 2) →
          (s.store.freeDescriptors = 0 ∨ (kind = .data ∧ s.store.free.count < ceilDiv f.n 1024)) →
          takeTrack f s = (s, ⟨.refused, some .storeFull, trackContent h f.number s⟩))))

/-- With no band active on the fitted head, DROP_TRACKS removes the descriptors numbered from the first to the
last number (the first alone when it lies above the last), whose pages join the tail of the free-page list in
queue order, and answers OK with how many it removed and the counts. With a STORE band in CUTTING or SUSPENDED
whose STANDBY is not EMPTY it does the same, and the starvation state is evaluated after it: with L tracks in
unbroken sequence from the next expected one in the STANDBY or COMPLETE in the queue, the head is STARVED when L
lies below the smaller of LEAD_MARK and the tracks still to come, and FED otherwise, and a head that was FED and
is now STARVED posts its STARVING entry once. STORE_CLEAR with no band held makes every queue empty, every page
and descriptor free and every head FED, and answers 65,536 and 4,096; with a band held it is BUSY. That the
reply precedes the look is the model's choice (notes/assumptions/17.md). -/
def Obligations.DropAndClear : Prop :=
  (∀ (tag : Byte) (payload : List Byte) (f : DropFields) (h : HeadId) (s : State) (gone : List Descriptor)
        (st : Store),
      dropFields payload = some f → f.head = h.val → s.fitted h = true → s.canHand ⟨0x11, tag, payload⟩ = true →
      s.active h = none →
      gone = ((s.store.queues.get h).filter fun d => f.first ≤ d.number ∧ d.number ≤ max f.first f.last) →
      st = { s.store with
        free := ⟨s.store.free.fresh, s.store.free.freed ++ gone.flatMap Descriptor.pages⟩
        freeDescriptors := s.store.freeDescriptors + gone.length
        queues := s.store.queues.set h ((s.store.queues.get h).filter fun d =>
          d.number < f.first ∨ max f.first f.last < d.number)
        starved := if gone = [] then s.store.starved else s.store.starved.set h false } →
      exec (.dropTracks tag payload) s = .next { s with
        store := st
        link := s.answered 0x11 tag ⟨.ok, none, u16 gone.length ++ st.countBytes h⟩ }) ∧
    (∀ (tag : Byte) (payload : List Byte) (f : DropFields) (h : HeadId) (b : Band) (s : State) (gone : List Descriptor)
        (st : Store) (lead mark toCome : Nat) (low : Bool),
      dropFields payload = some f → f.head = h.val → s.fitted h = true → s.canHand ⟨0x11, tag, payload⟩ = true →
      s.active h = some b → b.source = .store → (b.phase = .cutting ∨ b.phase = .suspended) →
      (s.buffers.get h).standby.held ≠ .empty →
      gone = ((s.store.queues.get h).filter fun d => f.first ≤ d.number ∧ d.number ≤ max f.first f.last) →
      gone ≠ [] → mark = (s.heads.get h).settings.leadMark → toCome = b.first + b.count - 1 + 1 - b.next →
      st = { s.store with
        free := ⟨s.store.free.fresh, s.store.free.freed ++ gone.flatMap Descriptor.pages⟩
        freeDescriptors := s.store.freeDescriptors + gone.length
        queues := s.store.queues.set h ((s.store.queues.get h).filter fun d =>
          d.number < f.first ∨ max f.first f.last < d.number)
        starved := s.store.starved.set h low } →
      lead ≤ toCome → (∀ i < lead, ({ s with store := st } : State).counts h (b.next + i) = true) →
      (lead < toCome → ({ s with store := st } : State).counts h (b.next + lead) = false) →
      low = decide (lead < min mark toCome) →
      exec (.dropTracks tag payload) s = .next { s with
        store := st
        link := (if low = true ∧ s.store.starved.get h = false
          then s.post (.starving h) (.starving b.tag b.phase b.next lead mark s.timestamp) else s).answered 0x11 tag
            ⟨.ok, none, u16 gone.length ++ st.countBytes h⟩ }) ∧
    (∀ (tag : Byte) (s : State), s.canHand ⟨0x12, tag, []⟩ = true → (∀ h, s.held h = []) →
      exec (.storeClear tag []) s = .next { s with
        store := { s.store with
          free := ⟨0, []⟩
          freeDescriptors := 4096
          queues := ⟨[], [], [], []⟩
          starved := ⟨false, false, false, false⟩ }
        link := s.answered 0x12 tag ⟨.ok, none, u32 65536 ++ u16 4096⟩ }) ∧
    ∀ (tag : Byte) (s : State), s.canHand ⟨0x12, tag, []⟩ = true → (∃ h, s.held h ≠ []) →
      exec (.storeClear tag []) s = .next { s with link := s.answered 0x12 tag ⟨.busy, none, []⟩ }

/-- A TRACK opens, complete, the next track to load of a STORE band whose STANDBY is EMPTY, behind a queue of
older tracks alone; for a DATA track the port is free and no other head asks for it. The older tracks are
discarded as stale and counted in the band, their pages given back in queue order and their descriptors
returned; the new descriptor leaves the queue too. With the N of the head's placement context: a DATA track
starts its copy, which ends ceil(N / 256) µs later, and the STANDBY is LOADING; a BLANK one loads the STANDBY at
once; a REPEAT one loads it with the tones of a LOADED ACTIVE buffer that is not BLANK, and without such a
source loads it as BLANK and is counted in the band. With another N, and no band pending, no copy begins, its
pages are given back, and the band ends ABORTED TRACK_LENGTH as R140 states, with its head FED. That starvation
is evaluated only after the refused grant's band has left, and the segment in which a SINE retract ramp opens,
are the model's choices (notes/assumptions/32.md, notes/assumptions/33.md). -/
def Obligations.WantedTrackIsGranted : Prop :=
  ∀ (tag : Byte) (payload : List Byte) (f : TrackFields) (kind : TrackKind) (h : HeadId) (b c : Band) (s : State)
      (old : List Descriptor) (pages : List Nat) (free : FreePages),
    trackFields payload = some f → f.head = h.val → trackKindOf f.kind = some kind → f.offset = 0 →
    64 ≤ f.n → f.n ≤ 16384 → f.tones.length = (if kind = .data then f.n else 0) → s.fitted h = true →
    s.canHand ⟨0x10, tag, payload⟩ = true → s.store.queues.get h = old → old.length < 1024 →
    (∀ d ∈ old, d.number < f.number) → 1 ≤ s.store.freeDescriptors →
    (kind = .data → ceilDiv f.n 1024 ≤ s.store.free.count) →
    (pages, free) = s.store.free.take (if kind = .data then ceilDiv f.n 1024 else 0) →
    s.active h = some b → b.source = .store → b.phase ≠ .pending → b.next ≤ f.number →
    (s.buffers.get h).standby.held = .empty → nextToLoad (s.buffers.get h) b.first = f.number →
    f.number ≤ b.last → (kind = .data → s.fetch.copy = none ∧ ∀ g, g ≠ h → s.asking g = none) →
    c = (if old = [] then b else { b with stale := min 4294967295 (b.stale + old.length) }) →
    ∃ t, exec (.track tag payload) s = .next t ∧ t.store.queues.get h = [] ∧
      t.store.freeDescriptors = s.store.freeDescriptors + old.length ∧
      (s.contextN h = f.n →
        t.store.free.toList = free.toList ++ old.flatMap Descriptor.pages ∧
        (t.buffers.get h).active = (s.buffers.get h).active ∧
        (kind = .data → t.active h = some c ∧
          t.fetch = { s.fetch with
            copy := some ⟨h, f.number, f.n, pages, s.timestamp, s.clock + ceilDiv f.n 256⟩ } ∧
          (t.buffers.get h).standby.held = .loading ⟨f.number, .data, f.n⟩ ∧
          t.store.dram = storeTones pages 0 f.tones s.store.dram) ∧
        (kind = .blank → t.active h = some c ∧ t.fetch = s.fetch ∧
          (t.buffers.get h).standby.held = .loaded ⟨f.number, .blank, f.n⟩) ∧
        (kind = .again →
          (∀ tr, (s.buffers.get h).active.held = .loaded tr → tr.kind ≠ .blank →
            t.active h = some c ∧ t.fetch = s.fetch ∧
            (t.buffers.get h).standby.held = .loaded ⟨f.number, .again, f.n⟩ ∧
            ∀ i < f.n, Memory.read (t.buffers.get h).standby.tones i =
              Memory.read (s.buffers.get h).active.tones i) ∧
          ((∀ tr, (s.buffers.get h).active.held = .loaded tr → tr.kind = .blank) →
            t.active h = some { c with sourceless := min 4294967295 (c.sourceless + 1) } ∧ t.fetch = s.fetch ∧
            (t.buffers.get h).standby.held = .loaded ⟨f.number, .blank, f.n⟩))) ∧
      (s.contextN h ≠ f.n → (s.bands.get h).waiting = none →
        t.store.free.toList = free.toList ++ old.flatMap Descriptor.pages ++ pages ∧ t.fetch = s.fetch ∧
        t.store.starved.get h = false ∧ s.endsBand t h c .aborted .trackLength false)

/-- With the port FREE, the chosen head asks for it, and every other asking head has a lower relative count, or
the same one and a higher number; when none is chosen, no head asks. The chosen head's copy starts when its
track has the N of its placement context. -/
def Obligations.ArbiterGrantsNearest : Prop :=
  ∀ s : State,
    (∀ h, s.arbiterChoice = some h → (s.asking h).isSome = true ∧ ∀ g, g ≠ h → (s.asking g).isSome = true →
      s.relCount g < s.relCount h ∨ (s.relCount g = s.relCount h ∧ h < g)) ∧
    (s.arbiterChoice = none → ∀ g, s.asking g = none) ∧
    ∀ (h : HeadId) (d : Descriptor), s.fetch.copy = none → s.arbiterChoice = some h → s.asking h = some d →
      d.n = s.contextN h →
      s.arbitrate.fetch.copy = some ⟨h, d.number, d.n, d.pages, s.timestamp, s.clock + ceilDiv d.n 256⟩ ∧
      (s.arbitrate.buffers.get h).standby.held = .loading ⟨d.number, .data, d.n⟩ ∧
      s.arbitrate.store.queues.get h = (s.store.queues.get h).tail

/-- COPY_COMPLETE, with no band active on any other head, loads the STANDBY of the copy's head with tones 0 to N
− 1 of its pages, gives the pages back to the tail of the free-page list, frees the port, and leaves the ACTIVE
buffer, the other heads' buffers and all bands as they were. PATCH_FILL_COMPLETE loads the STANDBY with the
record's runs repeated over the N cells: cell i takes the tone of the pair into which i falls in the cycle.
Without a copy or fill in flight neither changes anything. That the event brings its due time, and the tones
enter then, is the model's choice (notes/assumptions/4.md, notes/assumptions/9.md). -/
def Obligations.CopyAndFillComplete : Prop :=
  (∀ (c : Copy) (s : State), s.fetch.copy = some c → c.n ≤ 1024 * c.pages.length →
      (∀ g, g ≠ c.head → s.active g = none) →
      ∃ t, exec .copyComplete s = .next t ∧ t.fetch = { s.fetch with copy := none } ∧
        t.store.free.toList = s.store.free.toList ++ c.pages ∧ t.store.queues = s.store.queues ∧
        (t.buffers.get c.head).standby.held = .loaded ⟨c.track, .data, c.n⟩ ∧
        (∀ i, Memory.read (t.buffers.get c.head).standby.tones i =
          if i < c.n then (readTones s.store.dram c.pages c.n).getD i 0
          else Memory.read (s.buffers.get c.head).standby.tones i) ∧
        (t.buffers.get c.head).active = (s.buffers.get c.head).active ∧
        (∀ g, g ≠ c.head → t.buffers.get g = s.buffers.get g) ∧ t.bands = s.bands ∧
        t.heads = (s.reach c.done).heads ∧ t.axes = s.axes ∧ t.clock = max s.clock c.done) ∧
    (∀ (h : HeadId) (done n m : Nat) (s : State), s.fetch.fills.get h = some done →
      (s.buffers.get h).standby.held = .loading ⟨m, .patch, n⟩ → (∀ b, s.active h = some b → b.source = .patch) →
      exec (.patchFillComplete h) s = .next { s.reach done with
        fetch := { s.fetch with fills := s.fetch.fills.set h none }
        buffers := s.buffers.set h ((s.buffers.get h).setStandby
          ⟨.loaded ⟨m, .patch, n⟩,
            Memory.writeRun (s.buffers.get h).standby.tones 0 (patchTones (s.patches.get h) n)⟩)
        store := { s.store with starved := s.store.starved.set h false }
        link := (s.reach done).link.choose }) ∧
    (∀ (pairs : List PatchPair) (n i : Nat), i < n →
      (patchTones pairs n).getD i 0 = patchToneAt pairs (i % (pairs.map PatchPair.run).sum)) ∧
    (∀ (before after : List PatchPair) (p : PatchPair) (r : Nat), r < p.run →
      patchToneAt (before ++ p :: after) ((before.map PatchPair.run).sum + r) = p.tone) ∧
    (∀ s : State, s.fetch.copy = none → exec .copyComplete s = .next { s with link := s.link.choose }) ∧
    ∀ (h : HeadId) (s : State), s.fetch.fills.get h = none →
      exec (.patchFillComplete h) s = .next { s with link := s.link.choose }

/-- For a fitted head with no band held and PARKED, a SET_HEAD with a shape of LINEAR or SINE stores every
setting saturated to its range, RS 0 as 1, FMAX and DC not below FMIN and DF, and answers with the settings as
they then stand, CLAMPED when a value was saturated. The start angle that acts is unchanged until the next
count. A head that holds a band or is not PARKED is BUSY, and another shape BAD_FIELD, without a change. -/
def Obligations.SetHeadWritten : Prop :=
  ∀ (tag : Byte) (payload : List Byte) (f : HeadFields) (h : HeadId) (s : State), headFields payload = some f →
    f.head = h.val → s.fitted h = true → s.canHand ⟨0x02, tag, payload⟩ = true →
    (∀ (shape : Shape) (c : HeadSettings), s.held h = [] → (s.heads.get h).state = .parked →
      shapeOf f.shape = some shape →
      c = {
        level := max 1 (min 4095 f.level), rampStep := max 1 (min 255 f.rampStep), rampCode := min 7 f.rampCode
        shape := shape, settle := min 255 f.settle, dwell := min 255 f.dwell
        fmin := max 500 (min 20000 f.fmin)
        fmax := max (max 500 (min 20000 f.fmin)) (max 500 (min 20000 f.fmax))
        suspendLimit := max 1 (min 255 f.suspendLimit), leadMark := min 255 f.leadMark, startAngle := f.startAngle
        calibration := {
          gain := max (-4096) (min 4095 f.gain), offset := max (-512) (min 511 f.offset)
          floor := max 1 (min 4095 f.floor)
          ceiling := max (max 1 (min 4095 f.floor)) (min 4095 f.ceiling) } } →
      exec (.setHead tag payload) s = .next { s with
        heads := s.heads.set h { s.heads.get h with settings := c }
        link := s.answered 0x02 tag ⟨if f.level = 0 ∨ 4095 < f.level ∨ 255 < f.rampStep ∨ 7 < f.rampCode ∨
            255 < f.settle ∨ 255 < f.dwell ∨ f.fmin < 500 ∨ 20000 < f.fmin ∨ f.fmax < 500 ∨ 20000 < f.fmax ∨
            f.fmax < f.fmin ∨ f.suspendLimit = 0 ∨ 255 < f.suspendLimit ∨ 255 < f.leadMark ∨ f.gain < -4096 ∨
            4095 < f.gain ∨ f.offset < -512 ∨ 511 < f.offset ∨ f.floor = 0 ∨ 4095 < f.floor ∨ 4095 < f.ceiling ∨
            f.ceiling < f.floor then .clamped else .ok, none, headSettingsBytes c⟩ }) ∧
    ((s.held h ≠ [] ∨ (s.heads.get h).state ≠ .parked) →
      exec (.setHead tag payload) s = .next { s with
        link := s.answered 0x02 tag ⟨.busy, none, headSettingsBytes (s.heads.get h).settings⟩ }) ∧
    (s.held h = [] → (s.heads.get h).state = .parked → 1 < f.shape →
      exec (.setHead tag payload) s = .next { s with
        link := s.answered 0x02 tag ⟨.badField, none, headSettingsBytes (s.heads.get h).settings⟩ })

/-- Asked of a head, fitted or not, the monitor names the lowest slot whose alarm latch is set, whose action is
RETRACT or RETRACT_FAST and whose mask names the head, or answers that there is none; the question changes no
slot record. A HEAD_CLEAR for a fitted head is refused STILL_ACTIVE with that slot's number, and otherwise
clears the head's inhibit latch and is answered OK; nothing else changes. -/
def Obligations.HeadClearAsksTheMonitor : Prop :=
  (∀ (m : Monitor) (h : HeadId),
      (∀ i, m.holding h = some i ↔
        (m.slots.get i).pullsBack h ∧ ∀ j, j < i → ¬(m.slots.get j).pullsBack h) ∧
      (m.holding h = none ↔ ∀ i, ¬(m.slots.get i).pullsBack h)) ∧
    ∀ (tag : Byte) (h : HeadId) (s : State), s.fitted h = true → s.canHand ⟨0x29, tag, u8 h.val⟩ = true →
      (∀ i, s.monitor.holding h = some i →
        exec (.headClear tag (u8 h.val)) s = .next { s with
          link := s.answered 0x29 tag ⟨.refused, some .stillActive, u8 i.val⟩ }) ∧
      (s.monitor.holding h = none →
        exec (.headClear tag (u8 h.val)) s = .next { s with
          heads := s.heads.set h { s.heads.get h with inhibit := false }
          link := s.answered 0x29 tag ⟨.ok, none, []⟩ })

/-- RAMP_UPDATE brings the ramp's update time. L moves by at most RS toward the target of a LINEAR ramp, or of a
SINE ramp's present segment; short of the ramp's target the next update is 100 × 2^RC µs later, and a reached
segment gives way to the next one that holds movement. At the target an engage ramp ends in SETTLING with the
settle timer loaded, or with settle 0 in READY, which takes an ENGAGING band to WAIT_SYNC; a retract ramp ends
in PARKED, and under a POSITIONING band whose axis is not yet at the band's start the position order follows in
the same step: the axis starts its move from its position to the start at RATE. From L to a target takes
ceil(|Δ| / RS) linear updates. That the event brings its due time, and that the direction output is set as the
move starts, are the model's choices (notes/assumptions/4.md, notes/assumptions/30.md). -/
def Obligations.RampUpdateMovesTheLevel : Prop :=
  (∀ (h : HeadId) (r : Ramp) (s t : State) (x : Head) (goal level : Nat), (s.heads.get h).ramp = some r →
      t = s.reach r.next → x = t.heads.get h →
      goal = (match r.segment with | some g => g.target | none => r.target) →
      level = (if x.level ≤ goal then x.level + min x.settings.rampStep (goal - x.level)
        else x.level - min x.settings.rampStep (x.level - goal)) →
      (level ≠ r.target → (r.segment = none ∨ level ≠ goal) →
        exec (.rampUpdate h) s = .next { t with
          heads := t.heads.set h { x with
            level := level, ramp := some { r with next := r.next + 100 * 2 ^ x.settings.rampCode } }
          link := t.link.choose }) ∧
      (∀ g : Segment, level ≠ r.target → r.segment = some g → level = goal →
        ∃ y : Segment, g.number < y.number ∧
          y.target = (r.start + (r.delta * (sineList.getD y.number 256 : Nat)).tdiv 256).toNat ∧
          (y.target ≠ level ∨ 16 ≤ y.number) ∧
          (∀ i, g.number < i → i < y.number →
            (r.start + (r.delta * (sineList.getD i 256 : Nat)).tdiv 256).toNat = level) ∧
          exec (.rampUpdate h) s = .next { t with
            heads := t.heads.set h { x with
              level := level
              ramp := some { r with segment := some y, next := r.next + 100 * 2 ^ x.settings.rampCode } }
            link := t.link.choose }) ∧
      (level = r.target → x.state = .engaging → x.settings.settle ≠ 0 →
        exec (.rampUpdate h) s = .next { t with
          heads := t.heads.set h { x with
            level := level, state := .settling, ramp := none, settleTimer := some (x.settings.settle * 1000) }
          link := t.link.choose }) ∧
      (∀ b : Band, level = r.target → x.state = .engaging → x.settings.settle = 0 → s.active h = some b →
        b.phase = .engaging →
        exec (.rampUpdate h) s = .next { t with
          heads := t.heads.set h { x with level := level, state := .ready, ramp := none }
          bands := t.bands.set h { t.bands.get h with active := some { b with phase := .waitSync } }
          link := t.link.choose }) ∧
      (level = r.target → x.state = .retracting → (∀ b, s.active h = some b → b.phase ≠ .positioning) →
        exec (.rampUpdate h) s = .next { t with
          heads := t.heads.set h { x with level := level, state := .parked, ramp := none }
          link := t.link.choose }) ∧
      (∀ (b : Band) (f : FeedContext) (a : Axis) (p : Nat), level = r.target → x.state = .retracting →
        s.active h = some b → b.phase = .positioning → a = s.axes.get h → a.feed = some f →
        f.stage = .positioning → p = a.position.getD 0 → p ≠ f.start →
        exec (.rampUpdate h) s = .next { t with
          heads := t.heads.set h { x with level := level, state := .parked, ramp := none }
          axes := t.axes.set h { a with
            outputs := { a.outputs with up := decide (p < f.start) }
            move := some ⟨decide (p < f.start), 0, (f.start - p) + (p - f.start), t.clock, 1000000, a.settings.rate⟩ }
          link := t.link.choose })) ∧
    (∀ level target step : Nat, 0 < step → ∀ k : Nat,
      (fun l => approach l target step)^[k] level = target ↔
        ceilDiv ((level - target) + (target - level)) step ≤ k) ∧
    ∀ (h : HeadId) (s : State), (s.heads.get h).ramp = none →
      exec (.rampUpdate h) s = .next { s with link := s.link.choose }

/-- SETTLE_EXPIRY in SETTLING brings the time left and makes the head READY: an ENGAGING band passes to
WAIT_SYNC, and with no band active and a dwell that is not 0 the dwell timer is loaded with dwell × 10,000 µs.
DWELL_EXPIRY with the head READY and no band active brings the time left and starts a retract ramp from L to 0.
An expiry whose timer does not run changes nothing. That the event brings its due time is the model's choice
(notes/assumptions/4.md). -/
def Obligations.SettleAndDwellExpire : Prop :=
  ∀ (h : HeadId) (s : State),
    (∀ (n : Nat) (t : State) (x : Head), (s.heads.get h).state = .settling → (s.heads.get h).settleTimer = some n →
      t = s.elapse n → x = t.heads.get h →
      (∀ b, s.active h = some b → b.phase = .engaging →
        exec (.settleExpiry h) s = .next { t with
          heads := t.heads.set h { x with state := .ready, settleTimer := none }
          bands := t.bands.set h { t.bands.get h with active := some { b with phase := .waitSync } }
          link := t.link.choose }) ∧
      (s.active h = none → x.dwellTimer = none → x.settings.dwell ≠ 0 →
        exec (.settleExpiry h) s = .next { t with
          heads := t.heads.set h { x with
            state := .ready, settleTimer := none, dwellTimer := some (x.settings.dwell * 10000) }
          link := t.link.choose })) ∧
    (∀ (n : Nat) (t : State) (x : Head), (s.heads.get h).state = .ready → s.active h = none →
      (s.heads.get h).dwellTimer = some n → t = s.elapse n → x = t.heads.get h → x.level ≠ 0 →
      ∃ segment : Option Segment, (segment = none ↔ x.settings.shape = .linear) ∧
        exec (.dwellExpiry h) s = .next { t with
          heads := t.heads.set h { x with
            state := .retracting
            dwellTimer := none
            ramp := some {
              shape := x.settings.shape, start := x.level, target := 0, delta := -(x.level : Int)
              segment := segment, next := t.clock + 100 * 2 ^ x.settings.rampCode } }
          link := t.link.choose }) ∧
    ((s.heads.get h).state ≠ .settling → exec (.settleExpiry h) s = .next { s with link := s.link.choose }) ∧
    ((s.heads.get h).state ≠ .ready → exec (.dwellExpiry h) s = .next { s with link := s.link.choose })

/-- For a fitted axis that is UNHOMED, or IDLE with its head PARKED, no band held, its position within the new
MAXPOS and its span clear under the new ORIGIN, the four settings are stored saturated; CLAMPED tells of a
saturated value. Another state, a head not PARKED or a held band is BUSY; an IDLE axis out of range is RANGE,
and not clear COLLISION; nothing then changes. -/
def Obligations.SetAxisWritten : Prop :=
  ∀ (tag : Byte) (payload : List Byte) (f : AxisFields) (k : HeadId) (a : Axis) (c : AxisSettings) (s : State),
    axisFields payload = some f → f.axis = k.val → s.fitted k = true → s.canHand ⟨0x03, tag, payload⟩ = true →
    a = s.axes.get k →
    c = ⟨min 4000000 f.origin, max 1 (min 4000000 f.maxpos), max 1 (min 8000000 f.homeSpan),
      max 100 (min 200000 f.rate)⟩ →
    ((a.state = .unhomed ∨ (a.state = .idle ∧ (s.heads.get k).state = .parked ∧ s.held k = [] ∧
        a.position.getD 0 ≤ c.maxpos ∧
        s.clearOf k (c.origin + a.position.getD 0, c.origin + a.position.getD 0) = true)) →
      exec (.setAxis tag payload) s = .next { s with
        axes := s.axes.set k { a with settings := c }
        link := s.answered 0x03 tag ⟨if 4000000 < f.origin ∨ f.maxpos = 0 ∨ 4000000 < f.maxpos ∨ f.homeSpan = 0 ∨
          8000000 < f.homeSpan ∨ f.rate < 100 ∨ 200000 < f.rate then .clamped else .ok, none,
          u32 c.origin ++ u32 c.maxpos ++ u32 c.homeSpan ++ u32 c.rate⟩ }) ∧
    ((a.state = .homing ∨ a.state = .seeking ∨ a.state = .feeding ∨
        (a.state = .idle ∧ ((s.heads.get k).state ≠ .parked ∨ s.held k ≠ []))) →
      exec (.setAxis tag payload) s = .next { s with
        link := s.answered 0x03 tag ⟨.busy, none, axisSettingsBytes a.settings⟩ }) ∧
    (a.state = .idle → (s.heads.get k).state = .parked → s.held k = [] →
      (c.maxpos < a.position.getD 0 →
        exec (.setAxis tag payload) s = .next { s with
          link := s.answered 0x03 tag ⟨.refused, some .range, axisSettingsBytes a.settings⟩ }) ∧
      (a.position.getD 0 ≤ c.maxpos →
        s.clearOf k (c.origin + a.position.getD 0, c.origin + a.position.getD 0) = false →
        exec (.setAxis tag payload) s = .next { s with
          link := s.answered 0x03 tag ⟨.refused, some .collision, axisSettingsBytes a.settings⟩ }))

/-- For a fitted axis UNHOMED or IDLE with no band held, the machine ready, its head PARKED and the space clear,
HOME is answered OK: with the sensor active the axis is IDLE at 0 with no fault and posts HOMED; otherwise it is
HOMING downward at a quarter of RATE with home steps 0; with the limit switch active it is UNHOMED at once with
LIMIT_SWITCH, and posts that. Otherwise the first check that fails refuses HOME without a change, in this order:
BAD_FIELD for an axis above 3, NOT_FITTED, BUSY in HOMING and SEEKING, BAND_OWNED in FEEDING or with a band
held, NOT_READY, HEAD_ENGAGED, and NOT_CLEAR when a fitted axis below is not homed or too near, or the next one
above is too near. A home sensor that becomes active in HOMING homes the axis and posts HOMED; in another state,
or becoming inactive, it sets the input alone. That the direction output is set down as HOME is taken, before
any step, is the model's choice (notes/assumptions/30.md), and so is that the sensor command carries a level
(notes/assumptions/7.md). -/
def Obligations.HomeAndHomeSensor : Prop :=
  (∀ (tag : Byte) (k : HeadId) (a : Axis) (known : Option Nat) (s : State), s.canHand ⟨0x23, tag, u8 k.val⟩ = true →
      s.fitted k = true → a = s.axes.get k → (a.state = .unhomed ∨ a.state = .idle) → s.held k = [] →
      s.ctu.ready = true → (s.heads.get k).state = .parked →
      (∀ j, j < k → s.fitted j = true → (s.axes.get j).homed = true ∧
        ∀ x, s.span j = some x → x.2 + s.machine.minsep ≤ a.settings.origin) →
      (∀ x, s.spanAt s.ctu.acting.fitted (k.val + 1) = some x → a.settings.origin + s.machine.minsep ≤ x.1) →
      known = (if a.state = .idle then a.position else a.lastKnown) →
      (s.pins.homeSensor.get k = true →
        exec (.home tag (u8 k.val)) s = .next { s with
          axes := s.axes.set k { a with
            state := .idle, position := some 0, lastKnown := known, target := none, move := none
            homeSteps := none, lastFault := .none }
          link := (s.post (.axis k) (.axis .homed .idle .none (some 0) s.timestamp)).answered 0x23 tag
            ⟨.ok, none, []⟩ }) ∧
      (s.pins.homeSensor.get k = false → s.pins.limitSwitch.get k = false →
        exec (.home tag (u8 k.val)) s = .next { s with
          axes := s.axes.set k { a with
            state := .homing, position := none, lastKnown := known, target := none
            move := some ⟨false, 0, a.settings.homeSpan, s.clock, 4000000, a.settings.rate⟩
            outputs := { a.outputs with up := false }
            homeSteps := some 0 }
          link := s.answered 0x23 tag ⟨.ok, none, []⟩ }) ∧
      (s.pins.homeSensor.get k = false → s.pins.limitSwitch.get k = true →
        exec (.home tag (u8 k.val)) s = .next { s with
          axes := s.axes.set k { a with
            state := .unhomed, position := none, lastKnown := known, target := none, move := none
            outputs := { a.outputs with up := false }
            homeSteps := none, lastFault := .limitSwitch, feed := none }
          link := (s.post (.axis k) (.axis .limitSwitch .unhomed .limitSwitch known s.timestamp)).answered 0x23 tag
            ⟨.ok, none, []⟩ })) ∧
    (∀ (tag : Byte) (n : Nat) (s : State), 3 < n → n < 256 → s.canHand ⟨0x23, tag, u8 n⟩ = true →
      s.onlyAnswers (.home tag (u8 n)) 0x23 tag ⟨.badField, none, []⟩) ∧
    (∀ (tag : Byte) (k : HeadId) (a : Axis) (s : State), s.canHand ⟨0x23, tag, u8 k.val⟩ = true → a = s.axes.get k →
      ∀ refused : Response → Prop, refused = s.onlyAnswers (.home tag (u8 k.val)) 0x23 tag →
      (s.fitted k = false → refused ⟨.refused, some .notFitted, []⟩) ∧
      (s.fitted k = true →
        ((a.state = .homing ∨ a.state = .seeking) → refused ⟨.busy, none, []⟩) ∧
        (a.state ≠ .homing → a.state ≠ .seeking →
          ((a.state = .feeding ∨ s.held k ≠ []) → refused ⟨.refused, some .bandOwned, []⟩) ∧
          (a.state ≠ .feeding → s.held k = [] →
            (s.ctu.ready = false → refused ⟨.refused, some .notReady, []⟩) ∧
            (s.ctu.ready = true →
              ((s.heads.get k).state ≠ .parked → refused ⟨.refused, some .headEngaged, []⟩) ∧
              ((s.heads.get k).state = .parked →
                ((∃ j, j < k ∧ s.fitted j = true ∧ ((s.axes.get j).homed = false ∨
                    ∃ x, s.span j = some x ∧ a.settings.origin < x.2 + s.machine.minsep)) ∨
                  ∃ x, s.spanAt s.ctu.acting.fitted (k.val + 1) = some x ∧
                    x.1 < a.settings.origin + s.machine.minsep) →
                refused ⟨.refused, some .notClear, []⟩)))))) ∧
    ∀ (k : HeadId) (level : Bool) (s : State),
      ((level = false ∨ (s.axes.get k).state ≠ .homing) →
        exec (.homeSensorActive k level) s = .next { s with
          pins := { s.pins with homeSensor := s.pins.homeSensor.set k level }
          link := s.link.choose }) ∧
      (level = true → (s.axes.get k).state = .homing →
        exec (.homeSensorActive k level) s = .next { s with
          pins := { s.pins with homeSensor := s.pins.homeSensor.set k true }
          axes := s.axes.set k { s.axes.get k with
            state := .idle, position := some 0, target := none, move := none, homeSteps := none
            lastFault := .none }
          link := (s.link.post (.axis k) (.axis .homed .idle .none (some 0) s.timestamp)).choose })

/-- With the machine ready, every fitted axis homed, no band held or owning the axis, its head PARKED and the
range from position to target clear, SEEK with the target clamped to 0..MAXPOS is answered with it, CLAMPED when
it was outside: at the target the axis is IDLE and posts ARRIVED; away from it, with the limit switch inactive,
it is SEEKING at RATE, with the direction output set for the move; away from it, with the limit switch already
active, it is UNHOMED at once with LIMIT_SWITCH and its position as the last known one, and posts that.
Otherwise the first check that fails refuses SEEK without a change, with the clamped target, in this order:
NOT_FITTED, NOT_READY, NOT_HOMED unless every fitted axis is homed, BAND_OWNED in FEEDING or with a band held,
HEAD_ENGAGED, and COLLISION when the range is not clear; an axis above 3 is BAD_FIELD. AXIS_HALT leaves a
SEEKING axis IDLE where it stands and a HOMING one UNHOMED with fault NONE; IDLE and UNHOMED are unchanged, and
FEEDING is BAND_OWNED. That the direction output is set as the seek starts, before any step, is the model's
choice (notes/assumptions/30.md), and so are the content of the replies to an axis above 3 and to an unfitted
one (notes/assumptions/17.md). -/
def Obligations.SeekAndHalt : Prop :=
  (∀ (tag : Byte) (payload : List Byte) (f : SeekFields) (k : HeadId) (a : Axis) (target p : Nat) (s : State),
      seekFields payload = some f → f.axis = k.val → s.canHand ⟨0x24, tag, payload⟩ = true → s.fitted k = true →
      s.ctu.ready = true → (∀ j, s.fitted j = true → (s.axes.get j).homed = true) → a = s.axes.get k →
      a.state ≠ .feeding → s.held k = [] → (s.heads.get k).state = .parked → a.position = some p →
      target = (max 0 (min (a.settings.maxpos : Int) f.target)).toNat →
      s.clearOf k (a.settings.origin + min p target, a.settings.origin + max p target) = true →
      (target = p →
        exec (.seek tag payload) s = .next { s with
          axes := s.axes.set k { a with state := .idle, target := none, move := none }
          link := (s.post (.axis k) (.axis .arrived .idle a.lastFault (some p) s.timestamp)).answered 0x24 tag
            ⟨if f.target < 0 ∨ (a.settings.maxpos : Int) < f.target then .clamped else .ok, none, u32 target⟩ }) ∧
      (target ≠ p → s.pins.limitSwitch.get k = false →
        exec (.seek tag payload) s = .next { s with
          axes := s.axes.set k { a with
            state := .seeking, target := some target
            outputs := { a.outputs with up := decide (p ≤ target) }
            move := some ⟨decide (p ≤ target), 0, (target - p) + (p - target), s.clock, 1000000,
              a.settings.rate⟩ }
          link := s.answered 0x24 tag
            ⟨if f.target < 0 ∨ (a.settings.maxpos : Int) < f.target then .clamped else .ok, none, u32 target⟩ }) ∧
      (target ≠ p → s.pins.limitSwitch.get k = true →
        exec (.seek tag payload) s = .next { s with
          axes := s.axes.set k { a with
            state := .unhomed, position := none, lastKnown := some p, target := none, move := none
            outputs := { a.outputs with up := decide (p ≤ target) }
            homeSteps := none, lastFault := .limitSwitch, feed := none }
          link := (s.post (.axis k) (.axis .limitSwitch .unhomed .limitSwitch (some p) s.timestamp)).answered 0x24 tag
            ⟨if f.target < 0 ∨ (a.settings.maxpos : Int) < f.target then .clamped else .ok, none, u32 target⟩ })) ∧
    (∀ (tag : Byte) (payload : List Byte) (f : SeekFields) (s : State), seekFields payload = some f → 3 < f.axis →
      s.canHand ⟨0x24, tag, payload⟩ = true → s.onlyAnswers (.seek tag payload) 0x24 tag ⟨.badField, none, []⟩) ∧
    (∀ (tag : Byte) (payload : List Byte) (f : SeekFields) (k : HeadId) (a : Axis) (target p : Nat) (s : State),
      seekFields payload = some f → f.axis = k.val → s.canHand ⟨0x24, tag, payload⟩ = true → a = s.axes.get k →
      target = (max 0 (min (a.settings.maxpos : Int) f.target)).toNat → p = a.position.getD 0 →
      ∀ refused : Reason → Prop,
      (∀ r, refused r = s.onlyAnswers (.seek tag payload) 0x24 tag ⟨.refused, some r, u32 target⟩) →
      (s.fitted k = false → refused .notFitted) ∧
      (s.fitted k = true →
        (s.ctu.ready = false → refused .notReady) ∧
        (s.ctu.ready = true →
          ((∃ j, s.fitted j = true ∧ (s.axes.get j).homed = false) → refused .notHomed) ∧
          ((∀ j, s.fitted j = true → (s.axes.get j).homed = true) →
            ((a.state = .feeding ∨ s.held k ≠ []) → refused .bandOwned) ∧
            (a.state ≠ .feeding → s.held k = [] →
              ((s.heads.get k).state ≠ .parked → refused .headEngaged) ∧
              ((s.heads.get k).state = .parked →
                s.clearOf k (a.settings.origin + min p target, a.settings.origin + max p target) = false →
                refused .collision)))))) ∧
    ∀ (tag : Byte) (k : HeadId) (a : Axis) (s : State), s.canHand ⟨0x25, tag, u8 k.val⟩ = true →
      s.fitted k = true → a = s.axes.get k →
      (a.state = .seeking →
        exec (.axisHalt tag (u8 k.val)) s = .next { s with
          axes := s.axes.set k { a with state := .idle, target := none, move := none }
          link := s.answered 0x25 tag ⟨.ok, none, []⟩ }) ∧
      (a.state = .homing →
        exec (.axisHalt tag (u8 k.val)) s = .next { s with
          axes := s.axes.set k { a with
            state := .unhomed, position := none, target := none, move := none, homeSteps := none
            lastFault := .none, feed := none }
          link := s.answered 0x25 tag ⟨.ok, none, []⟩ }) ∧
      ((a.state = .idle ∨ a.state = .unhomed) →
        exec (.axisHalt tag (u8 k.val)) s = .next { s with link := s.answered 0x25 tag ⟨.ok, none, []⟩ }) ∧
      (a.state = .feeding →
        exec (.axisHalt tag (u8 k.val)) s =
          .next { s with link := s.answered 0x25 tag ⟨.refused, some .bandOwned, []⟩ })

/-- MOVE_STEP brings step m's time, ceil(m × 1,000,000 / RATE) µs after the start (four times that in homing).
Every step gives one pulse on the step output. A SEEKING or FEEDING axis moves by 1 in the direction of the
move. A seek's last step leaves the axis IDLE and posts ARRIVED; the last step of a stepped pitch returns the
stage to HOLD, and that of a positioning move takes a POSITIONING band to ENGAGING and gives its PARKED head the
engage order: an engage ramp from its level to LE, with the first update one interval later, or SETTLING at LE
already. A homing step adds 1 to the home steps; the HOME_SPAN-th with the sensor inactive leaves the axis
UNHOMED with HOME_NOT_FOUND, which it posts. Without a move nothing changes. That the event brings its due time,
and the segment in which a SINE ramp opens, are the model's choices (notes/assumptions/4.md,
notes/assumptions/33.md). -/
def Obligations.MoveStepAdvances : Prop :=
  ∀ (k : HeadId) (a : Axis) (o : AxisOutputs) (s : State), a = s.axes.get k → o = ⟨a.outputs.up, a.outputs.pulses + 1⟩ →
    (a.move = none → exec (.moveStep k) s = .next { s with link := s.link.choose }) ∧
    ∀ (m : Move) (t : State), a.move = some m → t = s.reach (m.start + ceilDiv ((m.issued + 1) * m.scale) m.rate) →
      ((a.state = .seeking ∨ a.state = .feeding) → 1 < m.toGo →
        exec (.moveStep k) s = .next { t with
          axes := s.axes.set k { a with
            position := a.position.map fun p => if m.up then p + 1 else p - 1
            outputs := o
            move := some { m with issued := m.issued + 1, toGo := m.toGo - 1 } }
          link := t.link.choose }) ∧
      (∀ p, a.state = .seeking → m.toGo = 1 → p = (a.position.map fun p => if m.up then p + 1 else p - 1) →
        exec (.moveStep k) s = .next { t with
          axes := s.axes.set k { a with state := .idle, position := p, target := none, move := none, outputs := o }
          link := (t.link.post (.axis k) (.axis .arrived .idle a.lastFault p t.timestamp)).choose }) ∧
      (∀ x : FeedContext, a.state = .feeding → m.toGo = 1 → a.feed = some x → x.stage = .move →
        exec (.moveStep k) s = .next { t with
          axes := s.axes.set k { a with
            position := a.position.map fun p => if m.up then p + 1 else p - 1
            outputs := o
            move := none
            feed := some { x with stage := .hold } }
          link := t.link.choose }) ∧
      (∀ (x : FeedContext) (b : Band), a.state = .feeding → m.toGo = 1 → a.feed = some x → x.stage = .positioning →
        s.active k = some b → b.phase = .positioning → (s.heads.get k).state = .parked →
        ((s.heads.get k).level ≠ (s.heads.get k).settings.level ∨ (s.heads.get k).settings.settle ≠ 0) →
        ∃ u, exec (.moveStep k) s = .next u ∧ u.active k = some { b with phase := .engaging } ∧
          (s.heads.get k).engages (u.heads.get k) t.clock ∧ u.axes.get k = { a with
            position := a.position.map fun p => if m.up then p + 1 else p - 1
            outputs := o
            move := none
            feed := some { x with stage := .hold } }) ∧
      ∀ n, a.state = .homing → a.homeSteps = some n →
        ((n + 1 < a.settings.homeSpan ∨ s.pins.homeSensor.get k = true) →
          exec (.moveStep k) s = .next { t with
            axes := s.axes.set k { a with
              homeSteps := some (n + 1), outputs := o, move := some { m with issued := m.issued + 1, toGo := m.toGo - 1 } }
            link := t.link.choose }) ∧
        (a.settings.homeSpan ≤ n + 1 → s.pins.homeSensor.get k = false →
          exec (.moveStep k) s = .next { t with
            axes := s.axes.set k { a with
              state := .unhomed, position := none, target := none, move := none, homeSteps := none
              lastFault := .homeNotFound, feed := none, outputs := o }
            link := (t.link.post (.axis k)
              (.axis .homeNotFound .unhomed .homeNotFound a.lastKnown t.timestamp)).choose })

/-- In HOMING and SEEKING an active limit switch stops the move and leaves the axis UNHOMED with last fault
LIMIT_SWITCH, a homed axis's position kept as its last known one, and posts LIMIT_SWITCH. In FEEDING it does so
too, and the head's active band ends ABORTED AXIS_FAULT with that position in its record, the pending band
behind it PRECEDING_ABORT, BAND_END is posted, and both line buffers are EMPTY. In IDLE and UNHOMED, and
becoming inactive, it sets the input alone. That the switch command carries a level is the model's choice
(notes/assumptions/7.md). -/
def Obligations.LimitSwitchUnhomes : Prop :=
  ∀ (k : HeadId) (level : Bool) (a : Axis) (known : Option Nat) (s : State), a = s.axes.get k →
    known = (if a.state = .homing then a.lastKnown else a.position) →
    ((level = false ∨ a.state = .idle ∨ a.state = .unhomed) →
      exec (.limitSwitchActive k level) s = .next { s with
        pins := { s.pins with limitSwitch := s.pins.limitSwitch.set k level }
        link := s.link.choose }) ∧
    (level = true → (a.state = .homing ∨ a.state = .seeking) →
      exec (.limitSwitchActive k level) s = .next { s with
        pins := { s.pins with limitSwitch := s.pins.limitSwitch.set k true }
        axes := s.axes.set k { a with
          state := .unhomed, position := none, lastKnown := known, target := none, move := none
          homeSteps := none, lastFault := .limitSwitch, feed := none }
        link := (s.link.post (.axis k)
          (.axis .limitSwitch .unhomed .limitSwitch known s.timestamp)).choose }) ∧
    ∀ b : Band, level = true → a.state = .feeding → s.active k = some b →
      ∃ t, exec (.limitSwitchActive k level) s = .next t ∧
        t.axes.get k = { a with
          state := .unhomed, position := none, lastKnown := known, target := none, move := none
          homeSteps := none, lastFault := .limitSwitch, feed := none } ∧
        (t.link.entry (.axis k)).content = some (.axis .limitSwitch .unhomed .limitSwitch known s.timestamp) ∧
        (t.bands.get k).active = none ∧ (t.bands.get k).waiting = none ∧ t.endPosted k ∧ s.emptiesBuffers t k ∧
        (t.bands.get k).results.map (fun r => (r.tag, r.cls, r.cause, r.position)) =
          (s.bands.get k).results.map (fun r => (r.tag, r.cls, r.cause, r.position)) ++
          (b.tag, .aborted, .axisFault, known) ::
          (s.bands.get k).waiting.toList.map (fun p => (p.tag, .aborted, .precedingAbort, none))

/-- With every check of acceptance and activation passed and no band held, a limit switch that is already active
is taken as the axis enters FEEDING, whatever the queue holds: the axis is UNHOMED with LIMIT_SWITCH, posts it
and keeps its position as the last known one, the band ends ABORTED AXIS_FAULT, BAND_END is posted, the queue is
untouched, and the reply is OK with the phase of the activation and the counts after it. With the switch
inactive, an empty queue and EMPTY buffers, the band is active with the values of its request; the head has the
placement context of the screen and period and the depth table of the curve; the axis is FEEDING with a new feed
context, in HOLD at the start and in POSITIONING away from it. The phase is WAIT_SYNC for a READY head in place,
ENGAGING for another head in place, POSITIONING otherwise, each with the orders of R129: in place a PARKED or
RETRACTING head starts an engage ramp from its level to LE; away from the start an engaged head starts a retract
ramp, and the axis of a PARKED one its move to the start at RATE. A PATCH band's fill is in flight. The reply is
OK with tag, phase and counts; other heads are unchanged. That the direction output is set as the move starts,
and the segment in which a SINE ramp opens, are the model's choices (notes/assumptions/30.md,
notes/assumptions/33.md). That the switch is taken before the first look, and the reply then gives the phase of
the activation, is the model's reading (notes/assumptions/15.md). -/
def Obligations.EngraveActivates : Prop :=
  ∀ (tag : Byte) (payload : List Byte) (f : EngraveFields) (h : HeadId) (source : Source) (feed : Feed) (x : Screen)
      (endPoint : Nat) (s : State),
    engraveFields payload = some f → f.head = h.val → sourceOf f.source = some source → feedOf f.feed = some feed →
    f.screen ≤ 15 → x = s.screen f.screen → x.n ≠ 0 → f.curve ≤ 7 → 1 ≤ f.count → f.first + f.count ≤ 65536 →
    endPoint = f.start + (if feed = .stepped then f.count - 1 else f.count) * x.pitch →
    s.fitted h = true → s.canHand ⟨0x20, tag, payload⟩ = true →
    ∀ (p : Nat) (a : Axis) (y : Head), s.ctu.ready = true → a = s.axes.get h → y = s.heads.get h → y.inhibit = false →
    (s.bands.get h).results.length ≤ 3 → s.held h = [] → (∀ k, s.fitted k = true → (s.axes.get k).homed = true) →
    f.start ≤ a.settings.maxpos → endPoint ≤ a.settings.maxpos →
    s.clearOf h (spanOver a.settings.origin ([a.position.getD 0] ++ a.target.toList ++ [f.start, endPoint])) = true →
    s.ctu.timing = .synced → s.ctu.speedOk = true → s.ctu.lastPeriod = some p → 0 < p →
    y.settings.fmin ≤ x.n * 1000000 / p → x.n * 1000000 / p ≤ y.settings.fmax →
    (feed = .stepped → x.pitch * 1000000 ≤ a.settings.rate * (x.gap * p / 65536)) →
    (feed = .helical → x.pitch * 1000000 ≤ a.settings.rate * p) →
    y.state ≠ .cutting → (y.settings.settle ≠ 0 ∨ y.level ≠ y.settings.level) →
    ∀ (b : Band) (ph : Phase),
    ph = (if a.position.getD 0 ≠ f.start then .positioning else if y.state = .ready then .waitSync else .engaging) →
    b = {
      tag := f.tag, source := source, first := f.first, count := f.count, screen := f.screen, curve := f.curve
      feed := feed, start := f.start, phase := ph, next := f.first, stopTaken := false, waitCount := 0
      suspensions := 0, cut := 0, firstCut := none, lastCut := none, clampedLow := 0, clampedHigh := 0, stale := 0
      discarded := 0, sourceless := 0, startRev := none, startTime := none } →
    (s.pins.limitSwitch.get h = true →
      ∃ t, exec (.engrave tag payload) s = .next t ∧
        t.bands.get h = ⟨none, none, (s.bands.get h).results ++
          [(s.discarding h b).recorded h .aborted .axisFault none s.ctu.revs s.timestamp a.position]⟩ ∧ t.endPosted h ∧
        ((t.axes.get h).state, (t.axes.get h).lastFault, (t.axes.get h).position, (t.axes.get h).lastKnown) =
          (.unhomed, .limitSwitch, none, a.position) ∧
        ((t.axes.get h).target, (t.axes.get h).move, (t.axes.get h).homeSteps, (t.axes.get h).feed) =
          (none, none, none, none) ∧
        (t.link.entry (.axis h)).content = some (.axis .limitSwitch .unhomed .limitSwitch a.position s.timestamp) ∧
        ((t.heads.get h).state = .parked ∨ (t.heads.get h).state = .retracting) ∧ (t.heads.get h).level = y.level ∧
        s.emptiesBuffers t h ∧ t.store.queues.get h = s.store.queues.get h ∧
        (s.link.sending.isSome = true → t.link.outbound = s.link.outbound ++ [⟨0xA0, tag, .ok, none,
          u16 f.tag ++ u8 ph.code ++ u8 0 ++ u8 ((s.bands.get h).results.length + 1)⟩])) ∧
    (s.pins.limitSwitch.get h = false → s.store.queues.get h = [] →
      (s.buffers.get h).buf0.held = .empty → (s.buffers.get h).buf1.held = .empty →
      ∃ t, exec (.engrave tag payload) s = .next t ∧
      t.bands.get h = ⟨some b, none, (s.bands.get h).results⟩ ∧
      (t.heads.get h).context = some {
        screen := f.screen, n := x.n, gap := x.gap, pitch := x.pitch, cellPitch := x.cellPitch
        remainder := x.remainder, shift := x.shift, rate := x.n * 1000000 / p, period := p } ∧
      (t.heads.get h).table.map DepthTable.entries =
        some ((List.range 256).map (depthEntry (s.curve f.curve) y.settings.calibration)) ∧
      ordersGiven y (t.heads.get h) a (t.axes.get h) f.start s.clock ∧
      (t.axes.get h).state = .feeding ∧ (t.axes.get h).target = none ∧ (t.axes.get h).position = a.position ∧
      (t.axes.get h).feed = some {
        tag := f.tag, feed := feed, start := f.start, gap := x.gap, pitch := x.pitch
        stage := if a.position.getD 0 = f.start then .hold else .positioning, armed := false, pointer := none } ∧
      (source = .store → t.buffers = s.buffers ∧ t.fetch = s.fetch) ∧
      (source = .patch → t.fetch = { s.fetch with fills := s.fetch.fills.set h (some (s.clock + ceilDiv x.n 256)) } ∧
        (t.buffers.get h).standby.held = .loading ⟨f.first, .patch, x.n⟩) ∧
      (s.link.sending.isSome = true → t.link.outbound = s.link.outbound ++ [⟨0xA0, tag, .ok, none,
        u16 f.tag ++ u8 ph.code ++ u8 1 ++ u8 (s.bands.get h).results.length⟩]) ∧
      ∀ g, g ≠ h → t.heads.get g = s.heads.get g ∧ t.axes.get g = s.axes.get g ∧ t.bands.get g = s.bands.get g ∧
        t.buffers.get g = s.buffers.get g)

/-- The first check of ENGRAVE that fails refuses it and changes nothing: BAD_FIELD for a head above 3,
NOT_FITTED, BAD_FIELD for a screen above 15 or undefined, a curve above 7, another source or feed, no track or a
last track above 65535, NOT_READY, INHIBITED, UNREAD_RESULTS, BUSY with two bands held, NOT_HOMED, RANGE,
COLLISION, and with no band held NOT_SYNCED, SPEED, CELL_RATE and FEED_TOO_SLOW. Behind an active band, with no
pending one, the band that passes the acceptance checks is held as PENDING, and the reply is OK with tag,
PENDING and the counts; nothing else changes. -/
def Obligations.EngraveChecksAndPendingBand : Prop :=
  (∀ (tag : Byte) (payload : List Byte) (f : EngraveFields) (s : State), engraveFields payload = some f →
      s.canHand ⟨0x20, tag, payload⟩ = true →
      (3 < f.head → s.onlyAnswers (.engrave tag payload) 0x20 tag ⟨.badField, none, []⟩) ∧
      ∀ h : HeadId, f.head = h.val →
        (s.fitted h = false → s.onlyAnswers (.engrave tag payload) 0x20 tag ⟨.refused, some .notFitted, []⟩) ∧
        (s.fitted h = true →
          (15 < f.screen ∨ (s.screen f.screen).n = 0 ∨ 7 < f.curve ∨ 1 < f.source ∨ 1 < f.feed ∨ f.count = 0 ∨
            65536 < f.first + f.count) →
          s.onlyAnswers (.engrave tag payload) 0x20 tag ⟨.badField, none, []⟩)) ∧
    ∀ (tag : Byte) (payload : List Byte) (f : EngraveFields) (h : HeadId) (source : Source) (feed : Feed) (x : Screen)
      (endPoint : Nat) (s : State),
    engraveFields payload = some f → f.head = h.val → sourceOf f.source = some source → feedOf f.feed = some feed →
    f.screen ≤ 15 → x = s.screen f.screen → x.n ≠ 0 → f.curve ≤ 7 → 1 ≤ f.count → f.first + f.count ≤ 65536 →
    endPoint = f.start + (if feed = .stepped then f.count - 1 else f.count) * x.pitch →
    s.fitted h = true → s.canHand ⟨0x20, tag, payload⟩ = true →
    ∀ room : Bool, room = s.clearOf h (spanOver (s.axes.get h).settings.origin
        (([(s.axes.get h).position.getD 0] ++ (s.axes.get h).target.toList ++ (s.held h).flatMap s.extents) ++
          [f.start, endPoint])) →
    (s.ctu.ready = false → exec (.engrave tag payload) s = .next { s with link := s.answered 0x20 tag ⟨.refused, some .notReady, []⟩ }) ∧
    (s.ctu.ready = true →
      ((s.heads.get h).inhibit = true →
        exec (.engrave tag payload) s = .next { s with link := s.answered 0x20 tag ⟨.refused, some .inhibited, []⟩ }) ∧
      ((s.heads.get h).inhibit = false →
        (4 ≤ (s.bands.get h).results.length + (s.held h).length →
          exec (.engrave tag payload) s = .next { s with link := s.answered 0x20 tag ⟨.refused, some .unreadResults, []⟩ }) ∧
        ((s.bands.get h).results.length + (s.held h).length ≤ 3 →
          (2 ≤ (s.held h).length → exec (.engrave tag payload) s = .next { s with link := s.answered 0x20 tag ⟨.busy, none, []⟩ }) ∧
          ((s.held h).length ≤ 1 →
            ((∃ k, s.fitted k = true ∧ (s.axes.get k).homed = false) →
              exec (.engrave tag payload) s = .next { s with link := s.answered 0x20 tag ⟨.refused, some .notHomed, []⟩ }) ∧
            ((∀ k, s.fitted k = true → (s.axes.get k).homed = true) →
              ((s.axes.get h).settings.maxpos < f.start ∨ (s.axes.get h).settings.maxpos < endPoint →
                exec (.engrave tag payload) s = .next { s with link := s.answered 0x20 tag ⟨.refused, some .range, []⟩ }) ∧
              (f.start ≤ (s.axes.get h).settings.maxpos → endPoint ≤ (s.axes.get h).settings.maxpos →
                (room = false → exec (.engrave tag payload) s = .next { s with link := s.answered 0x20 tag ⟨.refused, some .collision, []⟩ }) ∧
                (room = true → s.held h = [] →
                  (s.ctu.timing ≠ .synced → exec (.engrave tag payload) s = .next { s with link := s.answered 0x20 tag ⟨.refused, some .notSynced, []⟩ }) ∧
                  (s.ctu.timing = .synced → s.ctu.speedOk = false →
                    exec (.engrave tag payload) s = .next { s with link := s.answered 0x20 tag ⟨.refused, some .speed, []⟩ }) ∧
                  ∀ p, s.ctu.timing = .synced → s.ctu.speedOk = true → s.ctu.lastPeriod = some p → 0 < p →
                    ((x.n * 1000000 / p < (s.heads.get h).settings.fmin ∨
                        (s.heads.get h).settings.fmax < x.n * 1000000 / p) →
                      exec (.engrave tag payload) s = .next { s with link := s.answered 0x20 tag ⟨.refused, some .cellRate, []⟩ }) ∧
                    ((s.heads.get h).settings.fmin ≤ x.n * 1000000 / p →
                      x.n * 1000000 / p ≤ (s.heads.get h).settings.fmax →
                      (s.axes.get h).settings.rate * (if feed = .stepped then x.gap * p / 65536 else p) <
                        x.pitch * 1000000 →
                      exec (.engrave tag payload) s = .next { s with link := s.answered 0x20 tag ⟨.refused, some .feedTooSlow, []⟩ })) ∧
                ∀ b, room = true → s.bands.get h = ⟨some b, none, (s.bands.get h).results⟩ →
                  exec (.engrave tag payload) s = .next { s with
                    bands := s.bands.set h ⟨some b, some (newBand f source feed), (s.bands.get h).results⟩
                    link := s.answered 0x20 tag ⟨.ok, none,
                      u16 f.tag ++ u8 0 ++ u8 2 ++ u8 (s.bands.get h).results.length⟩ }))))))

/-- STOP_BAND ACTIVE in CUTTING sets the STOP-taken flag and disarms the move trigger; in another active phase,
with no pending band, the band ends ENDED STOP_REQUEST at once: its record joins the list, BAND_END is posted,
both line buffers are EMPTY, a homed axis is IDLE, and a READY head with no dwell timer running loads it, or
retracts with a dwell of 0; behind it a pending band whose activation check fails ends ABORTED ACTIVATION with
the check's reason, and one that passes them, with an empty queue and the limit switch inactive, is active in
the same step, in the phase and with the orders that an ENGRAVE would give it. STOP_BAND PENDING ends the
pending band ENDED CANCELLED and leaves the active one. ABORT_BAND ends the active band ABORTED ABORT_REQUEST
and the pending one PRECEDING_ABORT, with both buffers EMPTY; with the immediate flag the head is PARKED at
level 0, otherwise it takes a retract order. Every end posts BAND_END with the newest record and the length of
the list. READ_RESULT answers with the oldest record, which leaves the list. Without a band of their target or a
record they are NO_BAND and NO_RESULT. The presence byte of the phase in the STOP_BAND reply, the direction
output as a move starts, and the segment in which a SINE ramp opens are the model's choices
(notes/assumptions/17.md, notes/assumptions/30.md, notes/assumptions/33.md). -/
def Obligations.StopAbortAndReadResult : Prop :=
  (∀ (tag : Byte) (h : HeadId) (b : Band) (s : State), s.fitted h = true →
      s.canHand ⟨0x21, tag, u8 h.val ++ [0]⟩ = true → (s.bands.get h).active = some b →
      (b.phase = .cutting → b.stopTaken = false →
        exec (.stopBand tag (u8 h.val ++ [0])) s = .next { s with
          bands := s.bands.set h { s.bands.get h with active := some { b with stopTaken := true } }
          axes := s.axes.set h { s.axes.get h with
            feed := (s.axes.get h).feed.map fun x => { x with armed := false } }
          link := s.answered 0x21 tag ⟨.ok, none, [1, 4]⟩ }) ∧
      (b.phase = .cutting → b.stopTaken = true →
        exec (.stopBand tag (u8 h.val ++ [0])) s =
          .next { s with link := s.answered 0x21 tag ⟨.ok, none, [1, 4]⟩ }) ∧
      (b.phase ≠ .cutting → b.phase ≠ .pending → (s.bands.get h).waiting = none →
        ∃ t, exec (.stopBand tag (u8 h.val ++ [0])) s = .next t ∧
          s.endsBand t h (s.discarding h b) .ended .stopRequest false) ∧
      ∀ p : Band, b.phase ≠ .cutting → b.phase ≠ .pending → (s.bands.get h).waiting = some p →
        (s.axes.get h).homed = true →
        (∀ r, s.activationFailure h p = some r →
          ∃ t, exec (.stopBand tag (u8 h.val ++ [0])) s = .next t ∧ (t.bands.get h).active = none ∧
            (t.bands.get h).waiting = none ∧ (t.axes.get h).state = .idle ∧
            (s.heads.get h).releases (t.heads.get h) s.clock ∧ s.emptiesBuffers t h ∧ t.endPosted h ∧
            (t.bands.get h).results = (s.bands.get h).results ++
              [(s.discarding h b).recorded h .ended .stopRequest none s.ctu.revs s.timestamp (s.axes.get h).position,
                p.recorded h .aborted .activation (some (.reason r)) s.ctu.revs s.timestamp none]) ∧
        (s.activationFailure h p = none → s.store.queues.get h = [] → s.pins.limitSwitch.get h = false →
          (s.heads.get h).state ≠ .cutting →
          ((s.heads.get h).settings.settle ≠ 0 ∨ (s.heads.get h).level ≠ (s.heads.get h).settings.level) →
          ∃ t ph, exec (.stopBand tag (u8 h.val ++ [0])) s = .next t ∧
            ph = (if (s.axes.get h).position.getD 0 ≠ p.start then .positioning
              else if (s.heads.get h).state = .ready then .waitSync else .engaging) ∧
            (t.bands.get h).active = some { p with phase := ph } ∧ (t.bands.get h).waiting = none ∧
            (t.bands.get h).results = (s.bands.get h).results ++
              [(s.discarding h b).recorded h .ended .stopRequest none s.ctu.revs s.timestamp (s.axes.get h).position] ∧
            t.endPosted h ∧ (p.source = .store → s.emptiesBuffers t h) ∧
            ordersGiven (s.heads.get h) (t.heads.get h) (s.axes.get h) (t.axes.get h) p.start s.clock ∧
            (t.axes.get h).state = .feeding ∧ (t.axes.get h).feed = some {
              tag := p.tag, feed := p.feed, start := p.start, gap := (s.screen p.screen).gap
              pitch := (s.screen p.screen).pitch
              stage := if (s.axes.get h).position.getD 0 = p.start then .hold else .positioning
              armed := false, pointer := none })) ∧
    (∀ (tag : Byte) (h : HeadId) (p : Band) (s : State), s.fitted h = true →
      s.canHand ⟨0x21, tag, u8 h.val ++ [1]⟩ = true → (s.bands.get h).waiting = some p →
      ∃ t, exec (.stopBand tag (u8 h.val ++ [1])) s = .next t ∧ (t.bands.get h).active = (s.bands.get h).active ∧
        (t.bands.get h).waiting = none ∧ t.endPosted h ∧
        (t.bands.get h).results = (s.bands.get h).results ++
          [p.recorded h .ended .cancelled none s.ctu.revs s.timestamp none] ∧ t.heads = s.heads ∧ t.axes = s.axes ∧ t.store = s.store ∧
        t.buffers = s.buffers ∧ t.fetch = s.fetch) ∧
    (∀ (tag : Byte) (h : HeadId) (immediate : Bool) (b : Band) (s : State), s.fitted h = true →
      s.canHand ⟨0x22, tag, u8 h.val ++ [if immediate then 1 else 0]⟩ = true → (s.bands.get h).active = some b →
      ∃ t, exec (.abortBand tag (u8 h.val ++ [if immediate then 1 else 0])) s = .next t ∧
        t.bands.get h = ⟨none, none, (s.bands.get h).results ++
          (s.discarding h b).recorded h .aborted .abortRequest none s.ctu.revs s.timestamp (s.axes.get h).reported ::
          (s.bands.get h).waiting.toList.map fun p =>
            p.recorded h .aborted .precedingAbort none s.ctu.revs s.timestamp none⟩ ∧
        (immediate = true → t.heads.get h = if (s.heads.get h).state = .parked then s.heads.get h else { s.heads.get h with
          state := .parked, level := 0, depth := 0, ramp := none, settleTimer := none, dwellTimer := none
          nextCell := none }) ∧
        (immediate = false → (s.heads.get h).retracts (t.heads.get h) s.clock) ∧
        ((s.axes.get h).homed = true → (t.axes.get h).state = .idle) ∧ (t.axes.get h).feed = none ∧
        s.emptiesBuffers t h ∧ t.endPosted h) ∧
    (∀ (tag : Byte) (h : HeadId) (r : ResultRecord) (rest : List ResultRecord) (s : State), s.fitted h = true →
      s.canHand ⟨0x36, tag, u8 h.val⟩ = true → (s.bands.get h).results = r :: rest →
      exec (.readResult tag (u8 h.val)) s = .next { s with
        bands := s.bands.set h { s.bands.get h with results := rest }
        link := s.answered 0x36 tag ⟨.ok, none, recordBytes r⟩ }) ∧
    ∀ (tag : Byte) (h : HeadId) (s : State), s.fitted h = true →
      ((s.bands.get h).active = none → s.canHand ⟨0x21, tag, u8 h.val ++ [0]⟩ = true →
        exec (.stopBand tag (u8 h.val ++ [0])) s =
          .next { s with link := s.answered 0x21 tag ⟨.refused, some .noBand, []⟩ }) ∧
      ((s.bands.get h).waiting = none → s.canHand ⟨0x21, tag, u8 h.val ++ [1]⟩ = true →
        exec (.stopBand tag (u8 h.val ++ [1])) s =
          .next { s with link := s.answered 0x21 tag ⟨.refused, some .noBand, []⟩ }) ∧
      (∀ immediate : Bool, (s.bands.get h).active = none →
        s.canHand ⟨0x22, tag, u8 h.val ++ [if immediate then 1 else 0]⟩ = true →
        exec (.abortBand tag (u8 h.val ++ [if immediate then 1 else 0])) s =
          .next { s with link := s.answered 0x22 tag ⟨.refused, some .noBand, []⟩ }) ∧
      ((s.bands.get h).results = [] → s.canHand ⟨0x36, tag, u8 h.val⟩ = true →
        exec (.readResult tag (u8 h.val)) s =
          .next { s with link := s.answered 0x36 tag ⟨.refused, some .noResult, []⟩ })

/-- For a STORE band of a head with an empty queue and no pending band. CUTTING counts the track cut, and then,
in order: FEED_LATE with a stepped move under way; COMPLETE after the last track; ENDED STOP_REQUEST; the next
track when the STANDBY holds it; SUSPENDED for STEPPED; ABORTED UNDERRUN for HELICAL. WAIT_SYNC waits for
speed-ok, cuts a loaded first track with the start revolution and time, waits one boundary, and then ends
MISSING_TRACK. SUSPENDED resumes with the track, and otherwise counts a suspension and ends at the limit. At
each swap the head and the axis take the cut order: a STEPPED band's trigger is armed unless the track is the
band's last, and a HELICAL band's open revolution is closed, its remaining steps issued, and its pointer set to
step 1; a passage into SUSPENDED disarms the trigger and leaves a CUTTING head READY at depth 0. Every boundary
that leaves the band CUTTING or SUSPENDED posts BAND_PROGRESS with the lead as it then stands, and one that ends
it does not. Every end empties both buffers in their roles, closes a helical revolution, adds the whole record
and posts BAND_END; a COMPLETE or ENDED end leaves a CUTTING head READY at depth 0 with its dwell timer loaded,
or retracting with a dwell of 0, and an ABORTED one gives it a retract order. At a COMPLETE or ENDED end at a
boundary a pending band whose activation check fails ends ABORTED ACTIVATION with the check's reason, and one
that passes them is active in the same step: in WAIT_SYNC with the head READY where the carriage stands at its
start, and otherwise in POSITIONING with the head's retract order given. In SYNCED a fitted head's boundary
falls at the count that brings E to A_h, under the F and the start angles that the count takes up; under those
that act, for A_h = 0 at a good index, after angle and E are 0; and for A_h above E at a good index that comes
early, before they are. The order within a boundary is the model's choice (notes/assumptions/13.md,
notes/assumptions/14.md), and so are the stage of a HELICAL band, which its cut order keeps
(notes/assumptions/36.md), the direction output, which that order and the start of a move set
(notes/assumptions/30.md), and the segment in which a SINE ramp opens (notes/assumptions/33.md). -/
def Obligations.BoundariesOfABand : Prop :=
  (∀ (h : HeadId) (b : Band) (q : BandSequencer) (s t : State),
      s.bands.get h = q → q.active = some b → q.waiting = none → b.source = .store →
      s.store.queues.get h = [] → t = s.boundary h →
      (b.phase = .cutting → ∀ (tr : BufferTrack) (c : Band),
        (s.buffers.get h).active.held.track? = some tr →
        c = { b with cut := b.cut + 1, lastCut := some tr.number, firstCut := b.firstCut.or (some tr.number) } →
        (b.feed = .stepped → (s.axes.get h).moving = true → s.endsBand t h (s.discarding h c) .aborted .feedLate true) ∧
        ((b.feed = .helical ∨ (s.axes.get h).moving = false) →
          (tr.number = b.last → s.endsBand t h (s.discarding h c) .complete .none true) ∧
          (tr.number ≠ b.last → b.stopTaken = true → s.endsBand t h (s.discarding h c) .ended .stopRequest true) ∧
          (tr.number ≠ b.last → b.stopTaken = false →
            (s.standbyHolds h b.next = true → s.cutsTrack t h c) ∧
            (s.standbyHolds h b.next = false → b.feed = .stepped →
              t.active h = some { c with phase := .suspended } ∧
              t.heads.get h = (if (s.heads.get h).state = .cutting then
                { s.heads.get h with state := .ready, depth := 0, nextCell := none } else s.heads.get h) ∧
              t.axes.get h = { s.axes.get h with
                feed := (s.axes.get h).feed.map fun x => { x with armed := false } } ∧
              s.postsProgress t h { c with phase := .suspended } ∧ t.buffers.get h = s.buffers.get h) ∧
            (s.standbyHolds h b.next = false → b.feed = .helical → s.endsBand t h (s.discarding h c) .aborted .underrun true)))) ∧
      (b.phase = .waitSync →
        (s.ctu.speedOk = false → t = s) ∧
        (s.ctu.speedOk = true →
          (s.standbyHolds h b.next = true →
            s.cutsTrack t h { b with startRev := some s.ctu.revs, startTime := some s.timestamp }) ∧
          (s.standbyHolds h b.next = false → b.waitCount = 0 →
            t = { s with bands := s.bands.set h { q with active := some { b with waitCount := 1 } } }) ∧
          (s.standbyHolds h b.next = false → b.waitCount ≠ 0 → s.endsBand t h (s.discarding h b) .aborted .missingTrack true))) ∧
      (b.phase = .suspended →
        (s.standbyHolds h b.next = true → s.cutsTrack t h b) ∧
        (s.standbyHolds h b.next = false → ∀ k, k = min 255 (b.suspensions + 1) →
          ((s.heads.get h).settings.suspendLimit ≤ k →
            s.endsBand t h (s.discarding h { b with suspensions := k }) .aborted .suspendLimit true) ∧
          (k < (s.heads.get h).settings.suspendLimit →
            t.active h = some { b with suspensions := k } ∧ t.heads = s.heads ∧ t.axes = s.axes ∧
            s.postsProgress t h { b with suspensions := k } ∧ t.buffers = s.buffers))) ∧
      (t.active h = none → t.link.entry (.progress h) = s.link.entry (.progress h))) ∧
    (∀ (h : HeadId) (b c p : Band) (q : BandSequencer) (tr : BufferTrack) (a : Axis) (s t : State),
      s.bands.get h = q → q.active = some b → q.waiting = some p → b.phase = .cutting → t = s.boundary h →
      (s.buffers.get h).active.held.track? = some tr → (b.feed = .helical ∨ (s.axes.get h).moving = false) →
      (tr.number = b.last ∨ b.stopTaken = true) → (s.heads.get h).state = .cutting → (s.axes.get h).homed = true →
      s.fetch.copy = none → s.store.queues.get h = [] → s.pins.limitSwitch.get h = false →
      a = { s.axes.get h with
        position := (s.axes.get h).position.map (· + (s.axes.get h).stepsOwed)
        outputs := { (s.axes.get h).outputs with
          pulses := (s.axes.get h).outputs.pulses + (s.axes.get h).stepsOwed } } →
      c = { b with cut := b.cut + 1, lastCut := some tr.number, firstCut := b.firstCut.or (some tr.number) } →
      ∀ r : ResultRecord, r = (s.discarding h c).recorded h (if tr.number = b.last then .complete else .ended)
          (if tr.number = b.last then .none else .stopRequest) none s.ctu.revs s.timestamp a.position →
        t.endPosted h ∧
        (∀ reason, s.activationFailure h p = some reason →
          t.bands.get h = ⟨none, none, q.results ++
            [r, p.recorded h .aborted .activation (some (.reason reason)) s.ctu.revs s.timestamp none]⟩ ∧
          (t.axes.get h).state = .idle ∧ s.emptiesBuffers t h ∧
          (s.heads.get h).releases (t.heads.get h) s.clock) ∧
        (s.activationFailure h p = none →
          (p.source = .store → s.emptiesBuffers t h) ∧ (t.axes.get h).state = .feeding ∧
          (t.axes.get h).position = a.position ∧ (t.axes.get h).feed.map FeedContext.tag = some p.tag ∧
          t.bands.get h = ⟨some { p with phase := if a.position.getD 0 = p.start then .waitSync else .positioning }, none,
            q.results ++ [r]⟩ ∧
          ordersGiven { s.heads.get h with state := .ready, depth := 0, nextCell := none } (t.heads.get h) a
            (t.axes.get h) p.start s.clock)) ∧
    ∀ (h : HeadId) (s : State) (c : Ctu) (angles : Quad Nat), s.ctu.timing = .synced → s.ctu.streak ≠ 0 →
      angles = (s.heads.map fun x => x.settings.startAngle) →
      (h.val < s.machine.fitted → angles.get h ≠ 0 → s.ctu.elapsed + 1 = angles.get h →
        s.ctu.elapsed + 1 ≤ 65536 + s.machine.indexTol →
        (∀ g, g ≠ h → g.val < s.machine.fitted → angles.get g ≠ angles.get h) →
        exec (.countEvent true) s = .next ((({ s with ctu := { s.ctu with
            angle := (s.ctu.angle + 1) % 65536, elapsed := s.ctu.elapsed + 1, stoppedTimer := 0
            acting := ⟨s.machine.fitted, angles⟩ } } : State).boundary h).presentAll).settled) ∧
      (s.fitted h = true → 65536 - (s.machine.indexTol : Int) ≤ s.ctu.elapsed → s.ctu.elapsed ≤ 65536 + s.machine.indexTol →
        (∀ g, g ≠ h → s.fitted g = true → s.startAngle g ≠ 0 ∧ (s.startAngle g : Int) ≤ s.ctu.elapsed) →
        s.machine.indexTol ≤ 255 → s.machine.nominalPeriod = 0 → s.ctu.speedOk = true → s.machine.reportRevs = 0 →
        c = { s.ctu with
          angle := 0, elapsed := 0, streak := 2, indexTime := s.timestamp, revs := (s.ctu.revs + 1) % 4294967296
          lastPeriod := some ((s.timestamp + 4294967296 - s.ctu.indexTime) % 4294967296) } →
        (s.startAngle h = 0 →
          exec (.indexEvent s.machine.indexEdge) s =
            .next ((({ s with ctu := c } : State).boundary h).presentAll).settled) ∧
        (s.ctu.elapsed < s.startAngle h →
          exec (.indexEvent s.machine.indexEdge) s =
            .next (({ s.boundary h with ctu := c } : State).presentAll).settled))

/-- SET_MONITOR in HALTED for a slot that is not latched stores thresholds, hysteresis, action and mask,
saturated, and sets the run counter to 0; it is BUSY while a run goes on, STILL_ACTIVE for a latched slot, and
BAD_FIELD for a bad action, mask or order of thresholds. MONITOR_RUN in HALTED starts a conversion of the start
slot, due 40 µs later; otherwise it is BUSY. MONITOR_HALT sets the halt request of a run. ALARM_ACK clears a
latch whose latest value is in range, is STILL_ACTIVE out of range, and changes nothing for a clear latch. -/
def Obligations.MonitorRequests : Prop :=
  (∀ (tag : Byte) (payload : List Byte) (f : MonitorFields) (i : Fin 16) (x : Slot) (s : State),
      monitorFields payload = some f → f.slot = i.val → s.canHand ⟨0x07, tag, payload⟩ = true →
      x = s.monitor.slots.get i →
      (s.monitor.mode ≠ .halted →
        exec (.setMonitor tag payload) s = .next { s with link := s.answered 0x07 tag ⟨.busy, none, slotBytes x⟩ }) ∧
      (s.monitor.mode = .halted → x.latched = true →
        exec (.setMonitor tag payload) s =
          .next { s with link := s.answered 0x07 tag ⟨.refused, some .stillActive, slotBytes x⟩ }) ∧
      (s.monitor.mode = .halted → x.latched = false →
        (3 < f.action ∨ 15 < f.mask.toNat ∨ min 4095 f.high < min 4095 f.low) →
        exec (.setMonitor tag payload) s =
          .next { s with link := s.answered 0x07 tag ⟨.badField, none, slotBytes x⟩ }) ∧
      ∀ (action : AlarmAction) (y : Slot), s.monitor.mode = .halted → x.latched = false →
        actionOf f.action = some action → f.mask.toNat ≤ 15 → min 4095 f.low ≤ min 4095 f.high →
        y = { x with
          low := min 4095 f.low, high := min 4095 f.high, hysteresis := max 1 (min 15 f.hysteresis), run := 0
          action := action, mask := f.mask } →
        exec (.setMonitor tag payload) s = .next { s with
          monitor := { s.monitor with slots := s.monitor.slots.set i.val y i.isLt }
          link := s.answered 0x07 tag ⟨if 4095 < f.low ∨ 4095 < f.high ∨ f.hysteresis = 0 ∨ 15 < f.hysteresis
            then .clamped else .ok, none, slotBytes y⟩ }) ∧
    (∀ (tag : Byte) (mode : MonitorMode) (start stop : Fin 16) (s : State), mode ≠ .halted →
      s.canHand ⟨0x26, tag, u8 mode.code ++ u8 start.val ++ u8 stop.val⟩ = true →
      (s.monitor.mode = .halted →
        exec (.monitorRun tag (u8 mode.code ++ u8 start.val ++ u8 stop.val)) s = .next { s with
          monitor := { s.monitor with
            mode := mode, start := start, stop := max start stop, conversion := some ⟨start, s.clock + 40⟩ }
          link := s.answered 0x26 tag ⟨.ok, none, u8 mode.code ++ u8 start.val ++ u8 (max start stop).val⟩ }) ∧
      (s.monitor.mode ≠ .halted →
        exec (.monitorRun tag (u8 mode.code ++ u8 start.val ++ u8 stop.val)) s =
          .next { s with link := s.answered 0x26 tag ⟨.busy, none, []⟩ })) ∧
    (∀ (tag : Byte) (s : State), s.canHand ⟨0x27, tag, []⟩ = true →
      exec (.monitorHalt tag []) s = .next { s with
        monitor := { s.monitor with
          haltRequest := if s.monitor.mode = .halted then s.monitor.haltRequest else true }
        link := s.answered 0x27 tag ⟨.ok, none, []⟩ }) ∧
    ∀ (tag : Byte) (i : Fin 16) (x : Slot) (s : State), s.canHand ⟨0x28, tag, u8 i.val⟩ = true →
      x = s.monitor.slots.get i →
      (x.latched = false →
        exec (.alarmAck tag (u8 i.val)) s = .next { s with link := s.answered 0x28 tag ⟨.ok, none, slotBytes x⟩ }) ∧
      (∀ v, x.latched = true → x.value = some v → x.low ≤ v → v ≤ x.high →
        exec (.alarmAck tag (u8 i.val)) s = .next { s with
          monitor := { s.monitor with slots := s.monitor.slots.set i.val { x with latched := false } i.isLt }
          link := s.answered 0x28 tag ⟨.ok, none, slotBytes { x with latched := false }⟩ }) ∧
      (∀ v, x.latched = true → x.value = some v → (v < x.low ∨ x.high < v) →
        exec (.alarmAck tag (u8 i.val)) s =
          .next { s with link := s.answered 0x28 tag ⟨.refused, some .stillActive, slotBytes x⟩ })

/-- CONVERSION_COMPLETE brings the conversion's time. Slots 14 and 15 take 0, others the value. An out-of-range
value adds 1 to the run counter, which stops at 15, and an in-range one sets it to 0, whatever the action and
the latch; the slot's thresholds, hysteresis, action and mask, and all other slots, are unchanged. The halt
request is then clear. A halt request, and the end of a SINGLE pass, leave HALTED; otherwise the slot above, or
after the stop slot the start slot, is converted next, 40 µs later. When no alarm latches the slot's latch is
unchanged too, and nothing else changes but what the transmitter chooses. Without a conversion in flight nothing
changes. That the event brings its due time is the model's choice (notes/assumptions/4.md). -/
def Obligations.ConversionsAreStoredAndCounted : Prop :=
  (∀ (v : BitVec 12) (s : State), s.monitor.conversion = none →
      exec (.conversionComplete v) s = .next { s with link := s.link.choose }) ∧
    ∀ (v : BitVec 12) (c : Conversion) (n run : Nat) (x : Slot) (s t : State), s.monitor.conversion = some c →
      t = s.reach c.done → n = (if 14 ≤ c.slot.val then 0 else v.toNat) → x = s.monitor.slots.get c.slot →
      run = (if x.low ≤ n ∧ n ≤ x.high then 0 else min 15 (x.run + 1)) →
      ∃ u, exec (.conversionComplete v) s = .next u ∧ u.clock = t.clock ∧
        u.monitor.slots.get c.slot = { x with
          value := some n, valueTime := some t.timestamp, run := run
          latched := (u.monitor.slots.get c.slot).latched } ∧
        (∀ i, i ≠ c.slot → u.monitor.slots.get i = s.monitor.slots.get i) ∧
        u.monitor.start = s.monitor.start ∧ u.monitor.stop = s.monitor.stop ∧ u.monitor.haltRequest = false ∧
        (s.monitor.haltRequest = true → u.monitor.mode = .halted ∧ u.monitor.conversion = none) ∧
        (s.monitor.haltRequest = false →
          (c.slot < s.monitor.stop → u.monitor.mode = s.monitor.mode ∧
            u.monitor.conversion.map (fun d => (d.slot.val, d.done)) = some (c.slot.val + 1, t.clock + 40)) ∧
          (s.monitor.stop ≤ c.slot → s.monitor.mode = .continuous → u.monitor.mode = .continuous ∧
            u.monitor.conversion = some ⟨s.monitor.start, t.clock + 40⟩) ∧
          (s.monitor.stop ≤ c.slot → s.monitor.mode ≠ .continuous → u.monitor.mode = .halted ∧
            u.monitor.conversion = none)) ∧
        ((x.latched = true ∨ x.action = .none ∨ run < x.hysteresis ∨ (x.low ≤ n ∧ n ≤ x.high)) →
          (u.monitor.slots.get c.slot).latched = x.latched ∧
          u = { t with monitor := u.monitor, link := t.link.choose })

/-- An out-of-range value that brings the run counter to the hysteresis, with the latch clear and an action that
is not NONE, sets the latch and posts the slot's ALARM entry with value, thresholds, counter, action, mask,
heads acted on, time and revolution. For RETRACT and RETRACT_FAST every fitted head in the mask has its inhibit
latch set, holds no active band, and is RETRACTING or PARKED, with RETRACT_FAST PARKED; its active band's record
joins its list ABORTED ALARM with the slot. For NOTIFY no head is inhibited or moved. That the event brings its
due time is the model's choice (notes/assumptions/4.md). -/
def Obligations.AlarmsLatchAndAct : Prop :=
  ∀ (v : BitVec 12) (c : Conversion) (n run : Nat) (x : Slot) (acted : Byte) (s t : State),
    s.monitor.conversion = some c → t = s.reach c.done → n = (if 14 ≤ c.slot.val then 0 else v.toNat) →
    x = s.monitor.slots.get c.slot → run = min 15 (x.run + 1) → (n < x.low ∨ x.high < n) → x.hysteresis ≤ run →
    x.latched = false → x.action ≠ .none →
    (∀ k < 8, acted.getLsbD k = decide ((x.action = .retract ∨ x.action = .retractFast) ∧ k < s.ctu.acting.fitted ∧
      x.mask.getLsbD k = true)) →
    ∃ u, exec (.conversionComplete v) s = .next u ∧ (u.monitor.slots.get c.slot).latched = true ∧
      (u.link.entry (.alarm c.slot)).content =
        some (.alarm n x.low x.high run x.action x.mask acted t.timestamp s.ctu.revs) ∧
      (x.action = .notify → u.heads = t.heads ∧ u.bands = s.bands ∧ u.axes = s.axes) ∧
      ∀ h, (x.action = .retract ∨ x.action = .retractFast) → s.fitted h = true → x.mask.getLsbD h.val = true →
        (u.heads.get h).inhibit = true ∧ (u.bands.get h).active = none ∧
        ((u.heads.get h).state = .parked ∨ (u.heads.get h).state = .retracting) ∧
        (x.action = .retractFast → (u.heads.get h).state = .parked) ∧
        ∀ b, s.active h = some b → s.fetch.copy = none → (s.bands.get h).waiting = none →
          ∃ r, (u.bands.get h).results = (s.bands.get h).results ++ [r] ∧ r.tag = b.tag ∧ r.cls = .aborted ∧
            r.cause = .alarm ∧ r.detail = some (.slot c.slot.val)
end

