-- ==== Sys2Proof/Laws/Memory.lean ====
section
/-! SUPPORT. The laws of addressed memory: a write keeps the canonical form, and a read after a write gives the bytes
written and leaves every other address alone. -/

namespace Sys2Proof.Machine

theorem Memory.wf_nil : Memory.wf [] := ⟨List.Pairwise.nil, by simp⟩

theorem Memory.read_append (m n : Memory) (x : Nat) :
    Memory.read (m ++ n) x = if x ∈ m.map Prod.fst then Memory.read m x else Memory.read n x := by
  induction m with
  | nil => simp
  | cons c m ih =>
    obtain ⟨k, b⟩ := c
    by_cases e : k = x
    · subst e; simp [Memory.read]
    · have e' : x ≠ k := fun h => e h.symm
      simp [Memory.read, e, e', ih]

theorem Memory.read_unlisted {m : Memory} {x : Nat} (h : x ∉ m.map Prod.fst) : Memory.read m x = 0 := by
  induction m with
  | nil => rfl
  | cons c m ih =>
    obtain ⟨k, b⟩ := c
    simp only [List.map_cons, List.mem_cons, not_or] at h
    have e : k ≠ x := fun e => h.1 e.symm
    simp [Memory.read, e, ih h.2]

theorem Memory.read_filter (m : Memory) (p : Nat → Bool) (x : Nat) :
    Memory.read (m.filter fun c => p c.1) x = if p x then Memory.read m x else 0 := by
  induction m with
  | nil => simp [Memory.read]
  | cons c m ih =>
    obtain ⟨k, b⟩ := c
    by_cases e : k = x
    · subst e
      by_cases q : p k
      · simp [q, Memory.read]
      · simp [q] at ih ⊢
        exact ih
    · by_cases q : p k
      · simp [q, Memory.read, e, ih]
      · simp [q, Memory.read, e, ih]

/-- The cells of a run have addresses of the run, rising, and hold no 0. -/
theorem Memory.cells_spec (a : Nat) (bs : List Byte) :
    (Memory.cells a bs).Pairwise (fun x y => x.1 < y.1) ∧
      ∀ c ∈ Memory.cells a bs, a ≤ c.1 ∧ c.1 < a + bs.length ∧ c.2 ≠ 0 := by
  induction bs generalizing a with
  | nil => simp [Memory.cells]
  | cons b bs ih =>
    obtain ⟨rising, inside⟩ := ih (a + 1)
    have inside' : ∀ c ∈ Memory.cells (a + 1) bs, a ≤ c.1 ∧ c.1 < a + (b :: bs).length ∧ c.2 ≠ 0 := by
      intro c hc
      obtain ⟨h1, h2, h3⟩ := inside c hc
      simp only [List.length_cons]
      exact ⟨by omega, by omega, h3⟩
    unfold Memory.cells
    split
    · exact ⟨rising, inside'⟩
    · next nonzero =>
      refine ⟨List.Pairwise.cons (fun c hc => ?_) rising, fun c hc => ?_⟩
      · have := (inside c hc).1
        show a < c.1
        omega
      · rcases List.mem_cons.mp hc with rfl | hc
        · exact ⟨Nat.le_refl _, by simp, nonzero⟩
        · exact inside' c hc

theorem Memory.read_cells (a : Nat) (bs : List Byte) (x : Nat) :
    Memory.read (Memory.cells a bs) x = if a ≤ x ∧ x < a + bs.length then bs.getD (x - a) 0 else 0 := by
  induction bs generalizing a with
  | nil => simp [Memory.cells, Memory.read]
  | cons b bs ih =>
    have tail : Memory.read (Memory.cells (a + 1) bs) x =
        if a + 1 ≤ x ∧ x < a + (b :: bs).length then (b :: bs).getD (x - a) 0 else 0 := by
      rw [ih (a + 1)]
      by_cases h : a + 1 ≤ x ∧ x < a + 1 + bs.length
      · have h' : a + 1 ≤ x ∧ x < a + (b :: bs).length := by simp only [List.length_cons]; omega
        rw [if_pos h, if_pos h']
        have : x - a = (x - (a + 1)) + 1 := by omega
        simp [this]
      · have h' : ¬(a + 1 ≤ x ∧ x < a + (b :: bs).length) := by simp only [List.length_cons]; omega
        rw [if_neg h, if_neg h']
    unfold Memory.cells
    split
    · next zero =>
      rw [tail]
      by_cases e : x = a
      · subst e; simp [zero]
      · have : (a + 1 ≤ x ∧ x < a + (b :: bs).length) ↔ (a ≤ x ∧ x < a + (b :: bs).length) := by omega
        simp only [this]
    · by_cases e : a = x
      · subst e; simp [Memory.read]
      · simp only [Memory.read, if_neg e, tail]
        have : (a + 1 ≤ x ∧ x < a + (b :: bs).length) ↔ (a ≤ x ∧ x < a + (b :: bs).length) := by omega
        simp only [this]

/-- A write keeps the canonical form. -/
theorem Memory.writeRun_wf {m : Memory} (h : m.wf) (a : Nat) (bs : List Byte) : (m.writeRun a bs).wf := by
  obtain ⟨rising, nonzero⟩ := h
  obtain ⟨crise, cin⟩ := Memory.cells_spec a bs
  refine ⟨?_, ?_⟩
  · unfold Memory.writeRun
    rw [List.pairwise_append, List.pairwise_append]
    refine ⟨⟨rising.filter _, crise, ?_⟩, rising.filter _, ?_⟩
    · intro x hx y hy
      have h1 := (List.mem_filter.mp hx).2
      have h2 := (cin y hy).1
      simp only [decide_eq_true_eq] at h1
      omega
    · intro x hx y hy
      have h2 := (List.mem_filter.mp hy).2
      simp only [decide_eq_true_eq] at h2
      rcases List.mem_append.mp hx with hx | hx
      · have h1 := (List.mem_filter.mp hx).2
        simp only [decide_eq_true_eq] at h1
        omega
      · have h1 := (cin x hx).2.1
        omega
  · intro c hc
    unfold Memory.writeRun at hc
    rcases List.mem_append.mp hc with hc | hc
    · rcases List.mem_append.mp hc with hc | hc
      · exact nonzero c (List.mem_filter.mp hc).1
      · exact (cin c hc).2.2
    · exact nonzero c (List.mem_filter.mp hc).1

/-- A read after a write gives the byte written inside the run, and the byte that stood there outside it. -/
theorem Memory.read_writeRun (m : Memory) (a : Nat) (bs : List Byte) (x : Nat) :
    (m.writeRun a bs).read x =
      if a ≤ x ∧ x < a + bs.length then bs.getD (x - a) 0 else m.read x := by
  unfold Memory.writeRun
  rw [Memory.read_append, Memory.read_append]
  have low := Memory.read_filter m (fun k => decide (k < a)) x
  have high := Memory.read_filter m (fun k => decide (a + bs.length ≤ k)) x
  have mid := Memory.read_cells a bs x
  by_cases h : a ≤ x ∧ x < a + bs.length
  · rw [if_pos h]
    rw [if_pos h] at mid
    have hl : x ∉ (m.filter fun c => decide (c.1 < a)).map Prod.fst := by
      simp only [List.mem_map, List.mem_filter, decide_eq_true_eq, not_exists, not_and]
      rintro c ⟨-, hc⟩ rfl
      omega
    rw [if_neg hl]
    by_cases hm : x ∈ (Memory.cells a bs).map Prod.fst
    · rw [if_pos (by simp only [List.map_append, List.mem_append]; exact Or.inr hm), mid]
    · rw [if_neg (by simp only [List.map_append, List.mem_append, not_or]; exact ⟨hl, hm⟩), high]
      have z := Memory.read_unlisted hm
      rw [mid] at z
      rw [if_neg (by simp; omega), z]
  · rw [if_neg h]
    have hc : x ∉ (Memory.cells a bs).map Prod.fst := by
      simp only [List.mem_map, not_exists, not_and]
      rintro c hc rfl
      obtain ⟨h1, h2, -⟩ := (Memory.cells_spec a bs).2 c hc
      exact h ⟨h1, h2⟩
    simp only [List.map_append, List.mem_append, hc, or_false]
    by_cases hx : x < a
    · by_cases hl : x ∈ (m.filter fun c => decide (c.1 < a)).map Prod.fst
      · rw [if_pos hl, if_pos hl, low]; simp [hx]
      · rw [if_neg hl, high]
        have z := Memory.read_unlisted hl
        rw [low] at z
        simp only [hx, decide_true, if_true] at z
        rw [if_neg (by simp; omega), z]
    · have hl : x ∉ (m.filter fun c => decide (c.1 < a)).map Prod.fst := by
        simp only [List.mem_map, List.mem_filter, decide_eq_true_eq, not_exists, not_and]
        rintro c ⟨-, below⟩ rfl
        exact hx below
      rw [if_neg hl, high]
      rw [if_pos (by simp; omega)]

@[simp] theorem Memory.readRun_length (m : Memory) (a n : Nat) : (m.readRun a n).length = n := by
  simp [Memory.readRun]

/-- Storing tones through a page list keeps the canonical form. -/
theorem storeTones_wf {m : Memory} (h : m.wf) (pages : List Nat) (off : Nat) (bs : List Byte) :
    (storeTones pages off bs m).wf := by
  induction pages generalizing off bs m with
  | nil => exact h
  | cons p ps ih =>
    unfold storeTones
    split
    · exact ih h _ _
    · exact ih (Memory.writeRun_wf h _ _) _ _

/-- A page that the list does not name keeps its bytes. -/
theorem storeTones_frame (m : Memory) (pages : List Nat) (off : Nat) (bs : List Byte) (x : Nat)
    (outside : ∀ p ∈ pages, x / Config.pageBytes ≠ p) : (storeTones pages off bs m).read x = m.read x := by
  induction pages generalizing off bs m with
  | nil => rfl
  | cons p ps ih =>
    have hps : ∀ q ∈ ps, x / Config.pageBytes ≠ q := fun q hq => outside q (List.mem_cons_of_mem _ hq)
    unfold storeTones
    split
    · exact ih m _ _ hps
    · next hoff =>
      rw [ih _ _ _ hps, Memory.read_writeRun, if_neg]
      intro hx
      apply outside p (List.mem_cons_self ..)
      have hlen : (bs.take (Config.pageBytes - off)).length ≤ Config.pageBytes - off := by
        simp only [List.length_take]; omega
      simp only [pageAddress, Config.pageBytes] at *
      omega

/-! ### The free-page list -/

/-- Taking pages takes them from the head of the list, in order (R47). -/
theorem FreePages.take_toList (f : FreePages) (k : Nat) (h : k ≤ f.count) :
    (f.take k).1 ++ (f.take k).2.toList = f.toList ∧ (f.take k).1.length = k := by
  unfold FreePages.count at h
  by_cases hk : k ≤ Config.pageCount - f.fresh
  · have e : min k (Config.pageCount - f.fresh) = k := Nat.min_eq_left hk
    simp only [FreePages.take, FreePages.toList, e, Nat.sub_self, List.take_zero, List.append_nil, List.drop_zero,
      List.length_range', and_true]
    rw [← List.append_assoc]
    congr 1
    have split := List.range'_append_1 (s := f.fresh) (m := k) (n := Config.pageCount - (f.fresh + k))
    rw [split]
    congr 1
    omega
  · have e : min k (Config.pageCount - f.fresh) = Config.pageCount - f.fresh := Nat.min_eq_right (by omega)
    simp only [FreePages.take, FreePages.toList, e]
    have z : Config.pageCount - (f.fresh + (Config.pageCount - f.fresh)) = 0 := by omega
    rw [z]
    simp only [List.range'_zero, List.nil_append, List.append_assoc, List.take_append_drop, List.length_append,
      List.length_range', List.length_take, true_and]
    omega

/-- Pages given back join the tail, in order (R47). -/
@[simp] theorem FreePages.give_toList (f : FreePages) (pages : List Nat) :
    (f.give pages).toList = f.toList ++ pages := by
  simp [FreePages.give, FreePages.toList]

@[simp] theorem FreePages.count_eq (f : FreePages) : f.toList.length = f.count := by
  simp [FreePages.toList, FreePages.count]

/-- The list after reset holds every page once, in ascending order (R47). -/
theorem FreePages.reset_toList : FreePages.reset.toList = List.range 65536 := by
  simp [FreePages.reset, FreePages.toList, Config.pageCount, List.range_eq_range']

end Sys2Proof.Machine
end

