-- ==== Sys2Proof/Laws/State.lean ====
section
/-! SUPPORT. The small lemmas of State and its parts: one for each field under each named update. -/

namespace Sys2Proof

variable {α : Type}

/-! ### Four-fold families -/

@[simp] theorem Quad.get_set_same (q : Quad α) (h : HeadId) (x : α) : (q.set h x).get h = x := by
  fin_cases h <;> rfl

@[simp] theorem Quad.get_set_ne (q : Quad α) {h g : HeadId} (x : α) (ne : g ≠ h) : (q.set h x).get g = q.get g := by
  fin_cases h <;> fin_cases g <;> first | rfl | exact absurd rfl ne

theorem Quad.get_set (q : Quad α) (h g : HeadId) (x : α) : (q.set h x).get g = if g = h then x else q.get g := by
  by_cases e : g = h
  · subst e; simp
  · simp [e]

@[simp] theorem Quad.set_get (q : Quad α) (h : HeadId) : q.set h (q.get h) = q := by
  fin_cases h <;> rfl

@[simp] theorem Quad.set_set (q : Quad α) (h : HeadId) (x y : α) : (q.set h x).set h y = q.set h y := by
  fin_cases h <;> rfl

@[simp] theorem Quad.get_all (x : α) (h : HeadId) : (Quad.all x).get h = x := by
  fin_cases h <;> rfl

@[simp] theorem Quad.get_map {β : Type} (q : Quad α) (f : α → β) (h : HeadId) : (q.map f).get h = f (q.get h) := by
  fin_cases h <;> rfl

theorem Quad.ext_get {q r : Quad α} (same : ∀ h, q.get h = r.get h) : q = r := by
  have h0 := same 0
  have h1 := same 1
  have h2 := same 2
  have h3 := same 3
  cases q; cases r
  simp only [Quad.mk.injEq]
  exact ⟨h0, h1, h2, h3⟩

namespace Machine

variable (s : State)

/-! ### updHead -/

@[simp] theorem State.updHead_clock (h : HeadId) (f : Head → Head) : (s.updHead h f).clock = s.clock := rfl
@[simp] theorem State.updHead_pins (h : HeadId) (f : Head → Head) : (s.updHead h f).pins = s.pins := rfl
@[simp] theorem State.updHead_machine (h : HeadId) (f : Head → Head) : (s.updHead h f).machine = s.machine := rfl
@[simp] theorem State.updHead_ctu (h : HeadId) (f : Head → Head) : (s.updHead h f).ctu = s.ctu := rfl
@[simp] theorem State.updHead_screens (h : HeadId) (f : Head → Head) : (s.updHead h f).screens = s.screens := rfl
@[simp] theorem State.updHead_curves (h : HeadId) (f : Head → Head) : (s.updHead h f).curves = s.curves := rfl
@[simp] theorem State.updHead_patches (h : HeadId) (f : Head → Head) : (s.updHead h f).patches = s.patches := rfl
@[simp] theorem State.updHead_store (h : HeadId) (f : Head → Head) : (s.updHead h f).store = s.store := rfl
@[simp] theorem State.updHead_buffers (h : HeadId) (f : Head → Head) : (s.updHead h f).buffers = s.buffers := rfl
@[simp] theorem State.updHead_fetch (h : HeadId) (f : Head → Head) : (s.updHead h f).fetch = s.fetch := rfl
@[simp] theorem State.updHead_heads (h : HeadId) (f : Head → Head) : (s.updHead h f).heads = s.heads.set h (f (s.heads.get h)) := rfl
@[simp] theorem State.updHead_axes (h : HeadId) (f : Head → Head) : (s.updHead h f).axes = s.axes := rfl
@[simp] theorem State.updHead_bands (h : HeadId) (f : Head → Head) : (s.updHead h f).bands = s.bands := rfl
@[simp] theorem State.updHead_monitor (h : HeadId) (f : Head → Head) : (s.updHead h f).monitor = s.monitor := rfl
@[simp] theorem State.updHead_link (h : HeadId) (f : Head → Head) : (s.updHead h f).link = s.link := rfl
@[simp] theorem State.updHead_pending (h : HeadId) (f : Head → Head) : (s.updHead h f).pending = s.pending := rfl

/-! ### updAxis -/

@[simp] theorem State.updAxis_clock (k : HeadId) (f : Axis → Axis) : (s.updAxis k f).clock = s.clock := rfl
@[simp] theorem State.updAxis_pins (k : HeadId) (f : Axis → Axis) : (s.updAxis k f).pins = s.pins := rfl
@[simp] theorem State.updAxis_machine (k : HeadId) (f : Axis → Axis) : (s.updAxis k f).machine = s.machine := rfl
@[simp] theorem State.updAxis_ctu (k : HeadId) (f : Axis → Axis) : (s.updAxis k f).ctu = s.ctu := rfl
@[simp] theorem State.updAxis_screens (k : HeadId) (f : Axis → Axis) : (s.updAxis k f).screens = s.screens := rfl
@[simp] theorem State.updAxis_curves (k : HeadId) (f : Axis → Axis) : (s.updAxis k f).curves = s.curves := rfl
@[simp] theorem State.updAxis_patches (k : HeadId) (f : Axis → Axis) : (s.updAxis k f).patches = s.patches := rfl
@[simp] theorem State.updAxis_store (k : HeadId) (f : Axis → Axis) : (s.updAxis k f).store = s.store := rfl
@[simp] theorem State.updAxis_buffers (k : HeadId) (f : Axis → Axis) : (s.updAxis k f).buffers = s.buffers := rfl
@[simp] theorem State.updAxis_fetch (k : HeadId) (f : Axis → Axis) : (s.updAxis k f).fetch = s.fetch := rfl
@[simp] theorem State.updAxis_heads (k : HeadId) (f : Axis → Axis) : (s.updAxis k f).heads = s.heads := rfl
@[simp] theorem State.updAxis_axes (k : HeadId) (f : Axis → Axis) : (s.updAxis k f).axes = s.axes.set k (f (s.axes.get k)) := rfl
@[simp] theorem State.updAxis_bands (k : HeadId) (f : Axis → Axis) : (s.updAxis k f).bands = s.bands := rfl
@[simp] theorem State.updAxis_monitor (k : HeadId) (f : Axis → Axis) : (s.updAxis k f).monitor = s.monitor := rfl
@[simp] theorem State.updAxis_link (k : HeadId) (f : Axis → Axis) : (s.updAxis k f).link = s.link := rfl
@[simp] theorem State.updAxis_pending (k : HeadId) (f : Axis → Axis) : (s.updAxis k f).pending = s.pending := rfl

/-! ### updBands -/

@[simp] theorem State.updBands_clock (h : HeadId) (f : BandSequencer → BandSequencer) : (s.updBands h f).clock = s.clock := rfl
@[simp] theorem State.updBands_pins (h : HeadId) (f : BandSequencer → BandSequencer) : (s.updBands h f).pins = s.pins := rfl
@[simp] theorem State.updBands_machine (h : HeadId) (f : BandSequencer → BandSequencer) : (s.updBands h f).machine = s.machine := rfl
@[simp] theorem State.updBands_ctu (h : HeadId) (f : BandSequencer → BandSequencer) : (s.updBands h f).ctu = s.ctu := rfl
@[simp] theorem State.updBands_screens (h : HeadId) (f : BandSequencer → BandSequencer) : (s.updBands h f).screens = s.screens := rfl
@[simp] theorem State.updBands_curves (h : HeadId) (f : BandSequencer → BandSequencer) : (s.updBands h f).curves = s.curves := rfl
@[simp] theorem State.updBands_patches (h : HeadId) (f : BandSequencer → BandSequencer) : (s.updBands h f).patches = s.patches := rfl
@[simp] theorem State.updBands_store (h : HeadId) (f : BandSequencer → BandSequencer) : (s.updBands h f).store = s.store := rfl
@[simp] theorem State.updBands_buffers (h : HeadId) (f : BandSequencer → BandSequencer) : (s.updBands h f).buffers = s.buffers := rfl
@[simp] theorem State.updBands_fetch (h : HeadId) (f : BandSequencer → BandSequencer) : (s.updBands h f).fetch = s.fetch := rfl
@[simp] theorem State.updBands_heads (h : HeadId) (f : BandSequencer → BandSequencer) : (s.updBands h f).heads = s.heads := rfl
@[simp] theorem State.updBands_axes (h : HeadId) (f : BandSequencer → BandSequencer) : (s.updBands h f).axes = s.axes := rfl
@[simp] theorem State.updBands_bands (h : HeadId) (f : BandSequencer → BandSequencer) : (s.updBands h f).bands = s.bands.set h (f (s.bands.get h)) := rfl
@[simp] theorem State.updBands_monitor (h : HeadId) (f : BandSequencer → BandSequencer) : (s.updBands h f).monitor = s.monitor := rfl
@[simp] theorem State.updBands_link (h : HeadId) (f : BandSequencer → BandSequencer) : (s.updBands h f).link = s.link := rfl
@[simp] theorem State.updBands_pending (h : HeadId) (f : BandSequencer → BandSequencer) : (s.updBands h f).pending = s.pending := rfl

/-! ### updBuffers -/

@[simp] theorem State.updBuffers_clock (h : HeadId) (f : LineBuffers → LineBuffers) : (s.updBuffers h f).clock = s.clock := rfl
@[simp] theorem State.updBuffers_pins (h : HeadId) (f : LineBuffers → LineBuffers) : (s.updBuffers h f).pins = s.pins := rfl
@[simp] theorem State.updBuffers_machine (h : HeadId) (f : LineBuffers → LineBuffers) : (s.updBuffers h f).machine = s.machine := rfl
@[simp] theorem State.updBuffers_ctu (h : HeadId) (f : LineBuffers → LineBuffers) : (s.updBuffers h f).ctu = s.ctu := rfl
@[simp] theorem State.updBuffers_screens (h : HeadId) (f : LineBuffers → LineBuffers) : (s.updBuffers h f).screens = s.screens := rfl
@[simp] theorem State.updBuffers_curves (h : HeadId) (f : LineBuffers → LineBuffers) : (s.updBuffers h f).curves = s.curves := rfl
@[simp] theorem State.updBuffers_patches (h : HeadId) (f : LineBuffers → LineBuffers) : (s.updBuffers h f).patches = s.patches := rfl
@[simp] theorem State.updBuffers_store (h : HeadId) (f : LineBuffers → LineBuffers) : (s.updBuffers h f).store = s.store := rfl
@[simp] theorem State.updBuffers_buffers (h : HeadId) (f : LineBuffers → LineBuffers) : (s.updBuffers h f).buffers = s.buffers.set h (f (s.buffers.get h)) := rfl
@[simp] theorem State.updBuffers_fetch (h : HeadId) (f : LineBuffers → LineBuffers) : (s.updBuffers h f).fetch = s.fetch := rfl
@[simp] theorem State.updBuffers_heads (h : HeadId) (f : LineBuffers → LineBuffers) : (s.updBuffers h f).heads = s.heads := rfl
@[simp] theorem State.updBuffers_axes (h : HeadId) (f : LineBuffers → LineBuffers) : (s.updBuffers h f).axes = s.axes := rfl
@[simp] theorem State.updBuffers_bands (h : HeadId) (f : LineBuffers → LineBuffers) : (s.updBuffers h f).bands = s.bands := rfl
@[simp] theorem State.updBuffers_monitor (h : HeadId) (f : LineBuffers → LineBuffers) : (s.updBuffers h f).monitor = s.monitor := rfl
@[simp] theorem State.updBuffers_link (h : HeadId) (f : LineBuffers → LineBuffers) : (s.updBuffers h f).link = s.link := rfl
@[simp] theorem State.updBuffers_pending (h : HeadId) (f : LineBuffers → LineBuffers) : (s.updBuffers h f).pending = s.pending := rfl

/-! ### setActive -/

@[simp] theorem State.setActive_clock (h : HeadId) (b : Option Band) : (s.setActive h b).clock = s.clock := rfl
@[simp] theorem State.setActive_pins (h : HeadId) (b : Option Band) : (s.setActive h b).pins = s.pins := rfl
@[simp] theorem State.setActive_machine (h : HeadId) (b : Option Band) : (s.setActive h b).machine = s.machine := rfl
@[simp] theorem State.setActive_ctu (h : HeadId) (b : Option Band) : (s.setActive h b).ctu = s.ctu := rfl
@[simp] theorem State.setActive_screens (h : HeadId) (b : Option Band) : (s.setActive h b).screens = s.screens := rfl
@[simp] theorem State.setActive_curves (h : HeadId) (b : Option Band) : (s.setActive h b).curves = s.curves := rfl
@[simp] theorem State.setActive_patches (h : HeadId) (b : Option Band) : (s.setActive h b).patches = s.patches := rfl
@[simp] theorem State.setActive_store (h : HeadId) (b : Option Band) : (s.setActive h b).store = s.store := rfl
@[simp] theorem State.setActive_buffers (h : HeadId) (b : Option Band) : (s.setActive h b).buffers = s.buffers := rfl
@[simp] theorem State.setActive_fetch (h : HeadId) (b : Option Band) : (s.setActive h b).fetch = s.fetch := rfl
@[simp] theorem State.setActive_heads (h : HeadId) (b : Option Band) : (s.setActive h b).heads = s.heads := rfl
@[simp] theorem State.setActive_axes (h : HeadId) (b : Option Band) : (s.setActive h b).axes = s.axes := rfl
@[simp] theorem State.setActive_bands (h : HeadId) (b : Option Band) : (s.setActive h b).bands = s.bands.set h { s.bands.get h with active := b } := rfl
@[simp] theorem State.setActive_monitor (h : HeadId) (b : Option Band) : (s.setActive h b).monitor = s.monitor := rfl
@[simp] theorem State.setActive_link (h : HeadId) (b : Option Band) : (s.setActive h b).link = s.link := rfl
@[simp] theorem State.setActive_pending (h : HeadId) (b : Option Band) : (s.setActive h b).pending = s.pending := rfl

/-! ### updActive -/

@[simp] theorem State.updActive_clock (h : HeadId) (f : Band → Band) : (s.updActive h f).clock = s.clock := rfl
@[simp] theorem State.updActive_pins (h : HeadId) (f : Band → Band) : (s.updActive h f).pins = s.pins := rfl
@[simp] theorem State.updActive_machine (h : HeadId) (f : Band → Band) : (s.updActive h f).machine = s.machine := rfl
@[simp] theorem State.updActive_ctu (h : HeadId) (f : Band → Band) : (s.updActive h f).ctu = s.ctu := rfl
@[simp] theorem State.updActive_screens (h : HeadId) (f : Band → Band) : (s.updActive h f).screens = s.screens := rfl
@[simp] theorem State.updActive_curves (h : HeadId) (f : Band → Band) : (s.updActive h f).curves = s.curves := rfl
@[simp] theorem State.updActive_patches (h : HeadId) (f : Band → Band) : (s.updActive h f).patches = s.patches := rfl
@[simp] theorem State.updActive_store (h : HeadId) (f : Band → Band) : (s.updActive h f).store = s.store := rfl
@[simp] theorem State.updActive_buffers (h : HeadId) (f : Band → Band) : (s.updActive h f).buffers = s.buffers := rfl
@[simp] theorem State.updActive_fetch (h : HeadId) (f : Band → Band) : (s.updActive h f).fetch = s.fetch := rfl
@[simp] theorem State.updActive_heads (h : HeadId) (f : Band → Band) : (s.updActive h f).heads = s.heads := rfl
@[simp] theorem State.updActive_axes (h : HeadId) (f : Band → Band) : (s.updActive h f).axes = s.axes := rfl
@[simp] theorem State.updActive_bands (h : HeadId) (f : Band → Band) : (s.updActive h f).bands = s.bands.set h { s.bands.get h with active := (s.active h).map f } := rfl
@[simp] theorem State.updActive_monitor (h : HeadId) (f : Band → Band) : (s.updActive h f).monitor = s.monitor := rfl
@[simp] theorem State.updActive_link (h : HeadId) (f : Band → Band) : (s.updActive h f).link = s.link := rfl
@[simp] theorem State.updActive_pending (h : HeadId) (f : Band → Band) : (s.updActive h f).pending = s.pending := rfl

/-! ### setStandby -/

@[simp] theorem State.setStandby_clock (h : HeadId) (x : BufferState) : (s.setStandby h x).clock = s.clock := rfl
@[simp] theorem State.setStandby_pins (h : HeadId) (x : BufferState) : (s.setStandby h x).pins = s.pins := rfl
@[simp] theorem State.setStandby_machine (h : HeadId) (x : BufferState) : (s.setStandby h x).machine = s.machine := rfl
@[simp] theorem State.setStandby_ctu (h : HeadId) (x : BufferState) : (s.setStandby h x).ctu = s.ctu := rfl
@[simp] theorem State.setStandby_screens (h : HeadId) (x : BufferState) : (s.setStandby h x).screens = s.screens := rfl
@[simp] theorem State.setStandby_curves (h : HeadId) (x : BufferState) : (s.setStandby h x).curves = s.curves := rfl
@[simp] theorem State.setStandby_patches (h : HeadId) (x : BufferState) : (s.setStandby h x).patches = s.patches := rfl
@[simp] theorem State.setStandby_store (h : HeadId) (x : BufferState) : (s.setStandby h x).store = s.store := rfl
@[simp] theorem State.setStandby_buffers (h : HeadId) (x : BufferState) : (s.setStandby h x).buffers = s.buffers.set h ((s.buffers.get h).setStandby { (s.buffers.get h).standby with held := x }) := rfl
@[simp] theorem State.setStandby_fetch (h : HeadId) (x : BufferState) : (s.setStandby h x).fetch = s.fetch := rfl
@[simp] theorem State.setStandby_heads (h : HeadId) (x : BufferState) : (s.setStandby h x).heads = s.heads := rfl
@[simp] theorem State.setStandby_axes (h : HeadId) (x : BufferState) : (s.setStandby h x).axes = s.axes := rfl
@[simp] theorem State.setStandby_bands (h : HeadId) (x : BufferState) : (s.setStandby h x).bands = s.bands := rfl
@[simp] theorem State.setStandby_monitor (h : HeadId) (x : BufferState) : (s.setStandby h x).monitor = s.monitor := rfl
@[simp] theorem State.setStandby_link (h : HeadId) (x : BufferState) : (s.setStandby h x).link = s.link := rfl
@[simp] theorem State.setStandby_pending (h : HeadId) (x : BufferState) : (s.setStandby h x).pending = s.pending := rfl

/-! ### setStarved -/

@[simp] theorem State.setStarved_clock (h : HeadId) (x : Bool) : (s.setStarved h x).clock = s.clock := rfl
@[simp] theorem State.setStarved_pins (h : HeadId) (x : Bool) : (s.setStarved h x).pins = s.pins := rfl
@[simp] theorem State.setStarved_machine (h : HeadId) (x : Bool) : (s.setStarved h x).machine = s.machine := rfl
@[simp] theorem State.setStarved_ctu (h : HeadId) (x : Bool) : (s.setStarved h x).ctu = s.ctu := rfl
@[simp] theorem State.setStarved_screens (h : HeadId) (x : Bool) : (s.setStarved h x).screens = s.screens := rfl
@[simp] theorem State.setStarved_curves (h : HeadId) (x : Bool) : (s.setStarved h x).curves = s.curves := rfl
@[simp] theorem State.setStarved_patches (h : HeadId) (x : Bool) : (s.setStarved h x).patches = s.patches := rfl
@[simp] theorem State.setStarved_store (h : HeadId) (x : Bool) : (s.setStarved h x).store = { s.store with starved := s.store.starved.set h x } := rfl
@[simp] theorem State.setStarved_buffers (h : HeadId) (x : Bool) : (s.setStarved h x).buffers = s.buffers := rfl
@[simp] theorem State.setStarved_fetch (h : HeadId) (x : Bool) : (s.setStarved h x).fetch = s.fetch := rfl
@[simp] theorem State.setStarved_heads (h : HeadId) (x : Bool) : (s.setStarved h x).heads = s.heads := rfl
@[simp] theorem State.setStarved_axes (h : HeadId) (x : Bool) : (s.setStarved h x).axes = s.axes := rfl
@[simp] theorem State.setStarved_bands (h : HeadId) (x : Bool) : (s.setStarved h x).bands = s.bands := rfl
@[simp] theorem State.setStarved_monitor (h : HeadId) (x : Bool) : (s.setStarved h x).monitor = s.monitor := rfl
@[simp] theorem State.setStarved_link (h : HeadId) (x : Bool) : (s.setStarved h x).link = s.link := rfl
@[simp] theorem State.setStarved_pending (h : HeadId) (x : Bool) : (s.setStarved h x).pending = s.pending := rfl

/-! ### setMonitor -/

@[simp] theorem State.setMonitor_clock (m : Monitor) : (s.setMonitor m).clock = s.clock := rfl
@[simp] theorem State.setMonitor_pins (m : Monitor) : (s.setMonitor m).pins = s.pins := rfl
@[simp] theorem State.setMonitor_machine (m : Monitor) : (s.setMonitor m).machine = s.machine := rfl
@[simp] theorem State.setMonitor_ctu (m : Monitor) : (s.setMonitor m).ctu = s.ctu := rfl
@[simp] theorem State.setMonitor_screens (m : Monitor) : (s.setMonitor m).screens = s.screens := rfl
@[simp] theorem State.setMonitor_curves (m : Monitor) : (s.setMonitor m).curves = s.curves := rfl
@[simp] theorem State.setMonitor_patches (m : Monitor) : (s.setMonitor m).patches = s.patches := rfl
@[simp] theorem State.setMonitor_store (m : Monitor) : (s.setMonitor m).store = s.store := rfl
@[simp] theorem State.setMonitor_buffers (m : Monitor) : (s.setMonitor m).buffers = s.buffers := rfl
@[simp] theorem State.setMonitor_fetch (m : Monitor) : (s.setMonitor m).fetch = s.fetch := rfl
@[simp] theorem State.setMonitor_heads (m : Monitor) : (s.setMonitor m).heads = s.heads := rfl
@[simp] theorem State.setMonitor_axes (m : Monitor) : (s.setMonitor m).axes = s.axes := rfl
@[simp] theorem State.setMonitor_bands (m : Monitor) : (s.setMonitor m).bands = s.bands := rfl
@[simp] theorem State.setMonitor_monitor (m : Monitor) : (s.setMonitor m).monitor = m := rfl
@[simp] theorem State.setMonitor_link (m : Monitor) : (s.setMonitor m).link = s.link := rfl
@[simp] theorem State.setMonitor_pending (m : Monitor) : (s.setMonitor m).pending = s.pending := rfl

/-! ### setScreen -/

@[simp] theorem State.setScreen_clock (i : Fin 16) (x : Screen) : (s.setScreen i x).clock = s.clock := rfl
@[simp] theorem State.setScreen_pins (i : Fin 16) (x : Screen) : (s.setScreen i x).pins = s.pins := rfl
@[simp] theorem State.setScreen_machine (i : Fin 16) (x : Screen) : (s.setScreen i x).machine = s.machine := rfl
@[simp] theorem State.setScreen_ctu (i : Fin 16) (x : Screen) : (s.setScreen i x).ctu = s.ctu := rfl
@[simp] theorem State.setScreen_screens (i : Fin 16) (x : Screen) : (s.setScreen i x).screens = s.screens.set i.val x i.isLt := rfl
@[simp] theorem State.setScreen_curves (i : Fin 16) (x : Screen) : (s.setScreen i x).curves = s.curves := rfl
@[simp] theorem State.setScreen_patches (i : Fin 16) (x : Screen) : (s.setScreen i x).patches = s.patches := rfl
@[simp] theorem State.setScreen_store (i : Fin 16) (x : Screen) : (s.setScreen i x).store = s.store := rfl
@[simp] theorem State.setScreen_buffers (i : Fin 16) (x : Screen) : (s.setScreen i x).buffers = s.buffers := rfl
@[simp] theorem State.setScreen_fetch (i : Fin 16) (x : Screen) : (s.setScreen i x).fetch = s.fetch := rfl
@[simp] theorem State.setScreen_heads (i : Fin 16) (x : Screen) : (s.setScreen i x).heads = s.heads := rfl
@[simp] theorem State.setScreen_axes (i : Fin 16) (x : Screen) : (s.setScreen i x).axes = s.axes := rfl
@[simp] theorem State.setScreen_bands (i : Fin 16) (x : Screen) : (s.setScreen i x).bands = s.bands := rfl
@[simp] theorem State.setScreen_monitor (i : Fin 16) (x : Screen) : (s.setScreen i x).monitor = s.monitor := rfl
@[simp] theorem State.setScreen_link (i : Fin 16) (x : Screen) : (s.setScreen i x).link = s.link := rfl
@[simp] theorem State.setScreen_pending (i : Fin 16) (x : Screen) : (s.setScreen i x).pending = s.pending := rfl

/-! ### setCurve -/

@[simp] theorem State.setCurve_clock (i : Fin 8) (x : List Nat) : (s.setCurve i x).clock = s.clock := rfl
@[simp] theorem State.setCurve_pins (i : Fin 8) (x : List Nat) : (s.setCurve i x).pins = s.pins := rfl
@[simp] theorem State.setCurve_machine (i : Fin 8) (x : List Nat) : (s.setCurve i x).machine = s.machine := rfl
@[simp] theorem State.setCurve_ctu (i : Fin 8) (x : List Nat) : (s.setCurve i x).ctu = s.ctu := rfl
@[simp] theorem State.setCurve_screens (i : Fin 8) (x : List Nat) : (s.setCurve i x).screens = s.screens := rfl
@[simp] theorem State.setCurve_curves (i : Fin 8) (x : List Nat) : (s.setCurve i x).curves = s.curves.set i.val x i.isLt := rfl
@[simp] theorem State.setCurve_patches (i : Fin 8) (x : List Nat) : (s.setCurve i x).patches = s.patches := rfl
@[simp] theorem State.setCurve_store (i : Fin 8) (x : List Nat) : (s.setCurve i x).store = s.store := rfl
@[simp] theorem State.setCurve_buffers (i : Fin 8) (x : List Nat) : (s.setCurve i x).buffers = s.buffers := rfl
@[simp] theorem State.setCurve_fetch (i : Fin 8) (x : List Nat) : (s.setCurve i x).fetch = s.fetch := rfl
@[simp] theorem State.setCurve_heads (i : Fin 8) (x : List Nat) : (s.setCurve i x).heads = s.heads := rfl
@[simp] theorem State.setCurve_axes (i : Fin 8) (x : List Nat) : (s.setCurve i x).axes = s.axes := rfl
@[simp] theorem State.setCurve_bands (i : Fin 8) (x : List Nat) : (s.setCurve i x).bands = s.bands := rfl
@[simp] theorem State.setCurve_monitor (i : Fin 8) (x : List Nat) : (s.setCurve i x).monitor = s.monitor := rfl
@[simp] theorem State.setCurve_link (i : Fin 8) (x : List Nat) : (s.setCurve i x).link = s.link := rfl
@[simp] theorem State.setCurve_pending (i : Fin 8) (x : List Nat) : (s.setCurve i x).pending = s.pending := rfl

/-! ### post -/

@[simp] theorem State.post_clock (id : NoticeId) (c : NoticeContent) : (s.post id c).clock = s.clock := rfl
@[simp] theorem State.post_pins (id : NoticeId) (c : NoticeContent) : (s.post id c).pins = s.pins := rfl
@[simp] theorem State.post_machine (id : NoticeId) (c : NoticeContent) : (s.post id c).machine = s.machine := rfl
@[simp] theorem State.post_ctu (id : NoticeId) (c : NoticeContent) : (s.post id c).ctu = s.ctu := rfl
@[simp] theorem State.post_screens (id : NoticeId) (c : NoticeContent) : (s.post id c).screens = s.screens := rfl
@[simp] theorem State.post_curves (id : NoticeId) (c : NoticeContent) : (s.post id c).curves = s.curves := rfl
@[simp] theorem State.post_patches (id : NoticeId) (c : NoticeContent) : (s.post id c).patches = s.patches := rfl
@[simp] theorem State.post_store (id : NoticeId) (c : NoticeContent) : (s.post id c).store = s.store := rfl
@[simp] theorem State.post_buffers (id : NoticeId) (c : NoticeContent) : (s.post id c).buffers = s.buffers := rfl
@[simp] theorem State.post_fetch (id : NoticeId) (c : NoticeContent) : (s.post id c).fetch = s.fetch := rfl
@[simp] theorem State.post_heads (id : NoticeId) (c : NoticeContent) : (s.post id c).heads = s.heads := rfl
@[simp] theorem State.post_axes (id : NoticeId) (c : NoticeContent) : (s.post id c).axes = s.axes := rfl
@[simp] theorem State.post_bands (id : NoticeId) (c : NoticeContent) : (s.post id c).bands = s.bands := rfl
@[simp] theorem State.post_monitor (id : NoticeId) (c : NoticeContent) : (s.post id c).monitor = s.monitor := rfl
@[simp] theorem State.post_link (id : NoticeId) (c : NoticeContent) : (s.post id c).link = s.link.post id c := rfl
@[simp] theorem State.post_pending (id : NoticeId) (c : NoticeContent) : (s.post id c).pending = s.pending := rfl

/-! ### respond -/

@[simp] theorem State.respond_clock (kind tag : Byte) (r : Response) : (s.respond kind tag r).clock = s.clock := rfl
@[simp] theorem State.respond_pins (kind tag : Byte) (r : Response) : (s.respond kind tag r).pins = s.pins := rfl
@[simp] theorem State.respond_machine (kind tag : Byte) (r : Response) : (s.respond kind tag r).machine = s.machine := rfl
@[simp] theorem State.respond_ctu (kind tag : Byte) (r : Response) : (s.respond kind tag r).ctu = s.ctu := rfl
@[simp] theorem State.respond_screens (kind tag : Byte) (r : Response) : (s.respond kind tag r).screens = s.screens := rfl
@[simp] theorem State.respond_curves (kind tag : Byte) (r : Response) : (s.respond kind tag r).curves = s.curves := rfl
@[simp] theorem State.respond_patches (kind tag : Byte) (r : Response) : (s.respond kind tag r).patches = s.patches := rfl
@[simp] theorem State.respond_store (kind tag : Byte) (r : Response) : (s.respond kind tag r).store = s.store := rfl
@[simp] theorem State.respond_buffers (kind tag : Byte) (r : Response) : (s.respond kind tag r).buffers = s.buffers := rfl
@[simp] theorem State.respond_fetch (kind tag : Byte) (r : Response) : (s.respond kind tag r).fetch = s.fetch := rfl
@[simp] theorem State.respond_heads (kind tag : Byte) (r : Response) : (s.respond kind tag r).heads = s.heads := rfl
@[simp] theorem State.respond_axes (kind tag : Byte) (r : Response) : (s.respond kind tag r).axes = s.axes := rfl
@[simp] theorem State.respond_bands (kind tag : Byte) (r : Response) : (s.respond kind tag r).bands = s.bands := rfl
@[simp] theorem State.respond_monitor (kind tag : Byte) (r : Response) : (s.respond kind tag r).monitor = s.monitor := rfl
@[simp] theorem State.respond_link (kind tag : Byte) (r : Response) : (s.respond kind tag r).link = { s.link with
      outbound := s.link.outbound ++ [⟨kind + 0x80, tag, r.status, r.reason, r.content⟩] } := rfl
@[simp] theorem State.respond_pending (kind tag : Byte) (r : Response) : (s.respond kind tag r).pending = s.pending := rfl

/-! ### handed -/

@[simp] theorem State.handed_clock : (s.handed).clock = s.clock := rfl
@[simp] theorem State.handed_pins : (s.handed).pins = s.pins := rfl
@[simp] theorem State.handed_machine : (s.handed).machine = s.machine := rfl
@[simp] theorem State.handed_ctu : (s.handed).ctu = s.ctu := rfl
@[simp] theorem State.handed_screens : (s.handed).screens = s.screens := rfl
@[simp] theorem State.handed_curves : (s.handed).curves = s.curves := rfl
@[simp] theorem State.handed_patches : (s.handed).patches = s.patches := rfl
@[simp] theorem State.handed_store : (s.handed).store = s.store := rfl
@[simp] theorem State.handed_buffers : (s.handed).buffers = s.buffers := rfl
@[simp] theorem State.handed_fetch : (s.handed).fetch = s.fetch := rfl
@[simp] theorem State.handed_heads : (s.handed).heads = s.heads := rfl
@[simp] theorem State.handed_axes : (s.handed).axes = s.axes := rfl
@[simp] theorem State.handed_bands : (s.handed).bands = s.bands := rfl
@[simp] theorem State.handed_monitor : (s.handed).monitor = s.monitor := rfl
@[simp] theorem State.handed_link : (s.handed).link = { s.link with inbound := s.link.inbound.tail } := rfl
@[simp] theorem State.handed_pending : (s.handed).pending = s.pending := rfl

/-! ### settled -/

@[simp] theorem State.settled_clock : (s.settled).clock = s.clock := rfl
@[simp] theorem State.settled_pins : (s.settled).pins = s.pins := rfl
@[simp] theorem State.settled_machine : (s.settled).machine = s.machine := rfl
@[simp] theorem State.settled_ctu : (s.settled).ctu = s.ctu := rfl
@[simp] theorem State.settled_screens : (s.settled).screens = s.screens := rfl
@[simp] theorem State.settled_curves : (s.settled).curves = s.curves := rfl
@[simp] theorem State.settled_patches : (s.settled).patches = s.patches := rfl
@[simp] theorem State.settled_store : (s.settled).store = s.store := rfl
@[simp] theorem State.settled_buffers : (s.settled).buffers = s.buffers := rfl
@[simp] theorem State.settled_fetch : (s.settled).fetch = s.fetch := rfl
@[simp] theorem State.settled_heads : (s.settled).heads = s.heads := rfl
@[simp] theorem State.settled_axes : (s.settled).axes = s.axes := rfl
@[simp] theorem State.settled_bands : (s.settled).bands = s.bands := rfl
@[simp] theorem State.settled_monitor : (s.settled).monitor = s.monitor := rfl
@[simp] theorem State.settled_link : (s.settled).link = s.link.choose := rfl
@[simp] theorem State.settled_pending : (s.settled).pending = s.pending := rfl

/-! ### postCylinder -/

@[simp] theorem State.postCylinder_clock (e : CylEvent) : (s.postCylinder e).clock = s.clock := rfl
@[simp] theorem State.postCylinder_pins (e : CylEvent) : (s.postCylinder e).pins = s.pins := rfl
@[simp] theorem State.postCylinder_machine (e : CylEvent) : (s.postCylinder e).machine = s.machine := rfl
@[simp] theorem State.postCylinder_ctu (e : CylEvent) : (s.postCylinder e).ctu = s.ctu := rfl
@[simp] theorem State.postCylinder_screens (e : CylEvent) : (s.postCylinder e).screens = s.screens := rfl
@[simp] theorem State.postCylinder_curves (e : CylEvent) : (s.postCylinder e).curves = s.curves := rfl
@[simp] theorem State.postCylinder_patches (e : CylEvent) : (s.postCylinder e).patches = s.patches := rfl
@[simp] theorem State.postCylinder_store (e : CylEvent) : (s.postCylinder e).store = s.store := rfl
@[simp] theorem State.postCylinder_buffers (e : CylEvent) : (s.postCylinder e).buffers = s.buffers := rfl
@[simp] theorem State.postCylinder_fetch (e : CylEvent) : (s.postCylinder e).fetch = s.fetch := rfl
@[simp] theorem State.postCylinder_heads (e : CylEvent) : (s.postCylinder e).heads = s.heads := rfl
@[simp] theorem State.postCylinder_axes (e : CylEvent) : (s.postCylinder e).axes = s.axes := rfl
@[simp] theorem State.postCylinder_bands (e : CylEvent) : (s.postCylinder e).bands = s.bands := rfl
@[simp] theorem State.postCylinder_monitor (e : CylEvent) : (s.postCylinder e).monitor = s.monitor := rfl
@[simp] theorem State.postCylinder_link (e : CylEvent) : (s.postCylinder e).link = s.link.post .cylinder (.cylinder e s.ctu.timing s.ctu.ready s.ctu.revs s.timestamp) := rfl
@[simp] theorem State.postCylinder_pending (e : CylEvent) : (s.postCylinder e).pending = s.pending := rfl

/-! ### takeUp and count -/

@[simp] theorem State.takeUp_clock : s.takeUp.clock = s.clock := rfl
@[simp] theorem State.takeUp_pins : s.takeUp.pins = s.pins := rfl
@[simp] theorem State.takeUp_machine : s.takeUp.machine = s.machine := rfl
@[simp] theorem State.takeUp_ctu : s.takeUp.ctu = { s.ctu with acting := s.written } := rfl
@[simp] theorem State.takeUp_screens : s.takeUp.screens = s.screens := rfl
@[simp] theorem State.takeUp_curves : s.takeUp.curves = s.curves := rfl
@[simp] theorem State.takeUp_patches : s.takeUp.patches = s.patches := rfl
@[simp] theorem State.takeUp_store : s.takeUp.store = s.store := rfl
@[simp] theorem State.takeUp_buffers : s.takeUp.buffers = s.buffers := rfl
@[simp] theorem State.takeUp_fetch : s.takeUp.fetch = s.fetch := rfl
@[simp] theorem State.takeUp_heads : s.takeUp.heads = s.heads := rfl
@[simp] theorem State.takeUp_axes : s.takeUp.axes = s.axes := rfl
@[simp] theorem State.takeUp_bands : s.takeUp.bands = s.bands := rfl
@[simp] theorem State.takeUp_monitor : s.takeUp.monitor = s.monitor := rfl
@[simp] theorem State.takeUp_link : s.takeUp.link = s.link := rfl
@[simp] theorem State.takeUp_pending : s.takeUp.pending = s.pending := rfl

@[simp] theorem State.count_clock (forward : Bool) : (s.count forward).clock = s.clock := rfl
@[simp] theorem State.count_pins (forward : Bool) : (s.count forward).pins = s.pins := rfl
@[simp] theorem State.count_machine (forward : Bool) : (s.count forward).machine = s.machine := rfl
@[simp] theorem State.count_ctu (forward : Bool) : (s.count forward).ctu = s.takeUp.ctu.counted forward := rfl
@[simp] theorem State.count_screens (forward : Bool) : (s.count forward).screens = s.screens := rfl
@[simp] theorem State.count_curves (forward : Bool) : (s.count forward).curves = s.curves := rfl
@[simp] theorem State.count_patches (forward : Bool) : (s.count forward).patches = s.patches := rfl
@[simp] theorem State.count_store (forward : Bool) : (s.count forward).store = s.store := rfl
@[simp] theorem State.count_buffers (forward : Bool) : (s.count forward).buffers = s.buffers := rfl
@[simp] theorem State.count_fetch (forward : Bool) : (s.count forward).fetch = s.fetch := rfl
@[simp] theorem State.count_heads (forward : Bool) : (s.count forward).heads = s.heads := rfl
@[simp] theorem State.count_axes (forward : Bool) : (s.count forward).axes = s.axes := rfl
@[simp] theorem State.count_bands (forward : Bool) : (s.count forward).bands = s.bands := rfl
@[simp] theorem State.count_monitor (forward : Bool) : (s.count forward).monitor = s.monitor := rfl
@[simp] theorem State.count_link (forward : Bool) : (s.count forward).link = s.link := rfl
@[simp] theorem State.count_pending (forward : Bool) : (s.count forward).pending = s.pending := rfl

@[simp] theorem State.takeUp_fitted (h : HeadId) : s.takeUp.fitted h = decide (h.val < s.machine.fitted) := rfl
@[simp] theorem State.takeUp_startAngle (h : HeadId) : s.takeUp.startAngle h = (s.heads.get h).settings.startAngle := by
  simp [State.startAngle, State.written]

/-! ### elapse -/

@[simp] theorem State.elapse_zero : s.elapse 0 = s := rfl

@[simp] theorem State.elapse_pins (n : Nat) : (s.elapse n).pins = s.pins := by
  unfold State.elapse; split <;> rfl
@[simp] theorem State.elapse_machine (n : Nat) : (s.elapse n).machine = s.machine := by
  unfold State.elapse; split <;> rfl
@[simp] theorem State.elapse_screens (n : Nat) : (s.elapse n).screens = s.screens := by
  unfold State.elapse; split <;> rfl
@[simp] theorem State.elapse_curves (n : Nat) : (s.elapse n).curves = s.curves := by
  unfold State.elapse; split <;> rfl
@[simp] theorem State.elapse_patches (n : Nat) : (s.elapse n).patches = s.patches := by
  unfold State.elapse; split <;> rfl
@[simp] theorem State.elapse_store (n : Nat) : (s.elapse n).store = s.store := by
  unfold State.elapse; split <;> rfl
@[simp] theorem State.elapse_buffers (n : Nat) : (s.elapse n).buffers = s.buffers := by
  unfold State.elapse; split <;> rfl
@[simp] theorem State.elapse_fetch (n : Nat) : (s.elapse n).fetch = s.fetch := by
  unfold State.elapse; split <;> rfl
@[simp] theorem State.elapse_axes (n : Nat) : (s.elapse n).axes = s.axes := by
  unfold State.elapse; split <;> rfl
@[simp] theorem State.elapse_bands (n : Nat) : (s.elapse n).bands = s.bands := by
  unfold State.elapse; split <;> rfl
@[simp] theorem State.elapse_monitor (n : Nat) : (s.elapse n).monitor = s.monitor := by
  unfold State.elapse; split <;> rfl
@[simp] theorem State.elapse_pending (n : Nat) : (s.elapse n).pending = s.pending := by
  unfold State.elapse; split <;> rfl

@[simp] theorem State.elapse_clock (n : Nat) : (s.elapse n).clock = s.clock + n := by
  unfold State.elapse
  split
  · next h => simp [h]
  · rfl

/-- A passage of time adds its length to the clock; a due time that has been reached adds nothing. -/
theorem State.reach_clock (due : Nat) : (s.reach due).clock = max s.clock due := by
  simp only [State.reach, State.elapse_clock]
  omega

/-! ### Settings and states of a head under its updates -/

@[simp] theorem State.updHead_get_same (h : HeadId) (f : Head → Head) :
    (s.updHead h f).heads.get h = f (s.heads.get h) := by simp

@[simp] theorem State.updAxis_get_same (k : HeadId) (f : Axis → Axis) :
    (s.updAxis k f).axes.get k = f (s.axes.get k) := by simp

@[simp] theorem State.setActive_active (h : HeadId) (b : Option Band) : (s.setActive h b).active h = b := by
  simp [State.active]

@[simp] theorem State.active_updHead (h g : HeadId) (f : Head → Head) : (s.updHead h f).active g = s.active g := rfl
@[simp] theorem State.active_updAxis (k g : HeadId) (f : Axis → Axis) : (s.updAxis k f).active g = s.active g := rfl
@[simp] theorem State.active_updBuffers (h g : HeadId) (f : LineBuffers → LineBuffers) :
    (s.updBuffers h f).active g = s.active g := rfl
@[simp] theorem State.active_post (g : HeadId) (id : NoticeId) (c : NoticeContent) :
    (s.post id c).active g = s.active g := rfl
@[simp] theorem State.timestamp_post (id : NoticeId) (c : NoticeContent) :
    (s.post id c).timestamp = s.timestamp := rfl

/-! ### The link's own updates -/

@[simp] theorem Link.setEntry_inbound (l : Link) (id : NoticeId) (e : NoticeEntry) :
    (l.setEntry id e).inbound = l.inbound := rfl
@[simp] theorem Link.setEntry_outbound (l : Link) (id : NoticeId) (e : NoticeEntry) :
    (l.setEntry id e).outbound = l.outbound := rfl
@[simp] theorem Link.setEntry_sending (l : Link) (id : NoticeId) (e : NoticeEntry) :
    (l.setEntry id e).sending = l.sending := rfl
@[simp] theorem Link.setEntry_groups (l : Link) (id : NoticeId) (e : NoticeEntry) :
    (l.setEntry id e).groups = l.groups := rfl
@[simp] theorem Link.setEntry_received (l : Link) (id : NoticeId) (e : NoticeEntry) :
    (l.setEntry id e).received = l.received := rfl
@[simp] theorem Link.post_inbound (l : Link) (id : NoticeId) (c : NoticeContent) :
    (l.post id c).inbound = l.inbound := rfl
@[simp] theorem Link.post_outbound (l : Link) (id : NoticeId) (c : NoticeContent) :
    (l.post id c).outbound = l.outbound := rfl
@[simp] theorem Link.post_sending (l : Link) (id : NoticeId) (c : NoticeContent) :
    (l.post id c).sending = l.sending := rfl
@[simp] theorem Link.post_groups (l : Link) (id : NoticeId) (c : NoticeContent) :
    (l.post id c).groups = l.groups := rfl
@[simp] theorem Link.post_received (l : Link) (id : NoticeId) (c : NoticeContent) :
    (l.post id c).received = l.received := rfl

/-! ### The outputs of an axis -/

@[simp] theorem Axis.drive_state (a : Axis) (m : Move) : (a.drive m).state = a.state := rfl
@[simp] theorem Axis.drive_position (a : Axis) (m : Move) : (a.drive m).position = a.position := rfl
@[simp] theorem Axis.drive_lastKnown (a : Axis) (m : Move) : (a.drive m).lastKnown = a.lastKnown := rfl
@[simp] theorem Axis.drive_target (a : Axis) (m : Move) : (a.drive m).target = a.target := rfl
@[simp] theorem Axis.drive_move (a : Axis) (m : Move) : (a.drive m).move = some m := rfl
@[simp] theorem Axis.drive_homeSteps (a : Axis) (m : Move) : (a.drive m).homeSteps = a.homeSteps := rfl
@[simp] theorem Axis.drive_lastFault (a : Axis) (m : Move) : (a.drive m).lastFault = a.lastFault := rfl
@[simp] theorem Axis.drive_feed (a : Axis) (m : Move) : (a.drive m).feed = a.feed := rfl
@[simp] theorem Axis.drive_outputs (a : Axis) (m : Move) : (a.drive m).outputs = { a.outputs with up := m.up } := rfl
@[simp] theorem Axis.drive_settings (a : Axis) (m : Move) : (a.drive m).settings = a.settings := rfl

@[simp] theorem Axis.pulse_state (a : Axis) (n : Nat) : (a.pulse n).state = a.state := rfl
@[simp] theorem Axis.pulse_position (a : Axis) (n : Nat) : (a.pulse n).position = a.position := rfl
@[simp] theorem Axis.pulse_lastKnown (a : Axis) (n : Nat) : (a.pulse n).lastKnown = a.lastKnown := rfl
@[simp] theorem Axis.pulse_target (a : Axis) (n : Nat) : (a.pulse n).target = a.target := rfl
@[simp] theorem Axis.pulse_move (a : Axis) (n : Nat) : (a.pulse n).move = a.move := rfl
@[simp] theorem Axis.pulse_homeSteps (a : Axis) (n : Nat) : (a.pulse n).homeSteps = a.homeSteps := rfl
@[simp] theorem Axis.pulse_lastFault (a : Axis) (n : Nat) : (a.pulse n).lastFault = a.lastFault := rfl
@[simp] theorem Axis.pulse_feed (a : Axis) (n : Nat) : (a.pulse n).feed = a.feed := rfl
@[simp] theorem Axis.pulse_outputs (a : Axis) (n : Nat) : (a.pulse n).outputs = { a.outputs with pulses := a.outputs.pulses + n } := rfl
@[simp] theorem Axis.pulse_settings (a : Axis) (n : Nat) : (a.pulse n).settings = a.settings := rfl

/-! ### Line buffers -/

@[simp] theorem LineBuffers.standby_setStandby (b : LineBuffers) (x : LineBuffer) :
    (b.setStandby x).standby = x := by
  cases b with
  | mk b0 b1 o => cases o <;> rfl

@[simp] theorem LineBuffers.active_setStandby (b : LineBuffers) (x : LineBuffer) :
    (b.setStandby x).active = b.active := by
  cases b with
  | mk b0 b1 o => cases o <;> rfl

/-- The swap of R80: the STANDBY becomes ACTIVE as it stands, and the other becomes an EMPTY STANDBY with its cells. -/
theorem LineBuffers.swapped_spec (b : LineBuffers) :
    b.swapped.active = b.standby ∧ b.swapped.standby = { b.active with held := .empty } := by
  cases b with
  | mk b0 b1 o => cases o <;> exact ⟨rfl, rfl⟩

/-- The end of a band empties both buffers, which keep their roles and cells (R69). -/
theorem LineBuffers.emptied_spec (b : LineBuffers) :
    b.emptied.active = { b.active with held := .empty } ∧ b.emptied.standby = { b.standby with held := .empty } ∧
      b.emptied.oneActive = b.oneActive := by
  cases b with
  | mk b0 b1 o => cases o <;> exact ⟨rfl, rfl, rfl⟩

end Machine

end Sys2Proof
end

