-- ==== Sys2Proof/Laws/Ops.lean ====
section
/-! SUPPORT. One lemma for each shared operation: everything it can do. -/

namespace Sys2Proof.Machine

/-! ### Requests -/

/-- What a request command does: it is an arrival that cannot be handed, or it is handed, and then answered BAD_LENGTH by
the Link Interface or by what its owner does and answers (R164, R165). -/
theorem State.request_cases {α : Type} (s : State) (f : Frame) (fields : Option α) (owner : α → State → State × Response) :
    (s.canHand f = false ∧ s.request f fields owner = { s with link := s.link.accept f }) ∨
      (s.canHand f = true ∧ fields = none ∧
        s.request f fields owner = s.handed.respond f.kind f.tag (Response.badLength [])) ∨
      ∃ a, s.canHand f = true ∧ fields = some a ∧
        s.request f fields owner = (owner a s.handed).1.respond f.kind f.tag (owner a s.handed).2 := by
  unfold State.request
  cases h : s.canHand f with
  | false => left; simp
  | true =>
    right
    cases fields with
    | none => left; simp
    | some a => right; exact ⟨a, by simp⟩

/-- A request that is handed with readable fields. -/
theorem State.request_taken {α : Type} (s : State) (f : Frame) (a : α) (owner : α → State → State × Response)
    (h : s.canHand f = true) :
    s.request f (some a) owner = (owner a s.handed).1.respond f.kind f.tag (owner a s.handed).2 := by
  simp [State.request, h]

/-- The check of a carried head or axis number: BAD_FIELD, NOT_FITTED, or the head's own case. -/
theorem onFitted_cases (n : Nat) (s : State) (f : HeadId → State × Response) :
    (headOf n = none ∧ onFitted n s f = (s, Response.badField [])) ∨
      (∃ h, headOf n = some h ∧ s.fitted h = false ∧ onFitted n s f = (s, Response.refused .notFitted [])) ∨
      ∃ h, headOf n = some h ∧ s.fitted h = true ∧ onFitted n s f = f h := by
  unfold onFitted
  cases hn : headOf n with
  | none => left; simp
  | some h =>
    right
    cases hf : s.fitted h with
    | false => left; exact ⟨h, rfl, hf, by simp [hf]⟩
    | true => right; exact ⟨h, rfl, hf, by simp [hf]⟩

/-- A command that runs ends with the transmitter's choice. -/
theorem State.done_eq (s : State) : s.done = .next { s with link := s.link.choose } := rfl

/-- What the transmitter's choice does (R167, R168, R172). -/
theorem Link.choose_cases (l : Link) :
    l.choose = l ∨
      (∃ r rs, l.outbound = r :: rs ∧ l.sending = none ∧
        l.choose = { l with outbound := rs, sending := some (sendReply r) }) ∨
      ∃ id, l.outbound = [] ∧ l.sending = none ∧ l.firstNotice = some id ∧
        l.choose = { l.setEntry id { l.entry id with pending := false, count := 0 } with
          sending := some (sendNotice id (l.entry id)) } := by
  unfold Link.choose
  split
  · left; rfl
  · next busy =>
    have free : l.sending = none := by
      cases h : l.sending with
      | none => rfl
      | some x => simp [h] at busy
    split
    · next r rs h => right; left; exact ⟨r, rs, h, free, rfl⟩
    · next h =>
      split
      · next id h' => right; right; exact ⟨id, h, free, h', rfl⟩
      · left; rfl

/-- The transmitter's choice leaves the inbound list, the receiver and the groups alone. -/
theorem Link.choose_frame (l : Link) :
    l.choose.inbound = l.inbound ∧ l.choose.received = l.received ∧ l.choose.stall = l.stall ∧
      l.choose.groups = l.groups ∧ l.choose.errors = l.errors ∧ l.choose.lastError = l.lastError ∧
      l.choose.resetTaken = l.resetTaken ∧ l.choose.resetSent = l.resetSent := by
  rcases l.choose_cases with h | ⟨r, rs, -, -, h⟩ | ⟨id, -, -, -, h⟩ <;> rw [h] <;>
    exact ⟨rfl, rfl, rfl, rfl, rfl, rfl, rfl, rfl⟩

/-- A second choice in the same step chooses nothing more. -/
@[simp] theorem Link.choose_choose (l : Link) : l.choose.choose = l.choose := by
  rcases l.choose_cases with h | ⟨r, rs, -, -, h⟩ | ⟨id, -, -, -, h⟩
  · rw [h, h]
  · rw [h]; simp [Link.choose]
  · rw [h]; simp [Link.choose]

@[simp] theorem State.settled_settled (s : State) : s.settled.settled = s.settled := by
  simp [State.settled]

/-- The transmitter never lengthens the reply list. -/
theorem Link.choose_outbound_length (l : Link) : l.choose.outbound.length ≤ l.outbound.length := by
  rcases l.choose_cases with h | ⟨r, rs, hr, -, h⟩ | ⟨id, -, -, -, h⟩ <;> rw [h]
  · simp [hr]
  · rfl

/-- A posting sets its entry pending with one more occurrence and the new content (R168). -/
theorem Link.entry_post (l : Link) (id : NoticeId) (c : NoticeContent) :
    (l.post id c).entry id = ⟨true, countUp 255 (l.entry id).count, some c⟩ := by
  exact Vector.getElem_set_self (noticeIndex id).isLt

/-- A good frame joins the inbound list, or is answered QUEUE_FULL, or is an overrun (R164). -/
theorem Link.accept_cases (l : Link) (f : Frame) :
    (l.inbound.length < 8 ∧ l.accept f = { l with inbound := l.inbound ++ [f] }) ∨
      (8 ≤ l.inbound.length ∧ l.outbound.length < 16 ∧ l.accept f =
        { l with outbound := l.outbound ++ [⟨f.kind + 0x80, f.tag, .queueFull, none, []⟩] }) ∨
      (8 ≤ l.inbound.length ∧ 16 ≤ l.outbound.length ∧ l.accept f = l.discard .overrun) := by
  by_cases room : l.inbound.length < 8
  · exact Or.inl ⟨room, if_pos room⟩
  · have full : l.accept f = if l.outbound.length < 16 then
        { l with outbound := l.outbound ++ [⟨f.kind + 0x80, f.tag, .queueFull, none, []⟩] }
      else l.discard .overrun := if_neg room
    by_cases replies : l.outbound.length < 16
    · exact Or.inr (Or.inl ⟨by omega, replies, by rw [full, if_pos replies]⟩)
    · exact Or.inr (Or.inr ⟨by omega, by omega, by rw [full, if_neg replies]⟩)

/-! ### Handing listed requests -/

/-- A listed request is served as the command it carries (R165). -/
theorem State.serve_eq (s : State) (f : Frame) : s.serve f = exec (requestOf f) s := by
  unfold State.serve requestOf
  generalize f.kind.toNat = k
  split
  all_goals first | rfl | (split <;> first | rfl | contradiction)

/-- Nothing is handed from an empty list. -/
@[simp] theorem State.handUpTo_nil (s : State) (n : Nat) (h : s.link.inbound = []) : s.handUpTo n = s := by
  cases n <;> simp [State.handUpTo, h]

@[simp] theorem State.handAll_nil (s : State) (h : s.link.inbound = []) : s.handAll = s := s.handUpTo_nil _ h

/-- Nothing is handed while the oldest listed request cannot be. -/
theorem State.handUpTo_blocked (s : State) (n : Nat) (h : ∀ f, s.link.inbound.head? = some f → s.canHand f = false) :
    s.handUpTo n = s := by
  cases n with
  | zero => rfl
  | succ n =>
    unfold State.handUpTo
    split
    · rfl
    · next f rest e => simp [h f (by simp [e])]

/-- Handing goes on from the card that the oldest listed request leaves. -/
theorem State.handUpTo_succ (s : State) (n : Nat) (f : Frame) (rest : List Frame) (listed : s.link.inbound = f :: rest)
    (can : s.canHand f = true) : s.handUpTo (n + 1) = (s.served f).handUpTo n := by
  simp [State.handUpTo, listed, can]

/-- What every served request keeps, and what the transmitter's choice keeps, handing keeps. -/
theorem State.handUpTo_keeps (P : State → Prop) (serves : ∀ s f, P s → s.canHand f = true → P (s.served f)) (s : State)
    (h : P s) (n : Nat) : P (s.handUpTo n) := by
  induction n generalizing s with
  | zero => exact h
  | succ n ih =>
    unfold State.handUpTo
    split
    · exact h
    · split
      · next can => exact ih _ (serves _ _ h can)
      · exact h

/-- What serving, listing, discarding and holding keep, the receiver keeps (R162 to R165). -/
theorem scan_keeps (P : State → Prop) (takes : ∀ s f, P s → P (s.takeFrame f))
    (discards : ∀ s e, P s → P (s.discardFrame e)) (holds : ∀ s b, P s → P (s.hold b)) (fuel : Nat) (bytes : List Byte)
    (s : State) (h : P s) : P (scan fuel bytes s) := by
  induction fuel generalizing bytes s with
  | zero => exact holds _ _ h
  | succ fuel ih =>
    cases bytes with
    | nil => exact holds _ _ h
    | cons b rest =>
      unfold scan
      split
      · exact ih _ _ h
      split
      · exact holds _ _ h
      split
      · exact ih _ _ (discards _ _ h)
      split
      · exact holds _ _ h
      split
      · exact ih _ _ (takes _ _ h)
      · exact ih _ _ (discards _ _ h)

/-! ### Time -/

/-- The passing of time leaves a head's state, level, depth and ramp alone. -/
@[simp] theorem Head.elapse_state (x : Head) (n : Nat) : (x.elapse n).state = x.state := rfl
@[simp] theorem Head.elapse_level (x : Head) (n : Nat) : (x.elapse n).level = x.level := rfl
@[simp] theorem Head.elapse_depth (x : Head) (n : Nat) : (x.elapse n).depth = x.depth := rfl
@[simp] theorem Head.elapse_ramp (x : Head) (n : Nat) : (x.elapse n).ramp = x.ramp := rfl
@[simp] theorem Head.elapse_settings (x : Head) (n : Nat) : (x.elapse n).settings = x.settings := rfl
@[simp] theorem Head.elapse_nextCell (x : Head) (n : Nat) : (x.elapse n).nextCell = x.nextCell := rfl

/-! ### A band's boundary, and an order to a head -/

/-- A boundary of a head that no band is active on changes nothing. -/
theorem State.boundary_idle (s : State) (h : HeadId) (none_active : s.active h = none) : s.boundary h = s := by
  simp [State.boundary, none_active]

/-- A step over the fitted heads that changes nothing of any state leaves the card as it is. -/
theorem State.forFitted_id (s : State) (f : HeadId → State → State) (h : ∀ k, f k s = s) : s.forFitted f = s := by
  have each : ∀ l : List HeadId, l.foldl (fun t k => if t.fitted k then f k t else t) s = s := by
    intro l
    induction l with
    | nil => rfl
    | cons k l ih =>
      simp only [List.foldl_cons]
      split
      · rw [h k]; exact ih
      · exact ih
  exact each heads4

/-- An immediate retract leaves the head PARKED at level and depth 0, from any state but PARKED (R92). -/
theorem Head.immediate_parks (x : Head) (h : x.state ≠ .parked) : x.immediate = (x.dropped, .parked) := by
  cases e : x.state <;> simp [Head.immediate, e] at h ⊢

/-- Every request that is carried by a frame is read back from it. -/
theorem requestOf_frameOf (c : Instr) (f : Frame) (h : frameOf c = some f) :
    c = requestOf f ∨ ∃ kind tag payload, c = .unknownKindRequest kind tag payload := by
  cases c <;> simp [frameOf] at h <;> subst h <;> first | (left; rfl) | exact Or.inr ⟨_, _, _, rfl⟩

/-! ### Ramps and orders -/

/-- A sine ramp opens in the first segment that holds movement (R87, R89). -/
theorem segmentFrom_opens (level : Nat) (delta : Int) : (segmentFrom level delta level 16 1).opens level delta := by
  have key : ∀ (skips j : Nat), 1 ≤ j → j ≤ 16 → 16 ≤ j + skips →
      (∀ i, 1 ≤ i → i < j → segmentTarget level delta i = level) →
      (segmentFrom level delta level skips j).opens level delta := by
    intro skips
    induction skips with
    | zero => intro j low high far before; exact ⟨low, high, rfl, Or.inr (by simp [segmentFrom]; omega), before⟩
    | succ n ih =>
      intro j low high far before
      unfold segmentFrom
      split
      · rename_i c
        refine ih (j + 1) (by omega) (by omega) (by omega) fun i hi hj => ?_
        by_cases e : i = j
        · exact e ▸ c.1
        · exact before i hi (by omega)
      · rename_i c
        refine ⟨low, high, rfl, ?_, before⟩
        by_cases e : segmentTarget level delta j = level
        · exact Or.inr (by simp only [e, true_and] at c; show j = 16; omega)
        · exact Or.inl e
  exact key 16 1 (by omega) (by omega) (by omega) (by omega)

/-- A ramp that does not start at its target runs from the present level (R87). -/
theorem Head.startRamp_ramps (x y : Head) (state : HeadState) (target now : Nat) (away : x.level ≠ target)
    (level : y.level = x.level) (settings : y.settings = x.settings) :
    x.ramps (y.startRamp state target now).1 state target now := by
  unfold Head.startRamp
  rw [if_neg (by rw [level]; exact away)]
  refine ⟨rfl, level, _, rfl, by simp only [Head.rampTo, settings], level, rfl, by simp only [Head.rampTo, level], ?_, ?_, ?_⟩
  · simp only [Head.rampTo, HeadSettings.interval, settings]
  · intro shape
    simp only [Head.rampTo] at shape ⊢
    rw [shape]
  · intro shape
    simp only [Head.rampTo] at shape ⊢
    rw [shape, level]
    exact ⟨_, rfl, segmentFrom_opens _ _⟩

/-- The engage order of a PARKED or RETRACTING head (R90). -/
theorem Head.engage_engages (x : Head) (now : Nat) (state : x.state = .parked ∨ x.state = .retracting) :
    x.engages (x.engage now).1 now := by
  have order : x.engage now = x.startRamp .engaging x.settings.level now := by
    unfold Head.engage
    rcases state with e | e <;> rw [e]
  rw [order]
  refine ⟨fun away => x.startRamp_ramps x .engaging _ now away rfl rfl, fun same => ?_⟩
  unfold Head.startRamp
  rw [if_pos same]
  unfold Head.rampEnd
  simp only
  by_cases settle : x.settings.settle = 0
  · simp only [settle, if_true, and_self]
  · simp only [settle, if_false, and_self]

/-- The retract order (R91). -/
theorem Head.retract_retracts (x : Head) (now : Nat) : x.retracts (x.retract now).1 now := by
  have start : ∀ y : Head, y.level = x.level → y.settings = x.settings →
      (x.level ≠ 0 → x.ramps (y.startRamp .retracting 0 now).1 .retracting 0 now) ∧
      (x.level = 0 → (y.startRamp .retracting 0 now).1.state = .parked ∧ (y.startRamp .retracting 0 now).1.level = 0 ∧
        (y.startRamp .retracting 0 now).1.ramp = none) ∧
      (y.startRamp .retracting 0 now).1.settleTimer = y.settleTimer ∧
      (y.startRamp .retracting 0 now).1.dwellTimer = y.dwellTimer ∧
      (y.startRamp .retracting 0 now).1.depth = y.depth ∧ (y.startRamp .retracting 0 now).1.nextCell = y.nextCell := by
    intro y level settings
    refine ⟨fun away => x.startRamp_ramps y .retracting 0 now away level settings, fun zero => ?_, ?_, ?_, ?_, ?_⟩
    · simp [Head.startRamp, Head.rampEnd, level, zero]
    all_goals unfold Head.startRamp; simp only; split <;> simp [Head.rampEnd]
  unfold Head.retract
  cases state : x.state
  case parked => simp [Head.retracts, state]
  case retracting => simp [Head.retracts, state]
  case engaging =>
    have h := start x rfl rfl
    simp only [Head.retracts, state]
    exact ⟨by simp, fun _ _ => ⟨h.1, h.2.1⟩, by simp, by simp, by simp⟩
  case settling =>
    have h := start { x with settleTimer := none } rfl rfl
    simp only [Head.retracts, state]
    exact ⟨by simp, fun _ _ => ⟨h.1, h.2.1⟩, fun _ => h.2.2.1, by simp, by simp⟩
  case ready =>
    have h := start { x with dwellTimer := none } rfl rfl
    simp only [Head.retracts, state]
    exact ⟨by simp, fun _ _ => ⟨h.1, h.2.1⟩, by simp, fun _ => h.2.2.2.1, by simp⟩
  case cutting =>
    have h := start { x with depth := 0, nextCell := none } rfl rfl
    simp only [Head.retracts, state]
    exact ⟨by simp, fun _ _ => ⟨h.1, h.2.1⟩, by simp, by simp, fun _ => h.2.2.2.2⟩

/-- The release order, and then the dwell timer of a head with no band active (R95, R97). -/
theorem Head.release_releases (x : Head) (now : Nat) : x.releases (x.uncut.dwell now).1 now := by
  cases state : x.state
  case cutting =>
    simp only [Head.releases, state, Head.uncut]
    refine ⟨fun _ timer => ⟨fun long => ?_, fun zero away => ?_⟩, fun _ => ?_, by simp⟩
    · simp [Head.dwell, timer, long]
    · simp only [Head.dwell, timer, zero, if_true]
      exact x.startRamp_ramps _ .retracting 0 now away rfl rfl
    · unfold Head.dwell
      simp only
      split
      · cases h : x.dwellTimer <;> simp_all
        split
        · simp only [Head.startRamp]
          split <;> simp [Head.rampEnd]
        · simp
      all_goals simp_all
  case ready =>
    simp only [Head.releases, state, Head.uncut]
    refine ⟨fun _ timer => ⟨fun long => ?_, fun zero away => ?_⟩, by simp, by simp⟩
    · simp [Head.dwell, state, timer, long]
    · simp only [Head.dwell, state, timer, zero, if_true]
      exact x.startRamp_ramps _ .retracting 0 now away rfl rfl
  all_goals simp [Head.releases, Head.uncut, Head.dwell, state]

/-- The cut order (R120, R121). -/
theorem Axis.cutOrder_takes (a : Axis) (isLast : Bool) : a.takesCutOrder (a.cutOrder isLast) isLast := by
  refine ⟨fun none => by simp [Axis.cutOrder, Axis.closeRevolution, none], fun f some => ⟨fun stepped => ?_, fun helical => ?_⟩⟩
  · simp [Axis.cutOrder, Axis.closeRevolution, some, stepped, FeedContext.unissued, Axis.pulse]
  · cases p : f.pointer <;>
      simp [Axis.cutOrder, Axis.closeRevolution, some, helical, FeedContext.unissued, Axis.pulse, Axis.stepsOwed, p]

end Sys2Proof.Machine
end

