-- ==== Sys2Proof/Tests/Slice0.lean ====
section
/-! SUPPORT. The model's own tests: ill-formed commands that the check refuses, the manual's worked cases, and for every
obligation with hypotheses a concrete card that meets them. -/

namespace Sys2Proof.Tests

open Sys2Proof Sys2Proof.Machine

/-! ### Small cards -/

/-- The card after a command. -/
def after (c : Instr) (s : State) : State :=
  match exec c s with
  | .next t => t
  | .fault _ => s
  | .refused _ => s

/-- The newest reply that waits: its status, reason and content. -/
def lastReply (s : State) : Option (Status × Option Reason × List Byte) :=
  s.link.outbound.getLast?.map fun r => (r.status, r.reason, r.content)

/-- The status and reason of the newest reply that waits. -/
def lastStatus (s : State) : Option (Status × Option Reason) := s.link.outbound.getLast?.map fun r => (r.status, r.reason)

/-- A link with a frame on the line, so that replies and notices wait. -/
def busy : Link := { Link.reset with sending := some ⟨[], 100, false⟩ }

/-- The carton screen of section 2.9. -/
def carton : Screen := ⟨3000, 1536, 32768, 140⟩

/-- The curve of section 3.7. -/
def curve2 : List Nat := [0, 120, 300, 620, 1000, 1240, 1460, 1670, 1870, 2060, 2250, 2440, 2640, 2860, 3120, 3900, 4095]

/-- An axis that stands IDLE. -/
def idleAxis (k p : Nat) : Axis := { Axis.reset k with state := .idle, position := some p }

/-- A card with the machine ready and SYNCED at 750,000 µs, every axis IDLE, the carton screen as screen 0, and a frame on
the line. -/
def hot : State := { State.reset with
  clock := 5000000
  pins := { Pins.reset with readyLine := true }
  ctu := { Ctu.reset with
    timing := .synced, streak := 2, elapsed := 100, angle := 100, lastPeriod := some 750000, ready := true
    indexTime := 4999000, revs := 7 }
  screens := State.reset.screens.set 0 carton
  axes := ⟨idleAxis 0 0, idleAxis 1 5, idleAxis 2 0, idleAxis 3 0⟩
  link := busy }

/-- A STORE band of tracks 10 to 12 on screen 0 from carriage position 40. -/
def band (tag : Nat) (phase : Phase) : Band :=
  { newBand ⟨tag, 0, 0, 10, 3, 0, 1, 0, 40⟩ .store .stepped with phase := phase }

/-- A CUTTING head with its next cell 3. -/
def cutHead : Head := { Head.reset with
  state := .cutting, level := 2048, depth := 50, nextCell := some 3
  context := some (PlacementContext.build 0 carton 750000)
  table := some (DepthTable.build 1 curveReset Calibration.reset) }

/-- Axis 0, FEEDING. -/
def feedAxis (stage : Stage) (feed : Feed) (p : Nat) (pointer : Option Nat) (armed : Bool) : Axis :=
  { Axis.reset 0 with
    state := .feeding, position := some p, feed := some ⟨1, feed, 40, 1536, 140, stage, armed, pointer⟩ }

/-- Track 10 as a DATA track of 3,000 tones in a buffer. -/
def track10 : BufferTrack := ⟨10, .data, 3000⟩

/-- Line buffers whose ACTIVE one has tones in cells 0, 3 and 4. -/
def bufs (active standby : BufferState) : LineBuffers :=
  ⟨⟨active, [(0, 5), (3, 200), (4, 255)]⟩, ⟨standby, [(1, 7)]⟩, false⟩

/-- A hot card whose head H0 is CUTTING with a band, two buffers and an axis. -/
def cutting (b : Band) (active standby : BufferState) (axis : Axis) : State := { hot with
  heads := hot.heads.set 0 cutHead
  axes := hot.axes.set 0 axis
  buffers := hot.buffers.set 0 (bufs active standby)
  bands := hot.bands.set 0 ⟨some b, none, []⟩ }

/-! ### Ill-formed commands -/

theorem test_wf_refuses_long_payload : (Instr.track 0 (List.replicate 4107 0)).wellFormed = false := by
  simp only [Instr.wellFormed, payloadFits, payloadMax, List.length_replicate]
  decide

theorem test_wf_admits_longest_payload : (Instr.track 0 (List.replicate 4106 0)).wellFormed = true := by
  simp only [Instr.wellFormed, payloadFits, payloadMax, List.length_replicate]
  decide

theorem test_wf_refuses_empty_frame : (Instr.frameReceived []).wellFormed = false := by decide

theorem test_wf_refuses_long_frame : (Instr.frameReceived (List.replicate 4114 0)).wellFormed = false := by
  simp only [Instr.wellFormed, frameFits, frameMax, List.length_replicate]
  decide

theorem test_wf_refuses_known_kind : (Instr.unknownKindRequest 0x01 0 []).wellFormed = false := by decide

theorem test_wf_admits_unknown_kind : (Instr.unknownKindRequest 0x13 0 []).wellFormed = true := by decide

theorem test_wf_refuses_long_unknown : (Instr.unknownKindRequest 0x13 0 (List.replicate 4107 0)).wellFormed = false := by
  simp only [Instr.wellFormed, payloadFits, payloadMax, List.length_replicate]
  decide

/-! ### The manual's worked figures -/

set_option maxRecDepth 20000 in
/-- The check value of CRC-16 with polynomial 0x1021 and start 0xFFFF over the digits 1 to 9 (R161). -/
theorem test_crc_check_value : crc [0x31, 0x32, 0x33, 0x34, 0x35, 0x36, 0x37, 0x38, 0x39] = 0x29B1 := by decide

/-- Section 2.9: P, r and D. -/
theorem test_carton_pitch : (carton.cellPitch, carton.remainder, carton.shift) = (1398101, 1000, 699050) := by decide

/-- Section 2.9: the even fire counts of cells 0 to 3 and 2999. -/
theorem test_carton_even : [0, 1, 2, 3, 2999].map (carton.fireCount false) = [0, 22, 43, 64, 63979] := by decide

/-- Section 2.9: the odd fire counts of cells 0 to 3 and 2999. -/
theorem test_carton_odd : [0, 1, 2, 3, 2999].map (carton.fireCount true) = [11, 32, 54, 75, 63990] := by decide

/-- Section 2.10: the sparse screen's last odd cell is held by the cap. -/
theorem test_sparse_screen : [0, 62, 63].map (Screen.fireCount ⟨64, 0, 65535, 1⟩ true) = [1024, 64512, 65535] ∧
    Screen.capped ⟨64, 0, 65535, 1⟩ = true := by decide

/-- Section 2.10: the dense screen. -/
theorem test_dense_screen : Screen.cellPitch ⟨16384, 8191, 0, 1⟩ = 229380 ∧
    [1, 2, 16383].map (Screen.fireCount ⟨16384, 8191, 0, 1⟩ false) = [4, 8, 57342] := by decide

/-- Section 2.11: the last odd cell at the first count of the gap, and its neighbours. -/
theorem test_cell_at_the_gap : Screen.fireCount ⟨64, 1024, 65535, 1⟩ true 63 = 64512 ∧
    Screen.fireCount ⟨64, 1024, 65470, 1⟩ true 63 = 64511 ∧ Screen.fireCount ⟨64, 1025, 65535, 1⟩ true 63 = 64511 ∧
    Screen.fireCount ⟨64, 1024, 32768, 1⟩ true 63 = 64008 := by decide

/-- Sections 2.9 and 2.10: cell rates. -/
theorem test_cell_rates : [cellRate 3000 750000, cellRate 64 750000, cellRate 16384 819200, cellRate 16384 800000] =
    [4000, 85, 20000, 20480] := by decide

/-- Section 3.7: raw values of curve 2. -/
theorem test_raw_values : [1, 8, 16, 70, 128, 200, 240, 255].map (rawValue curve2) =
    [7, 60, 120, 1090, 1870, 2750, 3900, 4082] := by decide

/-- Section 3.7: depths and marks on H1. -/
theorem test_depths_h1 : [0, 1, 2, 3, 70, 255].map (depthEntry curve2 ⟨-1638, 12, 32, 4095⟩) =
    [⟨0, .none⟩, ⟨32, .low⟩, ⟨32, .low⟩, ⟨32, .none⟩, ⟨1047, .none⟩, ⟨3889, .none⟩] := by decide

/-- Section 3.7: depths and marks on H2. -/
theorem test_depths_h2 : [4, 5, 200, 237, 238, 255].map (depthEntry curve2 ⟨2048, 0, 32, 4000⟩) =
    [⟨32, .low⟩, ⟨39, .none⟩, ⟨2921, .none⟩, ⟨3987, .none⟩, ⟨4000, .high⟩, ⟨4000, .high⟩] := by decide

/-- Section 3.7: H2's clamp counts. -/
theorem test_clamp_counts_h2 : (DepthTable.build 2 curve2 ⟨2048, 0, 32, 4000⟩).lows = 4 ∧
    (DepthTable.build 2 curve2 ⟨2048, 0, 32, 4000⟩).highs = 18 := by decide

/-- Section 3.8: a falling segment. -/
theorem test_falling_segment : [144, 145, 148, 149, 159, 160].map (rawValue [0, 0, 0, 0, 0, 0, 0, 0, 0, 900, 880, 0, 0, 0, 0, 0, 0]) =
    [900, 898, 895, 893, 881, 880] := by decide

/-- Section 6.11: the targets of an engage, of a retract from 456 and of a reversal from 373. -/
theorem test_segment_targets : [1, 2, 5, 8, 16].map (segmentTarget 0 2048) = [24, 80, 456, 1024, 2048] ∧
    [1, 2, 9, 15, 16].map (segmentTarget 456 (-456)) = [451, 439, 184, 6, 0] ∧
    [1, 3, 8, 15].map (segmentTarget 373 1675) = [392, 516, 1210, 2028] := by decide

/-- Section 7.10: the feed check's limits, and the due counts of helical steps. -/
theorem test_feed_check : feedPasses .stepped ⟨3000, 1536, 0, 351⟩ 20000 750000 = true ∧
    feedPasses .stepped ⟨3000, 1536, 0, 352⟩ 20000 750000 = false ∧ feedPasses .stepped carton 7965 750000 = true ∧
    feedPasses .stepped carton 7964 750000 = false ∧
    [1, 2, 3, 139, 140].map (helicalDue 140) = [467, 935, 1403, 65066, 65535] := by decide

/-- Section 5.11: the patch record's tones. -/
theorem test_patch_tones : [0, 99, 100, 149, 150, 159, 160, 2979, 2980].map
    (fun i => patchToneAt [⟨0, 100⟩, ⟨128, 50⟩, ⟨255, 10⟩] (i % 160)) = [0, 0, 128, 128, 255, 255, 0, 0, 128] := by decide

/-- Section 11.8: the head of band 501's record. -/
theorem test_record_bytes : (recordBytes ⟨501, 1, .complete, .none, none, 3, some 80, some 82, 0, 0, 0, 0, 0, 1,
    some 1200, some 1000, 1205, 3751000, some 300280⟩).take 11 = [0xF5, 1, 1, 0, 0, 62, 0, 3, 0, 80, 0] ∧
    (recordBytes ⟨501, 1, .complete, .none, none, 3, some 80, some 82, 0, 0, 0, 0, 0, 1,
    some 1200, some 1000, 1205, 3751000, some 300280⟩).length = 54 := by decide

/-! ### One command on a small card -/

/-- Section 1.11, step 1: the first count leaves STOPPED, and E stays 0. -/
theorem test_count_leaves_stopped : (after (.countEvent true) State.reset).ctu =
    { Ctu.reset with angle := 1, timing := .unsynced } := by decide

/-- R6: the count that takes E above 65,544 is an INDEX_MISSING. -/
theorem test_count_past_window : (after (.countEvent true)
    { hot with ctu := { hot.ctu with elapsed := 65544 } }).lastCylEvent = some 1 := by decide

/-- Section 1.11, step 5: a good index of 760,000 µs clears speed-ok. -/
theorem test_index_good : (after (.indexEvent .rising) { State.reset with
    clock := 1960000
    ctu := { Ctu.reset with timing := .unsynced, elapsed := 65536, streak := 1, indexTime := 1200000 } }).ctu =
    { Ctu.reset with
      timing := .synced, streak := 2, indexTime := 1960000, lastPeriod := some 760000, speedOk := false, revs := 1 } := by
  decide

/-- Section 1.11, step 8: an index at E = 60,000 is a slip and the new origin. -/
theorem test_index_slip : ((after (.indexEvent .rising) { hot with ctu := { hot.ctu with elapsed := 60000 } }).ctu.streak,
    (after (.indexEvent .rising) { hot with ctu := { hot.ctu with elapsed := 60000 } }).lastCylEvent) = (1, some 0) := by
  decide

/-- R2: the entry to STOPPED drops the period. -/
theorem test_stopped : ((after .stoppedTimeout hot).ctu.timing, (after .stoppedTimeout hot).ctu.lastPeriod,
    (after .stoppedTimeout hot).clock) = (.stopped, none, 5050000) := by decide

/-- R14: a return to agreement sets the debounce timer to 0. -/
theorem test_ready_bounce : (after (.readyLineChange true)
    { hot with ctu := { hot.ctu with debounce := 400 } }).ctu.debounce = 0 := by decide

/-- Section 1.11: 10 ms after reset the ready state is HIGH. -/
theorem test_ready_gained : ((after .readyDebounceExpiry (after (.readyLineChange true) State.reset)).ctu.ready,
    (after .readyDebounceExpiry (after (.readyLineChange true) State.reset)).clock) = (true, 10000) := by decide

set_option maxRecDepth 20000 in
/-- R160, R161, R165: the frame of a GET_STORE with tag 5, with its CHECK worked by hand, is handed and answered. -/
theorem test_frame_received :
    (after (.frameReceived [0xC3, 2, 0, 0x34, 5, 0x5C, 0xF0]) hot).link.inbound = [] ∧
    (after (.frameReceived [0xC3, 2, 0, 0x34, 5, 0x5C, 0xF0]) hot).link.outbound.map (fun r => (r.kind, r.tag, r.status)) =
      [(0xB4, 5, .ok)] := by decide

set_option maxRecDepth 20000 in
/-- Section 10.8: ten frames back to back, with 5 replies waiting, are each handed once they are listed. -/
theorem test_frames_back_to_back : (after (.frameReceived ((List.range 10).flatMap fun _ => [0xC3, 2, 0, 0x34, 5, 0x5C, 0xF0]))
    { hot with link := { busy with outbound := List.replicate 5 ⟨0xB4, 0, .ok, none, []⟩ } }).link.outbound.map (·.status) =
    List.replicate 15 .ok := by decide

set_option maxRecDepth 20000 in
/-- R163: another CHECK discards the frame. -/
theorem test_frame_bad_check : (after (.frameReceived [0xC3, 2, 0, 0x34, 5, 0x5C, 0xF1]) State.reset).link.lastError =
    some .badCheck := by decide

/-- R162: 5,000 µs inside a frame discard it. -/
theorem test_stall : (after .stallTimeout (after (.frameReceived [0xC3, 2]) State.reset)).link =
    { Link.reset with errors := 1, lastError := some .stall } := by decide

/-- The card of section 10.8 when the last waiting reply has been sent. -/
def burst : Link := { ((Link.reset.post (.starving 0) (.starving 210 .cutting 812 1 2 0)).post (.alarm 1)
    (.alarm 0 0 4095 1 .retract 1 1 0 0)).post (.bandEnd 0) (.bandEnd 210 .aborted .alarm (some (.slot 1)) 3 none 0 0 1) with
  groups := #v[⟨0, true⟩, ⟨0, true⟩, ⟨0, true⟩, ⟨2, true⟩, ⟨0, true⟩, ⟨0, false⟩] }

/-- Section 10.8: BAND_END leaves first, then ALARM, then STARVING. -/
theorem test_dispatch_order : burst.firstNotice = some (.bandEnd 0) ∧
    (burst.setEntry (.bandEnd 0) NoticeEntry.reset).firstNotice = some (.alarm 1) := by decide

/-- R167, R168: the sent entry is no longer pending. -/
theorem test_frame_sent : ((after .frameSent { State.reset with link := { burst with sending := some ⟨[], 0, false⟩ } }).link.entry
    (.bandEnd 0)).pending = false := by decide

/-- R173: power-on takes the clock back to 0 and leaves the input lines. -/
theorem test_power_on : ((after .powerOn hot).clock, (after .powerOn hot).pins.readyLine) = (0, true) := by decide

/-- R172: the reset follows the sent reply. -/
theorem test_reset_effect : (after .moduleResetEffect { hot with link := { busy with resetSent := true } }).link =
    Link.reset := by decide

/-- R165: kind 13H names no request. -/
theorem test_unknown_kind : lastReply (after (.unknownKindRequest 0x13 7 [1]) hot) = some (.unknownKind, none, []) := by
  decide

/-- R15: F = 5 is BAD_FIELD. -/
theorem test_set_machine_range : lastStatus (after (.setMachine 1 (machinePayload ⟨5, 100000, 0, 8, 750000, 7500, 0⟩)) hot) =
    some (.badField, none) := by decide

/-- R15: INDEX_TOL above 255 is saturated. -/
theorem test_set_machine_clamped : ((after (.setMachine 1 (machinePayload ⟨4, 100000, 0, 300, 0, 7500, 0⟩)) hot).machine.indexTol,
    lastStatus (after (.setMachine 1 (machinePayload ⟨4, 100000, 0, 300, 0, 7500, 0⟩)) hot)) =
    (255, some (.clamped, none)) := by decide

/-- Section 1.8's request with F = 4, on a card with three heads. -/
def raised : State := after (.setMachine 1 (machinePayload ⟨4, 100000, 0, 8, 750000, 7500, 0⟩))
  ({ hot with machine := { hot.machine with fitted := 3 } } : State).takeUp

/-- R15: a raised F acts from the next count. -/
theorem test_raised_f_waits : lastStatus (after (.headClear 1 [3]) raised) = some (.refused, some .notFitted) ∧
    lastStatus (after (.headClear 1 [3]) (after (.countEvent true) raised)) = some (.ok, none) := by decide

/-- R16: the reply begins with the timing state, the angle and E. -/
theorem test_get_cylinder : (lastReply (after (.getCylinder 1 []) hot)).map (fun r => r.2.2.take 8) =
    some [2, 100, 0, 100, 0, 0, 0, 2] := by decide

/-- Section 2.12: G above 8,191 is stored as 8,191. -/
theorem test_set_screen_clamped : ((after (.setScreen 1 (screenPayload ⟨6, 0, 3000, 9000, 32768, 140⟩)) hot).screens.get 6,
    lastStatus (after (.setScreen 1 (screenPayload ⟨6, 0, 3000, 9000, 32768, 140⟩)) hot)) =
    (⟨3000, 8191, 32768, 140⟩, some (.clamped, none)) := by decide

/-- Section 2.12: screen 16 is BAD_FIELD without content. -/
theorem test_set_screen_16 : lastReply (after (.setScreen 1 (screenPayload ⟨16, 0, 3000, 1536, 0, 140⟩)) hot) =
    some (.badField, none, []) := by decide

/-- Section 3.9: K16 above 4,095 is stored as 4,095. -/
theorem test_set_curve_clamped : ((after (.setCurve 1 (curvePayload ⟨5, 0, 0, curve2.take 16 ++ [5000]⟩)) hot).curves.get 5,
    lastStatus (after (.setCurve 1 (curvePayload ⟨5, 0, 0, curve2.take 16 ++ [5000]⟩)) hot)) =
    (curve2, some (.clamped, none)) := by decide

/-- A hot card with fewer heads fitted. -/
def fewer (f : Nat) : State := ({ hot with machine := { hot.machine with fitted := f } } : State).takeUp

/-- Section 3.9: a PREVIEW for head 3 with F = 3 is NOT_FITTED. -/
theorem test_set_curve_unfitted : lastStatus (after (.setCurve 1 (curvePayload ⟨2, 2, 3, curve2⟩))
    (fewer 3)) = some (.refused, some .notFitted) := by decide

/-- Section 5.11: the patch record has a cycle of 160 cells. -/
theorem test_set_patch : lastReply (after (.setPatch 1 (patchPayload ⟨2, 0, [⟨0, 100⟩, ⟨128, 50⟩, ⟨255, 10⟩]⟩)) hot) =
    some (.ok, none, [2, 3, 0, 100, 0, 128, 50, 0, 255, 10, 0, 160, 0, 0, 0]) := by decide

/-- A hot card with one FILLING and two COMPLETE tracks on H1. -/
def queued : State := { hot with store := { hot.store with
  free := ⟨9, []⟩, freeDescriptors := 4093
  queues := hot.store.queues.set 1 [⟨40, .data, 3000, 2000, [0, 1, 2]⟩, ⟨41, .data, 3000, 3000, [3, 4, 5]⟩,
    ⟨44, .data, 3000, 1000, [6, 7, 8]⟩] } }

/-- Section 4.14, step 5: a third FILLING track is FILLING_LIMIT. -/
theorem test_track_filling_limit : lastStatus (after (.track 1 (trackPayload ⟨1, 0, 45, 3000, 0, [1, 2]⟩)) queued) =
    some (.refused, some .fillingLimit) := by decide

/-- Section 4.14, step 7, with two tones: the tones cross from page 1 to page 2. -/
theorem test_track_continues : (after (.track 1 (trackPayload ⟨1, 0, 40, 3000, 2047, [7, 9]⟩))
    { queued with store := queued.store.setQueue 1 [⟨40, .data, 3000, 2047, [0, 1, 2]⟩] }).store.dram =
    [(2047, 7), (2048, 9)] := by decide

/-- Section 4.14, step 9: DROP_TRACKS from 44 to 43 removes 44 alone. -/
theorem test_drop_tracks : ((after (.dropTracks 1 (dropPayload ⟨1, 44, 43⟩)) queued).store.free,
    ((after (.dropTracks 1 (dropPayload ⟨1, 44, 43⟩)) queued).store.queues.get 1).map Descriptor.number) =
    (⟨9, [6, 7, 8]⟩, [40, 41]) := by decide

/-- R63: a cleared store has 65,536 free pages and 4,096 free descriptors. -/
theorem test_store_clear : lastReply (after (.storeClear 1 []) queued) = some (.ok, none, [0, 0, 1, 0, 0, 16]) := by decide

/-- R67: H1's depth, lowest, highest and filling count, with the lead absent. -/
theorem test_get_store : (lastReply (after (.getStore 1 []) queued)).map (fun r => (r.2.2.drop 19).take 13) =
    some [3, 0, 1, 40, 0, 1, 44, 0, 2, 0, 0, 0, 0] := by decide

/-- R102: an RS of 0 is taken as 1 and is not a saturation. -/
theorem test_set_head_rs : lastStatus (after (.setHead 1 (headPayload ⟨0, 2048, 0, 3, 0, 20, 50, 2000, 8000, 32, 0, 0, 0, 0, 32,
    4095⟩)) hot) = some (.ok, none) := by decide

/-- A card whose SET_HEAD has just given H0 the start angle 16,384. -/
def turned : State := after (.setHead 1 (headPayload ⟨0, 2048, 16, 3, 0, 20, 50, 2000, 8000, 32, 0, 16384, 0, 0, 32, 4095⟩)) hot

/-- R12, R13: a new start angle moves the relative count from the next count on. -/
theorem test_start_angle_waits : (turned.heads.get 0).settings.startAngle = 16384 ∧ turned.relCount 0 = 100 ∧
    (after (.countEvent true) turned).relCount 0 = 65536 + 101 - 16384 := by decide

/-- R38: DC below DF is stored as DF. -/
theorem test_set_head_dc : ((after (.setHead 1 (headPayload ⟨0, 2048, 16, 3, 0, 20, 50, 2000, 8000, 32, 0, 0, 0, 0, 500,
    400⟩)) hot).heads.get 0).settings.calibration.ceiling = 500 := by decide

/-- The monitor of section 9.8 after pass 7, with slot 7 latched too. -/
def alarmed : State := { hot with
  heads := hot.heads.set 2 { Head.reset with inhibit := true }
  monitor := { Monitor.reset with
    slots := (Monitor.reset.slots.set 3 ⟨some 2760, some 2040, 1200, 2600, 3, 4, .retract, 4, true⟩).set 7
      ⟨some 3100, some 2200, 0, 3000, 2, 2, .notify, 4, true⟩
    mode := .continuous, start := 1, stop := 8, conversion := some ⟨3, 5000040⟩ } }

/-- Section 9.8: HEAD_CLEAR of H2 names slot 3. -/
theorem test_head_clear_held : lastReply (after (.headClear 1 [2]) alarmed) =
    some (.refused, some .stillActive, [3]) := by decide

/-- Section 9.8: a latch of slot 7, NOTIFY, does not hold the head. -/
theorem test_head_clear_notify : lastStatus (after (.headClear 1 [2]) { alarmed with
    monitor := alarmed.monitor.setSlot 3 ⟨some 2400, some 2360, 1200, 2600, 3, 0, .retract, 4, false⟩ }) =
    some (.ok, none) := by decide

/-- R103: the reply begins with the head state, L and the cell depth. -/
theorem test_get_head : (lastReply (after (.getHead 1 [0]) { hot with heads := hot.heads.set 0 cutHead })).map
    (fun r => r.2.2.take 5) = some [4, 0, 8, 50, 0] := by decide

/-- R106: an IDLE axis above the new MAXPOS is RANGE. -/
theorem test_set_axis_range : lastStatus (after (.setAxis 1 (axisPayload ⟨1, 650000, 4, 700000, 20000⟩)) hot) =
    some (.refused, some .range) := by decide

/-- A card with the axes as section 7.9 first finds them. -/
def unhomed : State := { hot with axes := State.reset.axes }

/-- Section 7.9, step 1: axis 1 cannot home below an unhomed axis 0. -/
theorem test_home_not_clear : lastStatus (after (.home 1 [1]) unhomed) = some (.refused, some .notClear) := by decide

/-- Section 7.9, step 2. -/
theorem test_home_starts : ((after (.home 1 [0]) unhomed).axes.get 0).state = .homing := by decide

/-- Section 7.9, step 5: 600,000 + 100,000 > 650,000. -/
theorem test_seek_collision : lastStatus (after (.seek 1 (seekPayload ⟨0, 600000⟩)) hot) =
    some (.refused, some .collision) := by decide

/-- Section 7.9, step 6: a seek of 540,000 steps. -/
theorem test_seek_starts : ((after (.seek 1 (seekPayload ⟨0, 540000⟩)) hot).axes.get 0).target = some 540000 := by decide

/-- Section 7.9, step 9: a FEEDING axis is BAND_OWNED. -/
theorem test_axis_halt_owned : lastStatus (after (.axisHalt 1 [0])
    { hot with axes := hot.axes.set 0 (feedAxis .hold .stepped 40 none false) }) = some (.refused, some .bandOwned) := by decide

/-- R123: state IDLE, no fault, position 5, machine coordinate 650,005. -/
theorem test_get_axis : (lastReply (after (.getAxis 1 [1]) hot)).map (fun r => r.2.2.take 12) =
    some [2, 0, 1, 5, 0, 0, 0, 1, 0x15, 0xEB, 9, 0] := by decide

/-- The card of section 7.9 after step 8, with both seeks arrived. -/
def placed : State := { hot with axes := ⟨idleAxis 0 540000, idleAxis 1 300000, idleAxis 2 0, idleAxis 3 0⟩ }

/-- Section 7.9: the ENGRAVE on H1, which answers with the phase POSITIONING. -/
theorem test_engrave : lastReply (after (.engrave 1 (engravePayload ⟨501, 1, 0, 17, 600, 0, 0, 0, 200000⟩)) placed) =
    some (.ok, none, [0xF5, 1, 1, 1, 0]) := by decide

/-- Section 7.9, step 10: axis 0 must clear the band's span and not the carriage's old position. -/
theorem test_seek_under_band : lastStatus (after (.seek 1 (seekPayload ⟨0, 650000⟩))
    (after (.engrave 1 (engravePayload ⟨501, 1, 0, 17, 600, 0, 0, 0, 200000⟩)) placed)) = some (.ok, none) := by decide

/-- R137: a STOP taken in CUTTING disarms the move trigger. -/
theorem test_stop_band : ((after (.stopBand 1 [0, 0])
    (cutting (band 1 .cutting) (.loaded track10) .empty (feedAxis .hold .stepped 40 none true))).axes.get 0).feed =
    some ⟨1, .stepped, 40, 1536, 140, .hold, false, none⟩ := by decide

/-- R92, R138: an immediate abort parks the head with L = 0. -/
theorem test_abort_immediate : ((after (.abortBand 1 [0, 1])
    (cutting (band 1 .cutting) (.loaded track10) .empty (feedAxis .hold .stepped 40 none true))).heads.get 0).level = 0 := by
  decide

/-- R145: an empty list is NO_RESULT. -/
theorem test_read_result : lastStatus (after (.readResult 1 [0]) hot) = some (.refused, some .noResult) := by decide

/-- Section 9.8: slot 11's high and hysteresis are saturated. -/
theorem test_set_monitor : (((after (.setMonitor 1 (monitorPayload ⟨11, 3500, 5000, 0, 1, 0⟩)) hot).monitor.slot 11).high,
    ((after (.setMonitor 1 (monitorPayload ⟨11, 3500, 5000, 0, 1, 0⟩)) hot).monitor.slot 11).hysteresis) = (4095, 1) := by
  decide

/-- Section 9.8: start 8 and stop 1 are taken as slot 8 alone. -/
theorem test_monitor_run : lastReply (after (.monitorRun 1 [2, 8, 1]) hot) = some (.ok, none, [2, 8, 8]) := by decide

/-- R153. -/
theorem test_monitor_halt : (after (.monitorHalt 1 []) alarmed).monitor.haltRequest = true := by decide

/-- Section 9.8, after pass 7: the latest value is out of range. -/
theorem test_alarm_ack : lastStatus (after (.alarmAck 1 [3]) alarmed) = some (.refused, some .stillActive) := by decide

/-- R159: mode, halt request, start, stop and the slot under conversion. -/
theorem test_get_monitor : (lastReply (after (.getMonitor 1 []) alarmed)).map (fun r => r.2.2.take 6) =
    some [2, 0, 1, 8, 1, 3] := by decide

/-- R170: a level above 3 is stored as 3. -/
theorem test_set_notice : lastReply (after (.setNotice 1 [3, 9, 0]) hot) =
    some (.clamped, none, [0, 1, 0, 1, 0, 1, 3, 0, 0, 1, 0, 1]) := by decide

/-- R171: the clear flag clears the frame errors. -/
theorem test_get_status_clears : (after (.getStatus 1 [1])
    { hot with link := { busy with errors := 4, lastError := some .overrun } }).link.errors = 0 := by decide

/-- R172: no further request is handed after a MODULE_RESET. -/
theorem test_module_reset : (after (.moduleReset 1 []) hot).link.resetTaken = true := by decide

/-- A request that comes after MODULE_RESET was taken is listed and is not handed (R164, R172). -/
theorem test_request_waits :
    (after (.getCylinder 9 []) { hot with link := { busy with resetTaken := true } }).link.inbound = [⟨0x31, 9, []⟩] := by
  decide

/-- H1 of section 6.11, engaging. -/
def ramping (level number target : Nat) : State := { hot with heads := hot.heads.set 1 { Head.reset with
  state := .engaging, level := level
  ramp := some ⟨.sine, 0, 2048, 2048, some ⟨number, target⟩, 5000800⟩
  settings := { HeadSettings.reset with shape := .sine } } }

/-- Section 6.11: segment 1 ends at 24, and segment 2 starts at the next update. -/
theorem test_ramp_update : ((after (.rampUpdate 1) (ramping 16 1 24)).heads.get 1).level = 24 ∧
    ((after (.rampUpdate 1) (ramping 16 1 24)).heads.get 1).ramp =
      some ⟨.sine, 0, 2048, 2048, some ⟨2, 80⟩, 5001600⟩ := by decide

/-- Section 6.11: the last update leaves SETTLING for 20 ms. -/
theorem test_ramp_ends : ((after (.rampUpdate 1) (ramping 2040 16 2048)).heads.get 1).settleTimer = some 20000 := by decide

/-- R94, R95: a settled head with no band dwells for 500 ms. -/
theorem test_settle : ((after (.settleExpiry 1) { hot with heads := hot.heads.set 1 { Head.reset with
    state := .settling, level := 2048, settleTimer := some 20000 } }).heads.get 1).dwellTimer = some 500000 := by decide

/-- R95: an expired dwell retracts the head. -/
theorem test_dwell : ((after (.dwellExpiry 1) { hot with heads := hot.heads.set 1 { Head.reset with
    state := .ready, level := 2048, dwellTimer := some 500000 } }).heads.get 1).state = .retracting := by decide

/-- R112: the step that reaches the target ends the seek. -/
theorem test_move_step : (after (.moveStep 0) { hot with axes := hot.axes.set 0 { idleAxis 0 539999 with
    state := .seeking, target := some 540000, move := some ⟨true, 539999, 1, 5000000, 1000000, 20000⟩ } }).clock =
    32000000 := by decide

/-- R105: a homing sets the direction output down, and each of its steps gives one pulse on the step output. -/
theorem test_step_outputs : ((after (.moveStep 0) (after (.home 1 [0])
    { unhomed with axes := unhomed.axes.set 0 { Axis.reset 0 with outputs := ⟨true, 6⟩ } })).axes.get 0).outputs =
    ⟨false, 7⟩ := by decide

/-- R111: the sensor homes a HOMING axis. -/
theorem test_home_sensor : ((after (.homeSensorActive 0 true) (after (.home 1 [0]) unhomed)).axes.get 0).position = some 0 := by
  decide

/-- R114: a limit switch on a FEEDING axis ends the band ABORTED AXIS_FAULT. -/
theorem test_limit_switch : ((after (.limitSwitchActive 0 true)
    (cutting (band 1 .cutting) (.loaded track10) .empty (feedAxis .hold .stepped 47 none true))).bands.get 0).results.map
      (fun r => (r.cause, r.position)) = [(.axisFault, some 47)] := by decide

set_option maxRecDepth 20000 in
/-- R76: the copied tones stand in the STANDBY, and the pages return to the tail. -/
theorem test_copy_complete : (after .copyComplete { hot with
    store := { hot.store with dram := [(2048, 9), (2050, 4)], free := ⟨3, []⟩ }
    fetch := { hot.fetch with copy := some ⟨0, 10, 64, [2], 0, 5000001⟩ } }).buffers.v0.buf1.tones =
    [(0, 9), (2, 4)] := by decide

/-- R83: the fill of a record (tone 5, run 2), (tone 0, run 1). -/
theorem test_patch_fill : (after (.patchFillComplete 0) { hot with
    patches := hot.patches.set 0 [⟨5, 2⟩, ⟨0, 1⟩]
    fetch := { hot.fetch with fills := hot.fetch.fills.set 0 (some 5000001) }
    buffers := hot.buffers.set 0 (bufs .empty (.loading ⟨10, .patch, 5⟩)) }).buffers.v0.buf1.tones =
    [(0, 5), (1, 5), (3, 5), (4, 5)] := by decide

/-- Section 9.8, pass 6: the third value out of range latches the alarm. -/
theorem test_conversion_latches : (((after (.conversionComplete 2750) { alarmed with
    monitor := alarmed.monitor.setSlot 3 ⟨some 2720, some 1400, 1200, 2600, 3, 2, .retract, 4, false⟩ }).link.entry
      (.alarm 3)).content) = some (.alarm 2750 1200 2600 3 .retract 4 4 5000040 7) := by decide

/-- Section 5.4: of H0, H1 and H3, H3 stands nearest to its boundary. -/
theorem test_relative_counts : (fun s : State => [s.takeUp.relCount 0, s.takeUp.relCount 1, s.takeUp.relCount 3])
    { hot with
      ctu := { hot.ctu with angle := 40000 }
      heads := ⟨Head.reset, { Head.reset with settings := { HeadSettings.reset with startAngle := 16384 } }, Head.reset,
        { Head.reset with settings := { HeadSettings.reset with startAngle := 49152 } }⟩ } =
    [40000, 23616, 56384] := by decide

/-! ### A card for the hypotheses of every obligation: the queue, the link and the invariants -/

theorem witness_StepRunsFrontCommand :
    ({ hot with pending := [.frameSent, .stoppedTimeout] } : State).pending = .frameSent :: [.stoppedTimeout] := by decide

theorem witness_IdleStepRunsDueEvent :
    (State.reset.pending = [] ∧ State.reset.dueEvent = none) ∧
    ({ hot with link := { busy with sending := some ⟨[], 0, false⟩ } } : State).pending = [] ∧
      ({ hot with link := { busy with sending := some ⟨[], 0, false⟩ } } : State).dueEvent = some .frameSent := by decide

/-- A card with listed bytes in its memories, a posted notice, a pending band and a waiting command. -/
def laden : State := { cutting (band 1 .cutting) (.loaded track10) .empty (feedAxis .hold .stepped 40 none false) with
  bands := hot.bands.set 0 ⟨some (band 1 .cutting), some (band 2 .pending), []⟩
  link := busy.post .cylinder (.cylinder .stopped .stopped false 0 0)
  store := { hot.store with dram := [(2048, 9), (2050, 4)] }
  pending := [.countEvent false] }

theorem witness_MemoriesStayCanonical : laden.memoriesCanonical ∧ ∃ t, step laden = .next t := by
  refine ⟨⟨by decide, ?_⟩, ⟨_, rfl⟩⟩
  show ∀ h : Fin 4, _
  decide

theorem laden_entry (id : NoticeId) : laden.link.entry id =
    if id = .cylinder then ⟨true, 1, some (.cylinder .stopped .stopped false 0 0)⟩ else NoticeEntry.reset := by
  cases id with
  | alarm slot => revert slot; exact (by decide : ∀ i : Fin 16, laden.link.entry (.alarm i) = NoticeEntry.reset)
  | cylinder => decide
  | axis k => revert k; exact (by decide : ∀ i : Fin 4, laden.link.entry (.axis i) = NoticeEntry.reset)
  | bandEnd k => revert k; exact (by decide : ∀ i : Fin 4, laden.link.entry (.bandEnd i) = NoticeEntry.reset)
  | starving k => revert k; exact (by decide : ∀ i : Fin 4, laden.link.entry (.starving i) = NoticeEntry.reset)
  | progress k => revert k; exact (by decide : ∀ i : Fin 4, laden.link.entry (.progress i) = NoticeEntry.reset)
  | cylStatus => decide

theorem witness_LinkStaysWithinBounds :
    laden.link.withinBounds ∧ laden.link.noticesSound ∧ ∃ t, step laden = .next t := by
  refine ⟨⟨by decide, by decide, by decide, ?_, by decide⟩, ?_, ⟨_, rfl⟩⟩
  · intro id
    rw [laden_entry]
    split <;> decide
  · intro id
    rw [laden_entry]
    split <;> decide

theorem witness_BandsStayLawful : laden.bandsLawful ∧ ∃ t, step laden = .next t := by
  refine ⟨?_, ⟨_, rfl⟩⟩
  show ∀ h : Fin 4, (((laden.bands.get h).waiting.isSome = true → (laden.bands.get h).active.isSome = true) ∧ _ ≤ 4)
  decide

/-- A card with tracks in H1's queue and a waiting command. -/
def stocked : State := { queued with pending := [.countEvent false] }

theorem witness_QueuesStayLawful : stocked.store.queuesLawful ∧ ∃ t, step stocked = .next t := by
  refine ⟨⟨?_, by decide⟩, ⟨_, rfl⟩⟩
  show ∀ h : Fin 4, ((stocked.store.queues.get h).Pairwise (fun d e => d.number < e.number) ∧ _ ≤ 1024 ∧ _ ≤ 2)
  decide

/-- A card whose copy holds page 0 for H0, with the pages 1 to 65535 free and a waiting command. -/
def copying : State := { hot with
  store := { hot.store with free := ⟨1, []⟩ }
  fetch := { hot.fetch with copy := some ⟨0, 10, 64, [0], 0, 5000001⟩ }
  buffers := hot.buffers.set 0 (bufs .empty (.loading ⟨10, .data, 64⟩))
  bands := hot.bands.set 0 ⟨some (band 1 .waitSync), none, []⟩
  pending := [.copyComplete] }

theorem witness_PagesStayAccounted : copying.pagesAccounted ∧ copying.copyOwned ∧
    (∀ h, ∀ d ∈ copying.store.queues.get h, d.kind ≠ .data → d.pages = []) ∧ ∃ t, step copying = .next t := by
  refine ⟨?_, ?_, ?_, ⟨_, rfl⟩⟩
  · show (List.range' 1 65535 ++ [] ++ [] ++ [0]).Perm (List.range 65536)
    rw [List.append_nil, List.append_nil, List.range_eq_range']
    exact List.perm_append_comm.trans (List.Perm.of_eq (List.range'_succ (s := 0) (n := 65535) (step := 1)).symm)
  · intro c hc
    obtain rfl : (⟨0, 10, 64, [0], 0, 5000001⟩ : Copy) = c := Option.some.inj hc
    decide
  · show ∀ h : Fin 4, _
    decide

theorem witness_HeadOutputsStayLawful :
    (∀ h, (laden.heads.get h).outputsLawful) ∧ ∃ t, step laden = .next t := by
  refine ⟨?_, ⟨_, rfl⟩⟩
  intro h
  match h with
  | 0 => refine ⟨?_, ?_, ?_, ?_, ?_⟩ <;> simp [laden, cutting, cutHead, Quad.get, Quad.set, Head.reset]
  | 1 => refine ⟨?_, ?_, ?_, ?_, ?_⟩ <;> simp [laden, cutting, hot, State.reset, Quad.all, Quad.get, Quad.set, Head.reset]
  | 2 => refine ⟨?_, ?_, ?_, ?_, ?_⟩ <;> simp [laden, cutting, hot, State.reset, Quad.all, Quad.get, Quad.set, Head.reset]
  | 3 => refine ⟨?_, ?_, ?_, ?_, ?_⟩ <;> simp [laden, cutting, hot, State.reset, Quad.all, Quad.get, Quad.set, Head.reset]

theorem witness_AxisStatesStayLawful :
    (∀ k, (laden.axes.get k).stateLawful) ∧ ∃ t, step laden = .next t := by
  refine ⟨?_, ⟨_, rfl⟩⟩
  show ∀ k : Fin 4, ((_ = true → _ = true) ∧ (_ = true → _ = _) ∧ (_ = true → _ = _))
  decide

/-- Each of the five requests, taken by the card of section 7.9 with its seeks arrived. -/
theorem witness_RequestsKeepSeparation :
    placed.separated ∧ (∀ k, (placed.axes.get k).stateLawful) ∧
    (∃ t, exec (.home 1 [3]) placed = .next t) ∧ (∃ t, exec (.seek 1 (seekPayload ⟨0, 0⟩)) placed = .next t) ∧
    (∃ t, exec (.setAxis 1 (axisPayload ⟨0, 0, 650000, 700000, 20000⟩)) placed = .next t) ∧
    (∃ t, exec (.setMachine 1 (machinePayload ⟨4, 110000, 0, 8, 0, 0, 0⟩)) placed = .next t) ∧
    ∃ t, exec (.engrave 1 (engravePayload ⟨501, 1, 0, 17, 600, 0, 0, 0, 200000⟩)) placed = .next t := by
  refine ⟨?_, ?_, ⟨_, rfl⟩, ⟨_, rfl⟩, ⟨_, rfl⟩, ⟨_, rfl⟩, ⟨_, rfl⟩⟩
  · show _ = true
    decide
  · show ∀ k : Fin 4, ((_ = true → _ = true) ∧ (_ = true → _ = _) ∧ (_ = true → _ = _))
    decide

/-- Carriages in place: axis 0 FEEDING a CUTTING band with its trigger armed, and axis 1 SEEKING upward. -/
def feeding : State := { cutting { band 1 .cutting with next := 11 } (.loaded track10) .empty
    (feedAxis .hold .stepped 40 none true) with
  axes := ⟨feedAxis .hold .stepped 40 none true, { idleAxis 1 5 with
    state := .seeking, target := some 9, move := some ⟨true, 0, 4, 5000000, 1000000, 20000⟩, outputs := ⟨true, 0⟩ },
    idleAxis 2 0, idleAxis 3 0⟩
  pending := [.countEvent true] }

/-- The carriage of an IDLE axis of a head with no band. -/
theorem idle_carriageSound (h : HeadId) (p : Nat) (s : State) (axis : s.axes.get h = idleAxis h p)
    (bands : s.bands.get h = ⟨none, none, []⟩) (empty : (s.buffers.get h).standby.held = .empty) : s.CarriageSound h := by
  have none : s.active h = none := by simp [State.active, bands]
  refine ⟨?_, ⟨?_, ?_, ?_, ?_⟩, ?_, ?_, ?_, fun _ => empty, ?_, ?_⟩ <;>
    simp [axis, bands, none, idleAxis, Axis.reset, Axis.stateLawful, Axis.homed, BandSequencer.pendingFollows, State.held]

theorem witness_CarriagesStaySeparated : feeding.carriagesSound ∧ (∃ t, step feeding = .next t) ∧
    feeding.span 0 = some (40, 320) ∧ feeding.span 1 = some (650005, 650009) := by
  refine ⟨⟨?_, ⟨by decide, (by decide : ∀ k : Fin 4, feeding.fitted k = false → _ = _)⟩, (by intro c h; cases h), ?_, ?_⟩, ⟨_, rfl⟩,
    by decide, by decide⟩
  · show _ = true
    decide
  · intro i
    rcases Nat.lt_or_ge i 16 with less | more
    · exact (by decide : ∀ i : Fin 16, (feeding.screen i).n ≠ 0 → 1 ≤ (feeding.screen i).pitch) ⟨i, less⟩
    · simp [State.screen, more, Screen.reset]
  · intro h
    match h with
    | 0 =>
      refine ⟨by unfold Axis.stateLawful; decide, ⟨by decide, (by intro h; cases h), (by intro m h; cases h), by decide⟩,
        by unfold BandSequencer.pendingFollows; decide, by decide, ?_, (by intro h; cases h), (by intro b h t e; cases e), ?_⟩
      · intro b held
        obtain rfl : b = { band 1 .cutting with next := 11 } := List.mem_singleton.1 held
        refine ⟨by decide, by decide, by decide, by decide⟩
      · intro b held
        cases held
        refine ⟨_, _, rfl, rfl, ⟨by decide, (by intro h; cases h), by decide, (by intro h; cases h), by decide, by decide⟩⟩
    | 1 =>
      refine ⟨by unfold Axis.stateLawful; decide, ⟨by decide, fun _ => ⟨_, _, _, rfl, rfl, rfl, by decide, by decide⟩,
        (by intro m h; cases h; rfl), by decide⟩, by unfold BandSequencer.pendingFollows; decide, by decide,
        (by intro b h; cases h), fun _ => rfl, (by intro b h; cases h), (by intro b h; cases h)⟩
    | 2 => exact idle_carriageSound 2 0 feeding rfl rfl rfl
    | 3 => exact idle_carriageSound 3 0 feeding rfl rfl rfl

/-- A busy link that holds listed requests and waiting replies. -/
def queues (listed waiting : Nat) : State := { hot with link := { busy with
  inbound := List.replicate listed ⟨0x34, 0, []⟩, outbound := List.replicate waiting ⟨0xB4, 0, .ok, none, []⟩ } }

/-- Seven listed requests and the longest payload, with 16 replies and after a MODULE_RESET; an empty list with 15
replies; and two frames that fill the reply list. -/
theorem witness_FrameIsListedAndHanded :
    ((List.replicate 4106 (0 : Byte)).length ≤ 4106 ∧ (queues 7 16).link.received = [] ∧
      (queues 7 16).link.inbound.length = 7 ∧ (queues 7 16).link.outbound.length = 16) ∧
    (∃ s : State, s.link.received = [] ∧ s.link.inbound.length = 7 ∧ s.link.resetTaken = true) ∧
    ((Instr.getStore 5 []).wellFormed = true ∧ frameOf (.getStore 5 []) = some ⟨0x34, 5, []⟩ ∧
      (queues 0 15).link.received = [] ∧ (queues 0 15).link.inbound = [] ∧ (queues 0 15).link.outbound.length = 15 ∧
      (queues 0 15).link.resetTaken = false) ∧
    ((∀ f ∈ ([⟨0x34, 5, []⟩, ⟨0x13, 6, [1]⟩] : List Frame), f.payload.length ≤ 4106 ∧ f.kind ≠ 0x2A) ∧
      (queues 0 14).link.sending.isSome = true ∧ (queues 0 14).link.outbound.length + 2 = 16) :=
  ⟨⟨by simp only [List.length_replicate]; decide, by decide⟩,
    ⟨{ hot with link := { (queues 7 0).link with resetTaken := true } }, by decide⟩,
    by decide, by decide⟩

/-- Every field at an end of its range. -/
theorem witness_RequestFieldsRoundTrip :
    machineFields (machinePayload ⟨255, 4294967295, 255, 65535, 4294967295, 4294967295, 65535⟩) =
      some ⟨255, 4294967295, 255, 65535, 4294967295, 4294967295, 65535⟩ ∧
    screenFields (screenPayload ⟨255, 255, 65535, 65535, 4294967295, 65535⟩) =
      some ⟨255, 255, 65535, 65535, 4294967295, 65535⟩ ∧
    (List.replicate 17 65535).length = 17 ∧
    patchFields (patchPayload ⟨255, 255, [⟨255, 65535⟩]⟩) = some ⟨255, 255, [⟨255, 65535⟩]⟩ ∧
    trackFields (trackPayload ⟨255, 255, 65535, 65535, 65535, []⟩) = some ⟨255, 255, 65535, 65535, 65535, []⟩ ∧
    dropFields (dropPayload ⟨255, 65535, 65535⟩) = some ⟨255, 65535, 65535⟩ ∧
    headFields (headPayload ⟨255, 65535, 65535, 255, 255, 65535, 65535, 65535, 65535, 65535, 65535, 65535, -32768, 32767,
      65535, 65535⟩) = some ⟨255, 65535, 65535, 255, 255, 65535, 65535, 65535, 65535, 65535, 65535, 65535, -32768, 32767,
      65535, 65535⟩ ∧
    axisFields (axisPayload ⟨255, 4294967295, 4294967295, 4294967295, 4294967295⟩) =
      some ⟨255, 4294967295, 4294967295, 4294967295, 4294967295⟩ ∧
    seekFields (seekPayload ⟨255, -2147483648⟩) = some ⟨255, -2147483648⟩ ∧
    seekFields (seekPayload ⟨255, 2147483647⟩) = some ⟨255, 2147483647⟩ ∧
    engraveFields (engravePayload ⟨65535, 255, 255, 65535, 65535, 255, 255, 255, 4294967295⟩) =
      some ⟨65535, 255, 255, 65535, 65535, 255, 255, 255, 4294967295⟩ ∧
    monitorFields (monitorPayload ⟨255, 65535, 65535, 255, 255, 255⟩) = some ⟨255, 65535, 65535, 255, 255, 255⟩ := by decide

/-- Eight listed requests with 15 replies after a MODULE_RESET and with 16 replies; bytes without SYNC; LEN 1 and LEN
4,109; a wrong CHECK; and a stall inside a frame. -/
theorem witness_UnlistedFramesAreAnsweredOrDropped :
    hot.link.received = [] ∧
    (∃ s : State, s.link.received = [] ∧ s.link.inbound.length = 8 ∧ s.link.outbound.length = 15 ∧
      s.link.resetTaken = true) ∧
    ((queues 8 16).link.received = [] ∧ (queues 8 16).link.inbound.length = 8 ∧
      (queues 8 16).link.outbound.length = 16) ∧
    sync ∉ ([0, 0xC2, 0xC4] : List Byte) ∧
    ((1 : Byte) ≠ sync ∧ (0 : Byte) ≠ sync ∧ (1 : Byte).toNat + 256 * (0 : Byte).toNat < 2) ∧
    ((0x0D : Byte) ≠ sync ∧ (0x10 : Byte) ≠ sync ∧ 4108 < (0x0D : Byte).toNat + 256 * (0x10 : Byte).toNat) ∧
    (sync ∉ frameBody 0x34 5 [] ∧ sync ∉ u16 0) ∧
    ∃ s : State, s.link.received = sync :: [2, 0] ∧ sync ∉ ([2, 0] : List Byte) :=
  ⟨by decide, ⟨{ hot with link := { (queues 8 15).link with resetTaken := true } }, by decide⟩,
    by decide, by decide, by decide, by decide, by decide,
    ⟨{ hot with link := { busy with received := [sync, 2, 0] } }, by decide, by decide⟩⟩

set_option maxRecDepth 20000 in
/-- The CHECK of the frame of witness_UnlistedFramesAreAnsweredOrDropped is F05CH and not 0. -/
theorem witness_wrong_check : 0 < 65536 ∧ 0 ≠ (crc (frameBody 0x34 5 [])).toNat ∧ ([] : List Byte).length ≤ 4106 := by decide

/-- The frame on the line, 3 bytes before its end. -/
def ending (l : Link) : State := { hot with link := { l with sending := some ⟨[], 3, false⟩ } }

/-- A reply that waits; a notice; neither; the MODULE_RESET reply; and 16 replies with a request listed. -/
theorem witness_FrameSentChoosesNext :
    ((ending (queues 0 1).link).link.resetSent = false ∧ (ending (queues 0 1).link).link.inbound = [] ∧
      (ending (queues 0 1).link).link.outbound = [⟨0xB4, 0, .ok, none, []⟩]) ∧
    ((ending burst).link.resetSent = false ∧ (ending burst).link.inbound = [] ∧ (ending burst).link.outbound = [] ∧
      (ending burst).link.firstNotice = some (.bandEnd 0)) ∧
    ((ending busy).link.sending = some ⟨[], 3, false⟩ ∧ (ending busy).link.resetSent = false ∧
      (ending busy).link.inbound = [] ∧ (ending busy).link.outbound = [] ∧ (ending busy).link.firstNotice = none) ∧
    (∃ s : State, s.link.sending = some ⟨[], 3, true⟩ ∧ s.link.resetSent = false ∧ s.link.inbound = []) ∧
    ((ending (queues 1 16).link).link.inbound = ⟨0x34, 0, []⟩ :: [] ∧
      (ending (queues 1 16).link).link.outbound = ⟨0xB4, 0, .ok, none, []⟩ :: List.replicate 15 ⟨0xB4, 0, .ok, none, []⟩ ∧
      (List.replicate 15 (⟨0xB4, 0, .ok, none, []⟩ : Reply)).length = 15 ∧
      (ending (queues 1 16).link).link.resetTaken = false) :=
  ⟨by decide, by decide, by decide, ⟨{ hot with link := { busy with sending := some ⟨[], 3, true⟩ } }, by decide⟩, by decide⟩

theorem witness_NoticesLeaveInDispatchOrder :
    (burst.firstNotice = some (.bandEnd 0) ∧ burst.eligible (.alarm 1) = true) ∧ busy.firstNotice = none := by decide

theorem witness_LinkAnswersWrongRequests :
    (requestKinds.contains 0x13 = false ∧ hot.canHand ⟨0x13, 7, [1]⟩ = true) ∧
    (([] : List Byte).length ≠ 18 ∧ hot.canHand ⟨0x01, 7, []⟩ = true) ∧
    ((List.replicate 7 (0 : Byte)).length < 8 ∧ hot.canHand ⟨0x10, 7, List.replicate 7 0⟩ = true) ∧
    (([0, 0, 1, 5] : List Byte).length ≠ 3 + 3 * (([0, 0, 1, 5] : List Byte).getD 2 0).toNat ∧
      hot.canHand ⟨0x06, 7, [0, 0, 1, 5]⟩ = true) ∧
    hot.link.sending.isSome = true ∧
    (State.reset.link.sending = none ∧ State.reset.link.outbound = [] ∧ State.reset.link.resetSent = false) := by decide

theorem witness_SetNoticeWritesItsGroup :
    (threeBytes [5, 4, 1] = some (5, 4, 1) ∧ flagOf 1 = some true ∧ hot.canHand ⟨0x08, 7, [5, 4, 1]⟩ = true) ∧
    threeBytes [0, 3, 0] = some (0, 3, 0) ∧ flagOf 0 = some false ∧ hot.canHand ⟨0x08, 7, [0, 3, 0]⟩ = true := by decide

theorem witness_PowerOnAndModuleReset :
    hot.canHand ⟨0x2A, 7, []⟩ = true ∧
    ({ hot with link := { busy with resetTaken := true } } : State).link.resetTaken = true ∧
    ({ hot with link := { busy with resetSent := true } } : State).link.resetSent = true ∧
    (hot.link.resetSent = false ∧ hot.link.sending.any Sending.resets = false) := by decide

theorem witness_QueriesReportWithoutChange :
    hot.canHand ⟨0x31, 7, []⟩ = true ∧ hot.canHand ⟨0x34, 7, []⟩ = true ∧
    (hot.canHand ⟨0x32, 7, u8 3⟩ = true ∧ hot.canHand ⟨0x33, 7, u8 3⟩ = true ∧ hot.fitted 3 = true) ∧
    hot.canHand ⟨0x35, 7, []⟩ = true ∧ hot.canHand ⟨0x30, 7, [0]⟩ = true ∧ hot.canHand ⟨0x30, 7, [1]⟩ = true := by decide

/-- A count inside the window, and one past it in UNSYNCED with no head CUTTING. -/
theorem witness_CountMovesAngle :
    (∃ s : State, s.ctu.timing = .unsynced ∧ s.ctu.streak ≠ 0 ∧ 65536 + (s.machine.indexTol : Int) < s.ctu.elapsed + 1 ∧
      ∀ h : Fin 4, (s.heads.get h).state ≠ .cutting) ∧
    hot.ctu.timing ≠ .stopped ∧ (hot.ctu.streak = 0 ∨ hot.ctu.elapsed + 1 ≤ 65536 + hot.machine.indexTol) ∧
    ∀ h : Fin 4, hot.active h = none ∧ (hot.heads.get h).state ≠ .cutting ∧ (hot.axes.get h).state ≠ .feeding :=
  ⟨⟨{ hot with ctu := { hot.ctu with timing := .unsynced, streak := 1, elapsed := 65544 } }, by decide⟩, by decide⟩

/-! ### The cylinder, the tables, the store and the heads -/

/-- What the three clauses on a count share, for H0. -/
abbrev servable (s : State) : Prop :=
  0 < s.machine.fitted ∧ s.ctu.timing ≠ .stopped ∧ s.ctu.streak ≠ 0 ∧ s.ctu.elapsed + 1 ≤ 65536 + s.machine.indexTol ∧
    ∀ g : Fin 4, (s.heads.get g).settings.startAngle = 0 ∨ s.ctu.elapsed + 1 ≠ (s.heads.get g).settings.startAngle

/-- A card at relative count 63,999. -/
def late (a : Axis) : State := { cutting (band 1 .cutting) (.loaded track10) .empty a with
  ctu := { hot.ctu with angle := 63999, elapsed := 63999 } }

/-- A cut with its pointer at cell 3, an armed stepped trigger at the gap's first count, and helical step 1 of 140. -/
theorem witness_CountServesCellsAndFeed :
    (servable (late (feedAxis .hold .stepped 40 none true)) ∧
      ((late (feedAxis .hold .stepped 40 none true)).heads.get 0).state = .cutting ∧
      ((late (feedAxis .hold .stepped 40 none true)).heads.get 0).nextCell = some 3 ∧
      ((late (feedAxis .hold .stepped 40 none true)).heads.get 0).context = some (PlacementContext.build 0 carton 750000) ∧
      ((late (feedAxis .hold .stepped 40 none true)).buffers.get 0).active.held = .loaded track10 ∧
      3 ≤ (PlacementContext.build 0 carton 750000).n ∧
      (late (feedAxis .hold .stepped 40 none true)).active 0 = some (band 1 .cutting)) ∧
    (64000 = ((63999 + 1) % 65536 + 65536 - ((late (feedAxis .hold .stepped 40 none true)).heads.get 0).settings.startAngle) % 65536 ∧
      ((late (feedAxis .hold .stepped 40 none true)).axes.get 0).state = .feeding ∧
      ((late (feedAxis .hold .stepped 40 none true)).axes.get 0).feed =
        some ⟨1, .stepped, 40, 1536, 140, .hold, true, none⟩) ∧
    (servable (late (feedAxis .hold .helical 40 (some 1) false)) ∧
      ((late (feedAxis .hold .helical 40 (some 1) false)).axes.get 0).state = .feeding ∧
      ((late (feedAxis .hold .helical 40 (some 1) false)).axes.get 0).feed =
        some ⟨1, .helical, 40, 1536, 140, .hold, false, some 1⟩) := by decide

/-- A hot card with a timing state, an index streak and a value of E. -/
def timed (timing : TimingState) (streak elapsed : Nat) : State := { hot with
  ctu := { hot.ctu with timing := timing, streak := streak, elapsed := elapsed } }

/-- Early and late indexes just outside the window, in UNSYNCED and in SYNCED with no band. -/
theorem witness_IndexTakesOriginOrSlips :
    (IndexEdge.falling ≠ hot.machine.indexEdge) ∧ State.reset.ctu.timing = .stopped ∧
    ((timed .unsynced 0 0).ctu.timing ≠ .stopped ∧ (timed .unsynced 0 0).ctu.streak = 0) ∧
    ((timed .unsynced 1 65527).ctu.streak ≠ 0 ∧
      (timed .unsynced 1 65527).ctu.elapsed < 65536 - ((timed .unsynced 1 65527).machine.indexTol : Int)) ∧
    ((timed .synced 2 65527).ctu.timing = .synced ∧ (∀ h : Fin 4, (timed .synced 2 65527).active h = none) ∧
      (timed .synced 2 65527).ctu.elapsed < 65536 - ((timed .synced 2 65527).machine.indexTol : Int)) ∧
    65536 + ((timed .unsynced 1 65545).machine.indexTol : Int) < (timed .unsynced 1 65545).ctu.elapsed ∧
    (∀ h : Fin 4, (timed .synced 2 65545).active h = none) ∧
      65536 + ((timed .synced 2 65545).machine.indexTol : Int) < (timed .synced 2 65545).ctu.elapsed := by decide

/-- E at both ends of its window, with a report due. -/
theorem witness_GoodIndexMeasures :
    (∃ s : State, s.ctu.timing ≠ .stopped ∧ s.ctu.streak ≠ 0 ∧ s.ctu.elapsed = 65536 - (s.machine.indexTol : Int) ∧
      s.machine.reportRevs ≠ 0 ∧ s.ctu.countdown ≤ 1) ∧
    ∃ s : State, s.ctu.timing ≠ .stopped ∧ s.ctu.streak ≠ 0 ∧ s.ctu.elapsed = 65536 + s.machine.indexTol :=
  ⟨⟨{ hot with ctu := { hot.ctu with elapsed := 65528, countdown := 1 }, machine := { hot.machine with reportRevs := 5 } },
      by decide⟩,
    ⟨{ hot with ctu := { hot.ctu with elapsed := 65544 } }, by decide⟩⟩

theorem witness_StoppedAndReadyLine :
    State.reset.ctu.timing = .stopped ∧ (hot.ctu.timing = .synced ∧ ∀ h : Fin 4, hot.active h = none) ∧
    (∃ s : State, s.ctu.timing = .unsynced ∧ s.active 0 = some (band 1 .engaging)) ∧
    hot.pins.readyLine = hot.ctu.ready ∧
    ∃ s : State, s.pins.readyLine = true ∧ s.ctu.ready = false :=
  ⟨by decide, by decide, ⟨{ timed .unsynced 0 0 with bands := hot.bands.set 0 ⟨some (band 1 .engaging), none, []⟩ }, by decide,
    by decide⟩, by decide, ⟨{ hot with ctu := { hot.ctu with ready := false } }, by decide, by decide⟩⟩

/-- A cutting card whose raw machine-ready line has fallen. -/
def failing : State := { laden with pins := Pins.reset }

theorem witness_ReadyLostStopsEverything :
    failing.pins.readyLine = false ∧ failing.ctu.ready = true ∧ (∀ h, (failing.heads.get h).outputsLawful) ∧
    (∀ h, (failing.bands.get h).pendingFollows) ∧ failing.fetch.copy = none := by
  refine ⟨by decide, by decide, witness_HeadOutputsStayLawful.1, ?_, by decide⟩
  show ∀ h : Fin 4, ((failing.bands.get h).waiting.isSome = true → (failing.bands.get h).active.isSome = true)
  decide

/-- A raise from F = 3 with the widest MINSEP over unhomed axes; a lowering to F = 1 with H2 ENGAGING and axis 2 IDLE;
a held band with F and edge as they are, and with another F; F = 5; and a law broken by MINSEP. -/
theorem witness_SetMachineWritten :
    (∃ s : State, machineFields (machinePayload ⟨4, 1000000, 1, 255, 0, 65535, 255⟩) =
        some ⟨4, 1000000, 1, 255, 0, 65535, 255⟩ ∧
      s.canHand ⟨0x01, 7, machinePayload ⟨4, 1000000, 1, 255, 0, 65535, 255⟩⟩ = true ∧ s.anyHeld = false ∧
      edgeOf 1 = some .falling ∧ s.machine.fitted = 3 ∧ s.lawHolds 1000000 4 = true) ∧
    (∃ s : State, machineFields (machinePayload ⟨1, 100000, 0, 8, 0, 0, 0⟩) = some ⟨1, 100000, 0, 8, 0, 0, 0⟩ ∧
      s.canHand ⟨0x01, 7, machinePayload ⟨1, 100000, 0, 8, 0, 0, 0⟩⟩ = true ∧ s.anyHeld = false ∧
      edgeOf 0 = some .rising ∧ s.machine.fitted = 4 ∧ s.lawHolds 100000 1 = true ∧ (s.heads.get 2).state = .engaging ∧
      (s.axes.get 2).homed = true) ∧
    (laden.anyHeld = true ∧ machineFields (machinePayload ⟨4, 0, 0, 9, 0, 0, 3⟩) = some ⟨4, 0, 0, 9, 0, 0, 3⟩ ∧
      laden.canHand ⟨0x01, 7, machinePayload ⟨4, 0, 0, 9, 0, 0, 3⟩⟩ = true ∧ laden.machine.fitted = 4 ∧
      laden.machine.indexEdge = .rising ∧ laden.lawHolds 0 4 = true) ∧
    (laden.anyHeld = true ∧ machineFields (machinePayload ⟨3, 100000, 0, 8, 0, 0, 0⟩) = some ⟨3, 100000, 0, 8, 0, 0, 0⟩ ∧
      laden.canHand ⟨0x01, 7, machinePayload ⟨3, 100000, 0, 8, 0, 0, 0⟩⟩ = true ∧ 3 ≠ laden.machine.fitted) ∧
    (hot.anyHeld = false ∧ machineFields (machinePayload ⟨5, 1000001, 2, 8, 0, 0, 0⟩) = some ⟨5, 1000001, 2, 8, 0, 0, 0⟩ ∧
      hot.canHand ⟨0x01, 7, machinePayload ⟨5, 1000001, 2, 8, 0, 0, 0⟩⟩ = true) ∧
    (machineFields (machinePayload ⟨4, 1000000, 1, 8, 0, 0, 0⟩) = some ⟨4, 1000000, 1, 8, 0, 0, 0⟩ ∧
      hot.canHand ⟨0x01, 7, machinePayload ⟨4, 1000000, 1, 8, 0, 0, 0⟩⟩ = true ∧ hot.lawHolds 1000000 4 = false) :=
  ⟨⟨({ unhomed with machine := { hot.machine with fitted := 3 } } : State).takeUp, by decide⟩,
    ⟨{ hot with heads := hot.heads.set 2 { Head.reset with
      state := .engaging, level := 100, ramp := some ⟨.linear, 0, 2048, 2048, none, 5000800⟩ } }, by decide⟩, by decide⟩

/-- A SYNCED card, at a value of E, with bands on three heads: one CUTTING, with a fill in flight
and a pending band, one in WAIT_SYNC and one ENGAGING. -/
def threeBands (elapsed : Nat) (startAngle : Nat) : State := ({ cutting (band 1 .cutting) (.loaded track10) .empty
    (feedAxis .hold .stepped 40 none true) with
  ctu := { hot.ctu with elapsed := elapsed, indexTime := 5000000 - 700000 }
  bands := ⟨⟨some (band 1 .cutting), some (band 4 .pending), []⟩, ⟨some (band 2 .waitSync), none, []⟩,
    ⟨some (band 3 .engaging), none, []⟩, ⟨none, none, []⟩⟩
  fetch := { hot.fetch with fills := hot.fetch.fills.set 0 (some 5000001) }
  heads := (hot.heads.set 0 cutHead).map fun x =>
    { x with settings := { x.settings with startAngle := startAngle } } } : State).takeUp

/-- What the bands of such a card meet. -/
abbrev losing (s : State) : Prop :=
  s.fetch.copy = none ∧ s.ctu.timing = .synced ∧ s.ctu.streak ≠ 0 ∧
    (s.fitted 0 = true ∧ s.takeUp.fitted 0 = true ∧ s.active 0 = some (band 1 .cutting)) ∧
    (s.fitted 1 = true ∧ s.active 1 = some (band 2 .waitSync) ∧ (s.heads.get 1).state ≠ .cutting) ∧
    s.fitted 2 = true ∧ s.active 2 = some (band 3 .engaging) ∧ (s.heads.get 2).state ≠ .cutting

/-- E at the ends that each loss has; and a speed that falls below its window at an index in place. -/
theorem witness_TimingLossEndsCuttingBands :
    losing (threeBands 100 0) ∧
    (losing (threeBands 65544 0) ∧ 65536 + ((threeBands 65544 0).machine.indexTol : Int) < (threeBands 65544 0).ctu.elapsed + 1) ∧
    (losing (threeBands 65527 0) ∧ (threeBands 65527 0).ctu.elapsed < 65536 - ((threeBands 65527 0).machine.indexTol : Int)) ∧
    (losing (threeBands 65545 0) ∧ 65536 + ((threeBands 65545 0).machine.indexTol : Int) < (threeBands 65545 0).ctu.elapsed) ∧
    (losing (threeBands 65528 65528) ∧
      65536 - ((threeBands 65528 65528).machine.indexTol : Int) ≤ (threeBands 65528 65528).ctu.elapsed ∧
      (threeBands 65528 65528).ctu.elapsed ≤ 65536 + (threeBands 65528 65528).machine.indexTol ∧
      700000 = ((threeBands 65528 65528).timestamp + 4294967296 - (threeBands 65528 65528).ctu.indexTime) % 4294967296 ∧
      (threeBands 65528 65528).ctu.speedOk = true ∧ (threeBands 65528 65528).machine.nominalPeriod ≠ 0 ∧
      700000 + (threeBands 65528 65528).machine.periodTol < (threeBands 65528 65528).machine.nominalPeriod ∧
      ∀ g : Fin 4, (threeBands 65528 65528).fitted g = true → (threeBands 65528 65528).startAngle g ≠ 0 ∧
        ((threeBands 65528 65528).startAngle g : Int) ≤ (threeBands 65528 65528).ctu.elapsed) :=
  ⟨by decide, by decide, by decide, by decide, by decide⟩

/-- The ends of N and PITCH; a READ; an entry in use; and values and a mode outside. -/
theorem witness_SetScreenWritesOrReads :
    (screenFields (screenPayload ⟨15, 0, 64, 8192, 65536, 1⟩) = some ⟨15, 0, 64, 8192, 65536, 1⟩ ∧
      hot.canHand ⟨0x04, 7, screenPayload ⟨15, 0, 64, 8192, 65536, 1⟩⟩ = true ∧ hot.screenInUse 15 = false) ∧
    (screenFields (screenPayload ⟨0, 0, 16384, 8191, 65535, 4095⟩) = some ⟨0, 0, 16384, 8191, 65535, 4095⟩ ∧
      hot.canHand ⟨0x04, 7, screenPayload ⟨0, 0, 16384, 8191, 65535, 4095⟩⟩ = true ∧ hot.screenInUse 0 = false ∧
      laden.canHand ⟨0x04, 7, screenPayload ⟨0, 0, 16384, 8191, 65535, 4095⟩⟩ = true ∧ laden.screenInUse 0 = true) ∧
    (screenFields (screenPayload ⟨0, 1, 0, 0, 0, 0⟩) = some ⟨0, 1, 0, 0, 0, 0⟩ ∧
      hot.canHand ⟨0x04, 7, screenPayload ⟨0, 1, 0, 0, 0, 0⟩⟩ = true) ∧
    (screenFields (screenPayload ⟨0, 0, 63, 0, 0, 4096⟩) = some ⟨0, 0, 63, 0, 0, 4096⟩ ∧
      hot.canHand ⟨0x04, 7, screenPayload ⟨0, 0, 63, 0, 0, 4096⟩⟩ = true) ∧
    screenFields (screenPayload ⟨0, 2, 64, 0, 0, 1⟩) = some ⟨0, 2, 64, 0, 0, 1⟩ ∧
      hot.canHand ⟨0x04, 7, screenPayload ⟨0, 2, 64, 0, 0, 1⟩⟩ = true := by decide

theorem witness_SetScreenClears :
    screenFields (screenPayload ⟨0, 0, 0, 9000, 70000, 9000⟩) = some ⟨0, 0, 0, 9000, 70000, 9000⟩ ∧
    (laden.canHand ⟨0x04, 7, screenPayload ⟨0, 0, 0, 9000, 70000, 9000⟩⟩ = true ∧ band 1 .cutting ∈ laden.held 0 ∧
      (band 1 .cutting).screen = 0) ∧
    hot.canHand ⟨0x04, 7, screenPayload ⟨0, 0, 0, 9000, 70000, 9000⟩⟩ = true ∧
      ∀ h : Fin 4, ∀ b ∈ hot.held h, b.screen ≠ 0 := by decide

/-- The sparsest and the densest entry. -/
theorem witness_FireCountsIncrease :
    (∃ x : Screen, x.n = 64 ∧ x.gap = 0 ∧ x.stagger = 65535) ∧ ∃ x : Screen, x.n = 16384 ∧ x.gap = 8191 ∧ x.stagger = 0 :=
  ⟨⟨⟨64, 0, 65535, 1⟩, rfl, rfl, rfl⟩, ⟨⟨16384, 8191, 0, 1⟩, rfl, rfl, rfl⟩⟩

/-- Curve 2 at tones 1 and 255, with a calibration at the ends of its ranges. -/
theorem witness_DepthsStayInTheWindow :
    curve2.length = 17 ∧ (∀ k ∈ curve2, k ≤ 4095) ∧ (∃ c : Calibration, c.gain = -4096 ∧ c.offset = -512 ∧ c.floor = 1 ∧
      c.ceiling = 1) ∧ (∃ c : Calibration, c.gain = 4095 ∧ c.offset = 511 ∧ c.floor = 4095 ∧ c.ceiling = 4095) ∧
    (curve2[1 / 16]? = some 0 ∧ curve2[1 / 16 + 1]? = some 120) ∧
    curve2[255 / 16]? = some 3900 ∧ curve2[255 / 16 + 1]? = some 4095 :=
  ⟨by decide, by decide, ⟨⟨-4096, -512, 1, 1⟩, rfl, rfl, rfl, rfl⟩, ⟨⟨4095, 511, 4095, 4095⟩, rfl, rfl, rfl, rfl⟩, by decide⟩

/-- Each mode of SET_CURVE, and of SET_PATCH with 1 and 33 pairs. -/
theorem witness_CurvesAndPatchesWritten :
    (curveFields (curvePayload ⟨7, 0, 0, curve2⟩) = some ⟨7, 0, 0, curve2⟩ ∧
      hot.canHand ⟨0x05, 7, curvePayload ⟨7, 0, 0, curve2⟩⟩ = true ∧ hot.curveInUse 7 = false) ∧
    (curveFields (curvePayload ⟨1, 0, 0, curve2⟩) = some ⟨1, 0, 0, curve2⟩ ∧
      laden.canHand ⟨0x05, 7, curvePayload ⟨1, 0, 0, curve2⟩⟩ = true ∧ laden.curveInUse 1 = true) ∧
    (curveFields (curvePayload ⟨1, 1, 9, curve2⟩) = some ⟨1, 1, 9, curve2⟩ ∧
      laden.canHand ⟨0x05, 7, curvePayload ⟨1, 1, 9, curve2⟩⟩ = true) ∧
    (curveFields (curvePayload ⟨1, 2, 3, curve2⟩) = some ⟨1, 2, 3, curve2⟩ ∧
      laden.canHand ⟨0x05, 7, curvePayload ⟨1, 2, 3, curve2⟩⟩ = true ∧ laden.fitted 3 = true) ∧
    (patchFields (patchPayload ⟨3, 0, [⟨9, 4097⟩]⟩) = some ⟨3, 0, [⟨9, 4097⟩]⟩ ∧ hot.fitted 3 = true ∧
      hot.canHand ⟨0x06, 7, patchPayload ⟨3, 0, [⟨9, 4097⟩]⟩⟩ = true ∧ hot.patchInUse 3 = false) ∧
    (patchFields (patchPayload ⟨3, 0, []⟩) = some ⟨3, 0, []⟩ ∧ hot.canHand ⟨0x06, 7, patchPayload ⟨3, 0, []⟩⟩ = true) ∧
    (patchFields (patchPayload ⟨3, 1, []⟩) = some ⟨3, 1, []⟩ ∧ hot.canHand ⟨0x06, 7, patchPayload ⟨3, 1, []⟩⟩ = true) ∧
    ∃ s : State, s.canHand ⟨0x06, 7, patchPayload ⟨3, 0, [⟨9, 4097⟩]⟩⟩ = true ∧ s.patchInUse 3 = true :=
  ⟨by decide, by decide, by decide, by decide, by decide, by decide, by decide,
    ⟨{ hot with bands := hot.bands.set 3 ⟨some { band 1 .cutting with source := .patch }, none, []⟩ }, by decide, by decide⟩⟩

/-- A request that is refused BUSY, with a frame on the line. -/
theorem witness_RefusedRequestsChangeNothing :
    laden.canHand ⟨0x12, 7, []⟩ = true ∧ laden.link.sending.isSome = true ∧
    (after (requestOf ⟨0x12, 7, []⟩) laden).link.outbound = [⟨0x92, 7, .busy, none, []⟩] := by decide

/-- An opening of a DATA track with the largest N that one page holds, and of a BLANK one; and a continuation. -/
theorem witness_TrackOpenedAndContinued :
    (trackFields (trackPayload ⟨1, 0, 42, 1024, 0, [1, 2]⟩) = some ⟨1, 0, 42, 1024, 0, [1, 2]⟩ ∧
      stocked.fitted 1 = true ∧ stocked.active 1 = none ∧
      ∃ s : State, s.canHand ⟨0x10, 7, trackPayload ⟨1, 0, 42, 1024, 0, [1, 2]⟩⟩ = true ∧ s.active 1 = none ∧
        s.fitted 1 = true ∧ (∀ d ∈ s.store.queues.get 1, d.number ≠ 42) ∧ (s.store.queues.get 1).length < 1024 ∧
        ((s.store.queues.get 1).filter fun d => !d.complete).length = 1 ∧ s.store.freeDescriptors = 1 ∧
        ceilDiv 1024 1024 = s.store.free.count) ∧
    (trackFields (trackPayload ⟨1, 1, 43, 64, 0, []⟩) = some ⟨1, 1, 43, 64, 0, []⟩ ∧ trackKindOf 1 = some .blank ∧
      stocked.canHand ⟨0x10, 7, trackPayload ⟨1, 1, 43, 64, 0, []⟩⟩ = true ∧
      (∀ d ∈ stocked.store.queues.get 1, d.number ≠ 43)) ∧
    (trackFields (trackPayload ⟨1, 0, 40, 3000, 2000, [1, 2]⟩) = some ⟨1, 0, 40, 3000, 2000, [1, 2]⟩ ∧
      stocked.canHand ⟨0x10, 7, trackPayload ⟨1, 0, 40, 3000, 2000, [1, 2]⟩⟩ = true ∧
      stocked.store.find 1 40 = some ⟨40, .data, 3000, 2000, [0, 1, 2]⟩ ∧
      (⟨40, .data, 3000, 2000, [0, 1, 2]⟩ : Descriptor).complete = false ∧ 2000 + 2 ≤ 3000) :=
  ⟨⟨by decide, by decide, by decide, { hot with store := { hot.store with
      free := ⟨65535, []⟩, freeDescriptors := 1, queues := hot.store.queues.set 1 [⟨44, .data, 3000, 1000, [6, 7, 8]⟩] } },
      by decide⟩, by decide, by decide⟩

theorem witness_TonesReadBack : ([7, 3] : List Nat).Nodup ∧ 1000 + ([1, 2] : List Byte).length ≤ 1024 * ([7, 3] : List Nat).length ∧
    2048 ≤ 1024 * ([7, 3] : List Nat).length ∧ 5000 / 1024 ∉ ([7, 3] : List Nat) := by decide

/-- H1 of section 4.14 with a band that expects track 43: each refusal has a chunk of its own. -/
def served : State := { queued with bands := queued.bands.set 1 ⟨some { band 1 .cutting with next := 43 }, none, []⟩ }

/-- A head that is not fitted and one that is; a COMPLETE and a FILLING track; a stale number; and the limits. -/
theorem witness_TrackRefusalsInOrder :
    ((fewer 3).fitted 3 = false ∧ served.fitted 1 = true ∧ trackKindOf 0 = some .data) ∧
    (served.store.find 1 41 = some ⟨41, .data, 3000, 3000, [3, 4, 5]⟩ ∧
      (⟨41, .data, 3000, 3000, [3, 4, 5]⟩ : Descriptor).complete = true) ∧
    (served.store.find 1 40 = some ⟨40, .data, 3000, 2000, [0, 1, 2]⟩ ∧
      (⟨40, .data, 3000, 2000, [0, 1, 2]⟩ : Descriptor).complete = false) ∧
    (served.store.find 1 42 = none ∧ ((served.active 1).any fun b => decide (42 < b.next)) = true) ∧
    (served.store.find 1 45 = none ∧ ((served.active 1).any fun b => decide (45 < b.next)) = false ∧
      (served.store.queues.get 1).length < 1024 ∧ 2 ≤ fillingCount (served.store.queues.get 1)) ∧
    (∃ s : State, s.fitted 1 = true ∧ s.store.find 1 2000 = none ∧ 1024 ≤ (s.store.queues.get 1).length) ∧
    ∃ s : State, s.fitted 1 = true ∧ s.store.find 1 45 = none ∧ fillingCount (s.store.queues.get 1) < 2 ∧
      s.store.free.count < ceilDiv 3000 1024 :=
  ⟨by decide, by decide, by decide, by decide, by decide,
    ⟨{ hot with store := { hot.store with
      queues := hot.store.queues.set 1 (List.replicate 1024 ⟨1, .blank, 64, 0, []⟩) } }, by decide, by
        show (List.replicate 1024 (⟨1, .blank, 64, 0, []⟩ : Descriptor)).find? _ = none
        rw [List.find?_replicate_of_neg]; decide, by
        show 1024 ≤ (List.replicate 1024 (⟨1, .blank, 64, 0, []⟩ : Descriptor)).length
        rw [List.length_replicate]⟩,
    ⟨{ hot with store := { hot.store with free := ⟨65536, [3, 4]⟩ } }, by decide⟩⟩

/-- H1 CUTTING with the STANDBY loaded with track 43, and tracks 40, 41, 44 and 45 in the queue. -/
def leading (starved : Bool) : State := { cutting (band 1 .cutting) .empty .empty (idleAxis 0 0) with
  bands := hot.bands.set 1 ⟨some { band 2 .cutting with first := 40, count := 30, next := 43 }, none, []⟩
  heads := hot.heads.set 1 { cutHead with settings := { HeadSettings.reset with leadMark := 2 } }
  buffers := hot.buffers.set 1 (bufs (.loaded ⟨42, .data, 3000⟩) (.loaded ⟨43, .data, 3000⟩))
  store := { queued.store with
    queues := queued.store.queues.set 1 ((queued.store.queues.get 1).take 2 ++ [⟨44, .data, 64, 64, [6]⟩, ⟨45, .blank, 64, 0, []⟩])
    starved := hot.store.starved.set 1 starved } }

/-- What a drop from `first` to `last` on that card leaves, with the state of starvation it comes to. -/
def dropped (s : State) (first last : Nat) (low : Bool) : State := { s with store := { s.store with
  queues := s.store.queues.set 1 ((s.store.queues.get 1).filter fun d => d.number < first ∨ max first last < d.number)
  starved := s.store.starved.set 1 low } }

/-- Track 44 dropped leaves a lead of 1 and starves a head that was FED; 40 dropped leaves the lead of 3, and FED. -/
theorem witness_DropAndClear :
    (dropFields (dropPayload ⟨1, 44, 43⟩) = some ⟨1, 44, 43⟩ ∧ stocked.fitted 1 = true ∧
      stocked.canHand ⟨0x11, 7, dropPayload ⟨1, 44, 43⟩⟩ = true ∧ stocked.active 1 = none) ∧
    ((leading false).canHand ⟨0x11, 7, dropPayload ⟨1, 44, 43⟩⟩ = true ∧ (leading false).fitted 1 = true ∧
      (leading false).active 1 = some { band 2 .cutting with first := 40, count := 30, next := 43 } ∧
      ((leading false).buffers.get 1).standby.held ≠ .empty ∧
      (((leading false).store.queues.get 1).filter fun d => 44 ≤ d.number ∧ d.number ≤ max 44 43) ≠ [] ∧
      ((leading false).heads.get 1).settings.leadMark = 2 ∧ 40 + 30 - 1 + 1 - 43 = 27 ∧
      (dropped (leading false) 44 43 true).counts 1 43 = true ∧ (dropped (leading false) 44 43 true).counts 1 44 = false ∧
      true = decide (1 < min 2 27) ∧ (leading false).store.starved.get 1 = false) ∧
    ((leading true).canHand ⟨0x11, 7, dropPayload ⟨1, 40, 40⟩⟩ = true ∧
      (((leading true).store.queues.get 1).filter fun d => 40 ≤ d.number ∧ d.number ≤ max 40 40) ≠ [] ∧
      (∀ i < 3, (dropped (leading true) 40 40 false).counts 1 (43 + i) = true) ∧
      (dropped (leading true) 40 40 false).counts 1 (43 + 3) = false ∧ false = decide (3 < min 2 27)) ∧
    (stocked.canHand ⟨0x12, 7, []⟩ = true ∧ ∀ h : Fin 4, stocked.held h = []) ∧
    laden.canHand ⟨0x12, 7, []⟩ = true ∧ laden.held 0 ≠ [] := by decide

/-- 64 tones of value 1. -/
def tones64 : List Byte := List.replicate 64 1

/-- A card whose H0 waits for track 10 of 64 tones. -/
def hungry (active : BufferState) : State := { hot with
  heads := hot.heads.set 0 { Head.reset with context := some { PlacementContext.build 0 carton 750000 with n := 64 } }
  buffers := hot.buffers.set 0 (bufs active .empty)
  bands := hot.bands.set 0 ⟨some (band 1 .waitSync), none, []⟩ }

/-- That card with a stale track 9 of page 0 in H0's queue. -/
def behind (active : BufferState) : State := { hungry active with store := { hot.store with
  free := ⟨1, []⟩, freeDescriptors := 1, queues := hot.store.queues.set 0 [⟨9, .data, 64, 64, [0]⟩] } }

/-- What a TRACK of number 10 and N = `n` with `tones` meets on such a card. -/
abbrev wanting (kind : Nat) (n : Nat) (tones : List Byte) (old : List Descriptor) (s : State) : Prop :=
  trackFields (trackPayload ⟨0, kind, 10, n, 0, tones⟩) = some ⟨0, kind, 10, n, 0, tones⟩ ∧ s.fitted 0 = true ∧
    s.canHand ⟨0x10, 7, trackPayload ⟨0, kind, 10, n, 0, tones⟩⟩ = true ∧ s.store.queues.get 0 = old ∧
    old.length < 1024 ∧ (∀ d ∈ old, d.number < 10) ∧ 1 ≤ s.store.freeDescriptors ∧
    ceilDiv n 1024 ≤ s.store.free.count ∧ s.active 0 = some (band 1 .waitSync) ∧ (band 1 .waitSync).next ≤ 10 ∧
    (s.buffers.get 0).standby.held = .empty ∧ nextToLoad (s.buffers.get 0) 10 = 10 ∧ 10 ≤ (band 1 .waitSync).last ∧
    s.fetch.copy = none ∧ (∀ g : Fin 4, g ≠ 0 → s.asking g = none) ∧ (s.bands.get 0).waiting = none

set_option maxRecDepth 4000 in
/-- A DATA track with the port free, alone and behind a stale one; a BLANK one; a REPEAT behind a LOADED DATA track 9,
behind a BLANK one and with no track; and one with another N. -/
theorem witness_WantedTrackIsGranted :
    (wanting 0 64 tones64 [] (hungry .empty) ∧ (hungry .empty).contextN 0 = 64) ∧
    (wanting 0 64 tones64 [⟨9, .data, 64, 64, [0]⟩] (behind .empty) ∧ (behind .empty).contextN 0 = 64) ∧
    wanting 1 64 [] [] (hungry .empty) ∧
    (wanting 2 64 [] [] (hungry (.loaded ⟨9, .data, 64⟩)) ∧
      ((hungry (.loaded ⟨9, .data, 64⟩)).buffers.get 0).active.held = .loaded ⟨9, .data, 64⟩) ∧
    (wanting 2 64 [] [] (hungry (.loaded ⟨9, .blank, 64⟩)) ∧
      ((hungry (.loaded ⟨9, .blank, 64⟩)).buffers.get 0).active.held = .loaded ⟨9, .blank, 64⟩) ∧
    wanting 2 64 [] [⟨9, .data, 64, 64, [0]⟩] (behind .empty) ∧
    (wanting 0 65 (1 :: tones64) [⟨9, .data, 64, 64, [0]⟩] (behind .empty) ∧ (behind .empty).contextN 0 ≠ 65) :=
  ⟨by decide, by decide, by decide, by decide, by decide, by decide, by decide⟩

/-- Two heads that ask at equal relative counts: H0 is chosen. -/
def asking2 : State := { hot with
  heads := ⟨(hungry .empty).heads.get 0, (hungry .empty).heads.get 0, Head.reset, Head.reset⟩
  bands := (hot.bands.set 0 ⟨some (band 1 .waitSync), none, []⟩).set 1 ⟨some (band 2 .waitSync), none, []⟩
  store := { hot.store with
    queues := (hot.store.queues.set 0 [⟨10, .data, 64, 64, [0]⟩]).set 1 [⟨10, .data, 64, 64, [1]⟩] } }

theorem witness_ArbiterGrantsNearest :
    (asking2.arbiterChoice = some 0 ∧ (asking2.asking 1).isSome = true ∧ asking2.fetch.copy = none ∧
      asking2.asking 0 = some ⟨10, .data, 64, 64, [0]⟩ ∧ 64 = asking2.contextN 0) ∧ hot.arbiterChoice = none := by decide

theorem witness_CopyAndFillComplete :
    (copying.fetch.copy = some ⟨0, 10, 64, [0], 0, 5000001⟩ ∧ 64 ≤ 1024 * [0].length ∧
      ∀ g : Fin 4, g ≠ 0 → copying.active g = none) ∧
    (∃ s : State, s.fetch.fills.get 0 = some 5000001 ∧ (s.buffers.get 0).standby.held = .loading ⟨10, .patch, 5⟩ ∧
      s.active 0 = some { band 1 .waitSync with source := .patch }) ∧
    hot.fetch.copy = none ∧ hot.fetch.fills.get 3 = none :=
  ⟨by decide, ⟨{ hot with
      fetch := { hot.fetch with fills := hot.fetch.fills.set 0 (some 5000001) }
      buffers := hot.buffers.set 0 (bufs .empty (.loading ⟨10, .patch, 5⟩))
      bands := hot.bands.set 0 ⟨some { band 1 .waitSync with source := .patch }, none, []⟩ }, by decide⟩,
    by decide, by decide⟩

/-- The settings of a SET_HEAD with every field past an end of its range. -/
def wild : HeadFields := ⟨3, 0, 0, 8, 1, 256, 256, 499, 20001, 0, 256, 65535, -4097, 512, 0, 4096⟩

theorem witness_SetHeadWritten :
    (headFields (headPayload wild) = some wild ∧ hot.fitted 3 = true ∧ hot.canHand ⟨0x02, 7, headPayload wild⟩ = true ∧
      hot.held 3 = [] ∧ (hot.heads.get 3).state = .parked ∧ shapeOf wild.shape = some .sine) ∧
    (headFields (headPayload { wild with head := 0 }) = some { wild with head := 0 } ∧ laden.held 0 ≠ [] ∧
      laden.canHand ⟨0x02, 7, headPayload { wild with head := 0 }⟩ = true) ∧
    headFields (headPayload { wild with shape := 2 }) = some { wild with shape := 2 } ∧
      hot.canHand ⟨0x02, 7, headPayload { wild with shape := 2 }⟩ = true := by decide

theorem witness_HeadClearAsksTheMonitor :
    (alarmed.fitted 2 = true ∧ alarmed.canHand ⟨0x29, 7, u8 2⟩ = true ∧ alarmed.monitor.holding 2 = some 3) ∧
    hot.canHand ⟨0x29, 7, u8 2⟩ = true ∧ hot.monitor.holding 2 = none := by decide

/-! ### The heads' timers, the axes, the bands and the monitor -/

/-- A card with one head. -/
def withHead (h : HeadId) (x : Head) : State := { hot with heads := hot.heads.set h x }

/-- A card with one axis. -/
def withAxis (k : HeadId) (a : Axis) : State := { hot with axes := hot.axes.set k a }

/-- A LINEAR ramp from 0 to 2,048. -/
def linear (level settle : Nat) : Head := { Head.reset with
  state := .engaging, level := level, ramp := some ⟨.linear, 0, 2048, 2048, none, 5000800⟩
  settings := { HeadSettings.reset with settle := settle } }

/-- A retract ramp from 2,048. -/
def retracting (level : Nat) : Head := { Head.reset with
  state := .retracting, level := level, ramp := some ⟨.linear, 2048, 0, -2048, none, 5000800⟩ }

/-- H0 retracts under a POSITIONING band whose axis stands at `p`, with the band's start at 40. -/
def retractingUnder (p : Nat) : State := { withHead 0 (retracting 16) with
  axes := hot.axes.set 0 (feedAxis .positioning .stepped p none false)
  bands := hot.bands.set 0 ⟨some (band 1 .positioning), none, []⟩ }

/-- R130: the head that parks gives the position order, and the move to the start begins, downward from above it. -/
theorem test_parked_moves_to_start : ((after (.rampUpdate 0) (retractingUnder 41)).axes.get 0).move =
    some ⟨false, 0, 1, 5000800, 1000000, 20000⟩ := by decide

/-- A short step; a segment's end; the ends of an engage ramp with a settle time and without; and of a retract ramp, with no
band and under a POSITIONING one, above its start and below. -/
theorem witness_RampUpdateMovesTheLevel :
    ((linear 0 20).ramp = some ⟨.linear, 0, 2048, 2048, none, 5000800⟩ ∧ 16 ≠ 2048) ∧
    (((ramping 16 1 24).heads.get 1).ramp = some ⟨.sine, 0, 2048, 2048, some ⟨1, 24⟩, 5000800⟩ ∧
      ((ramping 16 1 24).reach 5000800).heads.get 1 = (ramping 16 1 24).heads.get 1 ∧ 16 + min 16 (24 - 16) = 24 ∧
      24 ≠ 2048) ∧
    (2040 + min 16 (2048 - 2040) = 2048 ∧ (linear 2040 20).state = .engaging ∧ (linear 2040 20).settings.settle ≠ 0) ∧
    (∃ s : State, s.heads.get 1 = linear 2040 0 ∧ (linear 2040 0).settings.settle = 0 ∧
      s.active 1 = some (band 1 .engaging)) ∧
    (16 - min 16 (16 - 0) = 0 ∧ (retracting 16).state = .retracting ∧ (withHead 1 (retracting 16)).active 1 = none) ∧
    (∀ p, p = 39 ∨ p = 41 → (retractingUnder p).active 0 = some (band 1 .positioning) ∧
      ((retractingUnder p).axes.get 0).feed = some ⟨1, .stepped, 40, 1536, 140, .positioning, false, none⟩ ∧
      ((retractingUnder p).axes.get 0).position.getD 0 ≠ 40) ∧
    (hot.heads.get 1).ramp = none :=
  ⟨by decide, by decide, by decide,
    ⟨{ withHead 1 (linear 2040 0) with bands := hot.bands.set 1 ⟨some (band 1 .engaging), none, []⟩ }, by decide⟩, by decide,
    by rintro p (rfl | rfl) <;> decide, by decide⟩

/-- A SETTLING and a READY head. -/
def settling : Head := { Head.reset with state := .settling, level := 2048, settleTimer := some 20000 }

/-- A READY head whose dwell timer runs. -/
def dwelling : Head := { Head.reset with state := .ready, level := 2048, dwellTimer := some 500000 }

theorem witness_SettleAndDwellExpire :
    (∃ s : State, s.heads.get 1 = settling ∧ s.active 1 = some (band 1 .engaging)) ∧
    ((withHead 1 settling).heads.get 1 = settling ∧ (withHead 1 settling).active 1 = none ∧
      (((withHead 1 settling).elapse 20000).heads.get 1).dwellTimer = none ∧ settling.settings.dwell ≠ 0) ∧
    ((withHead 1 dwelling).heads.get 1 = dwelling ∧ (withHead 1 dwelling).active 1 = none ∧
      (((withHead 1 dwelling).elapse 500000).heads.get 1).level ≠ 0) ∧
    (hot.heads.get 1).state ≠ .settling ∧ (hot.heads.get 1).state ≠ .ready :=
  ⟨⟨{ withHead 1 settling with bands := hot.bands.set 1 ⟨some (band 1 .engaging), none, []⟩ }, by decide, by decide⟩,
    by decide⟩

/-- An UNHOMED axis; an IDLE one at the new MAXPOS; one above it; one that would not clear; and a SEEKING one. -/
theorem witness_SetAxisWritten :
    (axisFields (axisPayload ⟨3, 4000001, 0, 0, 99⟩) = some ⟨3, 4000001, 0, 0, 99⟩ ∧ unhomed.fitted 3 = true ∧
      unhomed.canHand ⟨0x03, 7, axisPayload ⟨3, 4000001, 0, 0, 99⟩⟩ = true ∧ (unhomed.axes.get 3).state = .unhomed) ∧
    (axisFields (axisPayload ⟨1, 650000, 5, 1, 100⟩) = some ⟨1, 650000, 5, 1, 100⟩ ∧
      hot.canHand ⟨0x03, 7, axisPayload ⟨1, 650000, 5, 1, 100⟩⟩ = true ∧ (hot.axes.get 1).state = .idle ∧
      (hot.heads.get 1).state = .parked ∧ hot.held 1 = [] ∧ (hot.axes.get 1).position.getD 0 ≤ 5 ∧
      hot.clearOf 1 (650000 + 5, 650000 + 5) = true ∧ 4 < (hot.axes.get 1).position.getD 0) ∧
    (axisFields (axisPayload ⟨1, 99994, 5, 1, 100⟩) = some ⟨1, 99994, 5, 1, 100⟩ ∧
      hot.canHand ⟨0x03, 7, axisPayload ⟨1, 99994, 5, 1, 100⟩⟩ = true ∧ hot.clearOf 1 (99994 + 5, 99994 + 5) = false) ∧
    ∃ s : State, s.canHand ⟨0x03, 7, axisPayload ⟨1, 650000, 5, 1, 100⟩⟩ = true ∧ (s.axes.get 1).state = .seeking :=
  ⟨by decide, by decide, by decide, ⟨withAxis 1 { idleAxis 1 5 with state := .seeking, target := some 9 }, by decide, by decide⟩⟩

/-- A HOME of axis 0 with its inputs inactive, and with each of them active; and each refusal, in the order of the checks. -/
theorem witness_HomeAndHomeSensor :
    (unhomed.canHand ⟨0x23, 7, u8 (0 : HeadId).val⟩ = true ∧ unhomed.fitted 0 = true ∧ (unhomed.axes.get 0).state = .unhomed ∧
      unhomed.held 0 = [] ∧ unhomed.ctu.ready = true ∧ (unhomed.heads.get 0).state = .parked ∧
      unhomed.spanAt unhomed.ctu.acting.fitted 1 = none ∧ unhomed.pins.homeSensor.get 0 = false ∧
      unhomed.pins.limitSwitch.get 0 = false) ∧
    (∃ s : State, s.canHand ⟨0x23, 7, u8 (3 : HeadId).val⟩ = true ∧ s.fitted 3 = true ∧ (s.axes.get 3).state = .idle ∧
      s.held 3 = [] ∧ s.ctu.ready = true ∧ (s.heads.get 3).state = .parked ∧
      (∀ j : Fin 4, j < 3 → (s.axes.get j).homed = true) ∧ s.span 2 = some (1300000, 1300000) ∧
      s.spanAt s.ctu.acting.fitted 4 = none ∧ s.pins.homeSensor.get 3 = true) ∧
    (∃ s : State, s.axes.get 0 = unhomed.axes.get 0 ∧ s.pins.homeSensor.get 0 = false ∧ s.pins.limitSwitch.get 0 = true) ∧
    ((hot.axes.get 0).state ≠ .homing ∧
      ((after (.home 1 [0]) unhomed).axes.get 0).state = .homing) ∧
    hot.canHand ⟨0x23, 7, u8 4⟩ = true ∧ hot.canHand ⟨0x23, 7, u8 255⟩ = true ∧ (fewer 3).fitted 3 = false ∧
    ((withAxis 1 { idleAxis 1 5 with state := .seeking }).axes.get 1).state = .seeking ∧
    ((laden.axes.get 0).state = .feeding ∧ laden.canHand ⟨0x23, 7, u8 (0 : HeadId).val⟩ = true) ∧
    (∃ s : State, s.fitted 1 = true ∧ (s.axes.get 1).state = .idle ∧ s.held 1 = [] ∧ s.ctu.ready = false) ∧
    (((withHead 1 { Head.reset with state := .settling }).axes.get 1).state = .idle ∧
      (withHead 1 { Head.reset with state := .settling }).held 1 = [] ∧
      (withHead 1 { Head.reset with state := .settling }).ctu.ready = true ∧
      ((withHead 1 { Head.reset with state := .settling }).heads.get 1).state ≠ .parked) ∧
    (unhomed.fitted 1 = true ∧ (unhomed.axes.get 1).state = .unhomed ∧ unhomed.held 1 = [] ∧ unhomed.ctu.ready = true ∧
      (unhomed.heads.get 1).state = .parked ∧ (unhomed.axes.get 0).homed = false) ∧
    (∃ s : State, s.span 0 = some (550001, 550001) ∧ (s.axes.get 1).settings.origin < 550001 + s.machine.minsep) ∧
    ∃ s : State, s.spanAt s.ctu.acting.fitted 2 = some (749999, 749999) ∧
      749999 < (s.axes.get 1).settings.origin + s.machine.minsep :=
  ⟨by decide, ⟨{ hot with pins := { hot.pins with homeSensor := hot.pins.homeSensor.set 3 true } }, by decide⟩,
    ⟨{ unhomed with pins := { hot.pins with limitSwitch := hot.pins.limitSwitch.set 0 true } }, by decide⟩,
    by decide, by decide, by decide, by decide, by decide, by decide,
    ⟨{ hot with ctu := { hot.ctu with ready := false } }, by decide⟩, by decide, by decide,
    ⟨withAxis 0 (idleAxis 0 550001), by decide, by decide⟩,
    ⟨withAxis 2 { idleAxis 2 0 with settings := { AxisSettings.reset 2 with origin := 749999 } }, by decide, by decide⟩⟩

/-- Seeks below 0, to the position, away from it, and on the limit switch; each refusal, in the order of the checks; and a
halt in each axis state. -/
theorem witness_SeekAndHalt :
    (seekFields (seekPayload ⟨3, -1⟩) = some ⟨3, -1⟩ ∧ hot.canHand ⟨0x24, 7, seekPayload ⟨3, -1⟩⟩ = true ∧
      hot.fitted 3 = true ∧ hot.ctu.ready = true ∧ (∀ j : Fin 4, (hot.axes.get j).homed = true) ∧
      (hot.axes.get 3).state ≠ .feeding ∧ hot.held 3 = [] ∧ (hot.heads.get 3).state = .parked ∧
      (hot.axes.get 3).position = some 0 ∧ hot.clearOf 3 (1950000 + min 0 0, 1950000 + max 0 0) = true) ∧
    (seekFields (seekPayload ⟨3, 650001⟩) = some ⟨3, 650001⟩ ∧ hot.canHand ⟨0x24, 7, seekPayload ⟨3, 650001⟩⟩ = true ∧
      hot.clearOf 3 (1950000 + min 0 650000, 1950000 + max 0 650000) = true ∧ hot.pins.limitSwitch.get 3 = false) ∧
    (∃ s : State, s.canHand ⟨0x24, 7, seekPayload ⟨3, 9⟩⟩ = true ∧ s.ctu.ready = true ∧
      (∀ j : Fin 4, (s.axes.get j).homed = true) ∧ (s.axes.get 3).position = some 0 ∧ s.pins.limitSwitch.get 3 = true) ∧
    (seekFields (seekPayload ⟨4, 9⟩) = some ⟨4, 9⟩ ∧ hot.canHand ⟨0x24, 7, seekPayload ⟨4, 9⟩⟩ = true) ∧
    ((fewer 3).canHand ⟨0x24, 7, seekPayload ⟨3, 9⟩⟩ = true ∧ (fewer 3).fitted 3 = false) ∧
    (∃ s : State, s.canHand ⟨0x24, 7, seekPayload ⟨0, 9⟩⟩ = true ∧ s.fitted 0 = true ∧ s.ctu.ready = false) ∧
    (unhomed.canHand ⟨0x24, 7, seekPayload ⟨0, 9⟩⟩ = true ∧ unhomed.ctu.ready = true ∧ unhomed.fitted 3 = true ∧
      (unhomed.axes.get 3).homed = false) ∧
    (laden.canHand ⟨0x24, 7, seekPayload ⟨0, 9⟩⟩ = true ∧ laden.ctu.ready = true ∧
      (∀ j : Fin 4, (laden.axes.get j).homed = true) ∧ (laden.axes.get 0).state = .feeding) ∧
    (∃ s : State, s.canHand ⟨0x24, 7, seekPayload ⟨0, 9⟩⟩ = true ∧ s.ctu.ready = true ∧
      (∀ j : Fin 4, (s.axes.get j).homed = true) ∧ (s.axes.get 0).state ≠ .feeding ∧ s.held 0 = [] ∧
      (s.heads.get 0).state ≠ .parked) ∧
    ((hot.heads.get 0).state = .parked ∧ hot.held 0 = [] ∧
      hot.canHand ⟨0x24, 7, seekPayload ⟨0, 600000⟩⟩ = true ∧ hot.clearOf 0 (0 + min 0 600000, 0 + max 0 600000) = false) ∧
    (hot.canHand ⟨0x25, 7, u8 (3 : HeadId).val⟩ = true ∧ (hot.axes.get 3).state = .idle) ∧
    (∃ s : State, s.canHand ⟨0x25, 7, u8 (3 : HeadId).val⟩ = true ∧ s.fitted 3 = true ∧ (s.axes.get 3).state = .seeking) ∧
    (∃ s : State, s.canHand ⟨0x25, 7, u8 (3 : HeadId).val⟩ = true ∧ s.fitted 3 = true ∧ (s.axes.get 3).state = .homing) ∧
    ∃ s : State, s.canHand ⟨0x25, 7, u8 (3 : HeadId).val⟩ = true ∧ s.fitted 3 = true ∧ (s.axes.get 3).state = .feeding :=
  ⟨by decide, by decide, ⟨{ hot with pins := { hot.pins with limitSwitch := hot.pins.limitSwitch.set 3 true } }, by decide⟩,
    by decide, by decide,
    ⟨{ hot with ctu := { hot.ctu with ready := false } }, by decide⟩, by decide, by decide,
    ⟨withHead 0 { Head.reset with state := .settling }, by decide⟩,
    by decide, by decide, ⟨withAxis 3 { idleAxis 3 5 with state := .seeking }, by decide⟩,
    ⟨withAxis 3 { Axis.reset 3 with state := .homing }, by decide⟩,
    ⟨withAxis 3 { idleAxis 3 5 with state := .feeding }, by decide⟩⟩

/-- An axis with a move of `left` steps to go, `done` issued. -/
def moving (a : Axis) (done left : Nat) : Axis := { a with move := some ⟨true, done, left, 5000000, 1000000, 20000⟩ }

theorem witness_MoveStepAdvances :
    (hot.axes.get 0).move = none ∧
    (((withAxis 0 (moving { idleAxis 0 7 with state := .seeking } 0 2)).axes.get 0).move =
        some ⟨true, 0, 2, 5000000, 1000000, 20000⟩ ∧
      ((withAxis 0 (moving { idleAxis 0 7 with state := .seeking } 0 2)).axes.get 0).state = .seeking) ∧
    (((withAxis 0 (moving { idleAxis 0 7 with state := .seeking } 1 1)).axes.get 0).move =
        some ⟨true, 1, 1, 5000000, 1000000, 20000⟩ ∧
      ((withAxis 0 (moving { idleAxis 0 7 with state := .seeking } 1 1)).axes.get 0).state = .seeking) ∧
    (((withAxis 0 (moving (feedAxis .move .stepped 40 none false) 139 1)).axes.get 0).move =
        some ⟨true, 139, 1, 5000000, 1000000, 20000⟩ ∧
      ((withAxis 0 (moving (feedAxis .move .stepped 40 none false) 139 1)).axes.get 0).state = .feeding ∧
      ((withAxis 0 (moving (feedAxis .move .stepped 40 none false) 139 1)).axes.get 0).feed =
        some ⟨1, .stepped, 40, 1536, 140, .move, false, none⟩) ∧
    (∃ s : State, s.axes.get 0 = moving (feedAxis .positioning .stepped 39 none false) 39 1 ∧
      s.active 0 = some (band 1 .positioning) ∧ (s.heads.get 0).state = .parked ∧
      (s.heads.get 0).level ≠ (s.heads.get 0).settings.level) ∧
    (∃ s : State, s.axes.get 0 = moving { Axis.reset 0 with state := .homing, homeSteps := some 699998 } 699998 2 ∧
      699998 + 1 < (s.axes.get 0).settings.homeSpan) ∧
    ∃ s : State, s.axes.get 0 = moving { Axis.reset 0 with state := .homing, homeSteps := some 699999 } 699999 1 ∧
      (s.axes.get 0).settings.homeSpan ≤ 699999 + 1 ∧ s.pins.homeSensor.get 0 = false :=
  ⟨by decide, by decide, by decide, by decide,
    ⟨{ withAxis 0 (moving (feedAxis .positioning .stepped 39 none false) 39 1) with
      bands := hot.bands.set 0 ⟨some (band 1 .positioning), none, []⟩ }, by decide⟩,
    ⟨withAxis 0 (moving { Axis.reset 0 with state := .homing, homeSteps := some 699998 } 699998 2), by decide, by decide⟩,
    ⟨withAxis 0 (moving { Axis.reset 0 with state := .homing, homeSteps := some 699999 } 699999 1), by decide⟩⟩

theorem witness_LimitSwitchUnhomes :
    (hot.axes.get 0).state = .idle ∧ (unhomed.axes.get 0).state = .unhomed ∧
    ((after (.home 1 [0]) unhomed).axes.get 0).state = .homing ∧
    ((withAxis 0 { idleAxis 0 5 with state := .seeking }).axes.get 0).state = .seeking ∧
    ((laden.axes.get 0).state = .feeding ∧ laden.active 0 = some (band 1 .cutting)) := by decide

/-- The fields of the ENGRAVE of section 7.9. -/
def engrave79 : EngraveFields := ⟨501, 1, 0, 17, 600, 0, 0, 0, 200000⟩

/-- The premises that the fields, the spans and the period make, shared by the two ENGRAVE statements. -/
theorem witness_engrave_fields :
    engraveFields (engravePayload engrave79) = some engrave79 ∧ sourceOf 0 = some .store ∧ feedOf 0 = some .stepped ∧
    placed.screen 0 = carton ∧ carton.n ≠ 0 ∧ 17 + 600 ≤ 65536 ∧ 200000 + (600 - 1) * carton.pitch = 283860 ∧
    placed.fitted 1 = true ∧ placed.canHand ⟨0x20, 7, engravePayload engrave79⟩ = true ∧
    placed.clearOf 1 (spanOver (placed.axes.get 1).settings.origin
      (([(placed.axes.get 1).position.getD 0] ++ (placed.axes.get 1).target.toList) ++ [200000, 283860])) = true := by decide

theorem witness_EngraveActivates :
    placed.ctu.ready = true ∧ (placed.heads.get 1).inhibit = false ∧ (placed.bands.get 1).results.length ≤ 3 ∧
    placed.held 1 = [] ∧ (∀ k : Fin 4, (placed.axes.get k).homed = true) ∧ 283860 ≤ (placed.axes.get 1).settings.maxpos ∧
    placed.ctu.timing = .synced ∧ placed.ctu.speedOk = true ∧ placed.ctu.lastPeriod = some 750000 ∧
    ((placed.heads.get 1).settings.fmin ≤ carton.n * 1000000 / 750000 ∧
      carton.n * 1000000 / 750000 ≤ (placed.heads.get 1).settings.fmax) ∧
    carton.pitch * 1000000 ≤ (placed.axes.get 1).settings.rate * (carton.gap * 750000 / 65536) ∧
    carton.pitch * 1000000 ≤ (placed.axes.get 1).settings.rate * 750000 ∧ placed.store.queues.get 1 = [] ∧
    ((placed.buffers.get 1).buf0.held = .empty ∧ (placed.buffers.get 1).buf1.held = .empty) ∧
    placed.pins.limitSwitch.get 1 = false ∧ (placed.heads.get 1).state ≠ .cutting ∧
    (placed.heads.get 1).settings.settle ≠ 0 ∧ (placed.heads.get 1).state = .parked ∧
    (placed.axes.get 1).position.getD 0 ≠ 200000 := by decide

/-- H1 of section 7.9 on its limit switch, with a track in the queue that the first look would refuse. -/
def limited : State := { placed with
  pins := { placed.pins with limitSwitch := placed.pins.limitSwitch.set 1 true }
  store := { placed.store with queues := placed.store.queues.set 1 [⟨17, .blank, 64, 0, []⟩] } }

/-- R114: the same checks pass with the switch active, which no check of ENGRAVE reads. -/
theorem witness_engrave_on_limit :
    limited.pins.limitSwitch.get 1 = true ∧ limited.canHand ⟨0x20, 7, engravePayload engrave79⟩ = true ∧
    limited.axes = placed.axes ∧ limited.heads = placed.heads ∧ limited.bands = placed.bands ∧ limited.ctu = placed.ctu :=
  ⟨by decide, by decide, rfl, rfl, rfl, rfl⟩

/-- R114: the switch is taken as the axis enters FEEDING, before the look that would end the band TRACK_LENGTH. -/
theorem test_engrave_on_limit : (fun t : State => ((t.axes.get 1).state, (t.axes.get 1).lastFault, (t.axes.get 1).lastKnown,
      (t.bands.get 1).results.map ResultRecord.cause, (t.store.queues.get 1).length))
    (after (.engrave 1 (engravePayload engrave79)) limited) =
    (.unhomed, .limitSwitch, some 300000, [.axisFault], 1) := by decide

/-- R129: away from the start a READY head's retract ramp, and no move until it parks. -/
theorem test_engrave_retracts : (fun t : State => ((t.heads.get 1).ramp, (t.axes.get 1).move))
    (after (.engrave 1 (engravePayload ⟨501, 1, 0, 17, 600, 0, 0, 0, 200000⟩)) { placed with
      heads := placed.heads.set 1 { Head.reset with state := .ready, level := 2048 } }) =
    (some ⟨.linear, 2048, 0, -2048, none, placed.clock + 800⟩, none) := by decide

/-- The card of section 7.9 with a band active on H1. -/
def engaged : State := { placed with bands := placed.bands.set 1 ⟨some (band 1 .cutting), none, []⟩ }

/-- What every clause on an ENGRAVE of H1 shares, with its payload. -/
abbrev engravable (f : EngraveFields) (s : State) : Prop :=
  engraveFields (engravePayload f) = some f ∧ f.head = 1 ∧ f.source = 0 ∧ f.feed = 0 ∧ (s.screen f.screen).n ≠ 0 ∧
    f.screen ≤ 15 ∧ f.curve ≤ 7 ∧ 1 ≤ f.count ∧ f.first + f.count ≤ 65536 ∧ s.fitted 1 = true ∧
    s.canHand ⟨0x20, 7, engravePayload f⟩ = true

/-- The span check of an ENGRAVE of H1 over carriage positions. -/
abbrev clearFor (s : State) (start stop : Nat) : Bool :=
  s.clearOf 1 (spanOver (s.axes.get 1).settings.origin
    (([(s.axes.get 1).position.getD 0] ++ (s.axes.get 1).target.toList ++ (s.held 1).flatMap s.extents) ++ [start, stop]))

/-- The checks that pass before the one on homing. -/
abbrev pastBusy (s : State) : Prop :=
  s.ctu.ready = true ∧ (s.heads.get 1).inhibit = false ∧ (s.bands.get 1).results.length + (s.held 1).length ≤ 3 ∧
    (s.held 1).length ≤ 1

/-- The checks that pass before the one on the axis's range. -/
abbrev pastHomed (s : State) : Prop := pastBusy s ∧ ∀ k : Fin 4, (s.axes.get k).homed = true

/-- The card of section 7.9 with other screens as screen 0. -/
def screened (x : Screen) : State := { placed with screens := placed.screens.set 0 x }

/-- For each refusal, in the order of the checks, a card that it alone stops; and an active band for a pending one. -/
theorem witness_EngraveChecksAndPendingBand :
    (engraveFields (engravePayload { engrave79 with head := 4 }) = some { engrave79 with head := 4 } ∧
      placed.canHand ⟨0x20, 7, engravePayload { engrave79 with head := 4 }⟩ = true) ∧
    ((fewer 1).canHand ⟨0x20, 7, engravePayload engrave79⟩ = true ∧ (fewer 1).fitted 1 = false) ∧
    (engraveFields (engravePayload { engrave79 with screen := 16, first := 64937 }) =
        some { engrave79 with screen := 16, first := 64937 } ∧ 65536 < 64937 + 600 ∧ placed.fitted 1 = true) ∧
    (∃ s : State, engravable engrave79 s ∧ s.ctu.ready = false) ∧
    (∃ s : State, engravable engrave79 s ∧ s.ctu.ready = true ∧ (s.heads.get 1).inhibit = true) ∧
    (∃ s : State, engravable engrave79 s ∧ s.ctu.ready = true ∧ (s.heads.get 1).inhibit = false ∧
      4 ≤ (s.bands.get 1).results.length + (s.held 1).length) ∧
    (∃ s : State, engravable engrave79 s ∧ s.ctu.ready = true ∧ (s.heads.get 1).inhibit = false ∧
      (s.bands.get 1).results.length + (s.held 1).length ≤ 3 ∧ 2 ≤ (s.held 1).length) ∧
    (∃ s : State, engravable engrave79 s ∧ pastBusy s ∧ s.fitted 0 = true ∧ (s.axes.get 0).homed = false) ∧
    (∃ s : State, engravable engrave79 s ∧ pastHomed s ∧ (s.axes.get 1).settings.maxpos < 283860) ∧
    (∃ s : State, engravable engrave79 s ∧ pastHomed s ∧ 283860 ≤ (s.axes.get 1).settings.maxpos ∧
      clearFor s 200000 283860 = false) ∧
    (∃ s : State, engravable engrave79 s ∧ pastHomed s ∧ clearFor s 200000 283860 = true ∧ s.held 1 = [] ∧
      s.ctu.timing ≠ .synced) ∧
    (∃ s : State, engravable engrave79 s ∧ pastHomed s ∧ clearFor s 200000 283860 = true ∧ s.held 1 = [] ∧
      s.ctu.timing = .synced ∧ s.ctu.speedOk = false) ∧
    (engravable engrave79 (screened ⟨64, 1536, 0, 140⟩) ∧ pastHomed (screened ⟨64, 1536, 0, 140⟩) ∧
      clearFor (screened ⟨64, 1536, 0, 140⟩) 200000 283860 = true ∧
      64 * 1000000 / 750000 < ((screened ⟨64, 1536, 0, 140⟩).heads.get 1).settings.fmin) ∧
    (engravable engrave79 (screened ⟨16384, 1536, 0, 140⟩) ∧
      ((screened ⟨16384, 1536, 0, 140⟩).heads.get 1).settings.fmax < 16384 * 1000000 / 750000) ∧
    (engravable engrave79 (screened ⟨3000, 1536, 0, 352⟩) ∧ pastHomed (screened ⟨3000, 1536, 0, 352⟩) ∧
      clearFor (screened ⟨3000, 1536, 0, 352⟩) 200000 (200000 + 599 * 352) = true ∧
      ((screened ⟨3000, 1536, 0, 352⟩).axes.get 1).settings.rate * (1536 * 750000 / 65536) < 352 * 1000000) ∧
    (engravable engrave79 engaged ∧ pastHomed engaged ∧ clearFor engaged 200000 283860 = true ∧
      engaged.bands.get 1 = ⟨some (band 1 .cutting), none, (engaged.bands.get 1).results⟩) :=
  ⟨by decide, by decide, by decide, ⟨{ placed with ctu := { placed.ctu with ready := false } }, by decide, by decide⟩,
    ⟨{ placed with heads := placed.heads.set 1 { Head.reset with inhibit := true } }, by decide⟩,
    ⟨{ placed with bands := placed.bands.set 1 ⟨none, none, List.replicate 4
        (placed.record 1 (band 1 .cutting) .complete .none none none)⟩ }, by decide⟩,
    ⟨{ placed with bands := placed.bands.set 1 ⟨some (band 1 .cutting), some (band 2 .pending), []⟩ }, by decide⟩,
    ⟨unhomed, by decide⟩,
    ⟨withAxis 1 { idleAxis 1 300000 with settings := { AxisSettings.reset 1 with maxpos := 283859 } }, by decide⟩,
    ⟨withAxis 1 { idleAxis 1 300000 with settings := { AxisSettings.reset 1 with origin := 1100000 } }, by decide⟩,
    ⟨{ placed with ctu := { placed.ctu with timing := .unsynced } }, by decide⟩,
    ⟨{ placed with ctu := { placed.ctu with speedOk := false } }, by decide⟩, by decide, by decide, by decide,
    by decide⟩

/-- A card of one band in a phase, with a record that waits. -/
def phased (p : Phase) : State := { hot with bands := hot.bands.set 0 ⟨some (band 1 p), none,
  [hot.record 0 (band 9 .cutting) .complete .none none none]⟩ }

/-- A card whose SUSPENDED band of H0 has a pending band behind it, with the carriage at a position. -/
def handing (s : State) (p : Nat) : State := { s with
  axes := s.axes.set 0 (feedAxis .hold .stepped p none false)
  bands := s.bands.set 0 ⟨some (band 1 .suspended), some (band 2 .pending), []⟩ }

/-- A STOP in each phase, with and without a pending band, one that passes its checks in place and away from its start
and one that fails them; a STOP of a pending band; ABORTs; a record; and requests with nothing to act on. -/
theorem witness_StopAbortAndReadResult :
    (laden.fitted 0 = true ∧ laden.canHand ⟨0x21, 7, u8 (0 : HeadId).val ++ [0]⟩ = true ∧
      (laden.bands.get 0).active = some (band 1 .cutting) ∧ (band 1 .cutting).stopTaken = false) ∧
    (∃ s : State, s.canHand ⟨0x21, 7, u8 (0 : HeadId).val ++ [0]⟩ = true ∧
      (s.bands.get 0).active = some { band 1 .cutting with stopTaken := true }) ∧
    ((phased .suspended).canHand ⟨0x21, 7, u8 (0 : HeadId).val ++ [0]⟩ = true ∧
      ((phased .suspended).bands.get 0).active = some (band 1 .suspended) ∧ ((phased .suspended).bands.get 0).waiting = none) ∧
    ((handing hot 40).canHand ⟨0x21, 7, u8 (0 : HeadId).val ++ [0]⟩ = true ∧
      (handing hot 40).bands.get 0 = ⟨some (band 1 .suspended), some (band 2 .pending), []⟩ ∧
      ((handing hot 40).axes.get 0).homed = true ∧ (handing hot 40).activationFailure 0 (band 2 .pending) = none ∧
      (handing hot 40).store.queues.get 0 = [] ∧ (handing hot 40).pins.limitSwitch.get 0 = false ∧
      ((handing hot 40).heads.get 0).state ≠ .cutting ∧ ((handing hot 40).heads.get 0).settings.settle ≠ 0) ∧
    (handing hot 41).activationFailure 0 (band 2 .pending) = none ∧
    ((handing (timed .unsynced 2 9) 40).canHand ⟨0x21, 7, u8 (0 : HeadId).val ++ [0]⟩ = true ∧
      (handing (timed .unsynced 2 9) 40).activationFailure 0 (band 2 .pending) = some .notSynced) ∧
    (laden.canHand ⟨0x21, 7, u8 (0 : HeadId).val ++ [1]⟩ = true ∧ (laden.bands.get 0).waiting = some (band 2 .pending)) ∧
    (laden.canHand ⟨0x22, 7, u8 (0 : HeadId).val ++ [0]⟩ = true ∧ laden.canHand ⟨0x22, 7, u8 (0 : HeadId).val ++ [1]⟩ = true) ∧
    ((phased .cutting).canHand ⟨0x36, 7, u8 (0 : HeadId).val⟩ = true ∧
      ((phased .cutting).bands.get 0).results = [hot.record 0 (band 9 .cutting) .complete .none none none]) ∧
    ((hot.bands.get 0).active = none ∧ hot.canHand ⟨0x21, 7, u8 (0 : HeadId).val ++ [0]⟩ = true ∧
      (hot.bands.get 0).waiting = none ∧ hot.canHand ⟨0x21, 7, u8 (0 : HeadId).val ++ [1]⟩ = true ∧
      hot.canHand ⟨0x22, 7, u8 (0 : HeadId).val ++ [if true then 1 else 0]⟩ = true ∧
      hot.canHand ⟨0x22, 7, u8 (0 : HeadId).val ++ [if false then 1 else 0]⟩ = true ∧ (hot.bands.get 0).results = [] ∧
      hot.canHand ⟨0x36, 7, u8 (0 : HeadId).val⟩ = true) :=
  ⟨by decide, ⟨cutting { band 1 .cutting with stopTaken := true } (.loaded track10) .empty (feedAxis .hold .stepped 40 none false),
    by decide, by decide⟩, by decide⟩

/-- Track 12, the last of the band. -/
def track12 : BufferTrack := ⟨12, .data, 3000⟩

/-- A CUTTING band that has track 10 in the ACTIVE buffer and expects track 11. -/
def cut10 : Band := { band 1 .cutting with next := 11 }

/-- The card at a boundary of the band `b` of H0. -/
abbrev atBoundary (b : Band) (s : State) : Prop :=
  s.bands.get 0 = ⟨some b, none, []⟩ ∧ b.source = .store ∧ s.store.queues.get 0 = []

/-- Stage HOLD of a stepped feed. -/
def held40 : Axis := feedAxis .hold .stepped 40 none false

/-- A card of one band in WAIT_SYNC or SUSPENDED, with a STANDBY buffer. -/
def waiting (b : Band) (standby : BufferState) : State := { hot with
  bands := hot.bands.set 0 ⟨some b, none, []⟩, buffers := hot.buffers.set 0 (bufs .empty standby) }

/-- A last track of a CUTTING band of H0 with a pending band behind it, with the carriage at a position. -/
def closing (p : Nat) : State := { cutting cut10 (.loaded track12) .empty (feedAxis .hold .stepped p none false) with
  bands := hot.bands.set 0 ⟨some cut10, some (band 2 .pending), []⟩ }

/-- What a band's end at a boundary of such a card meets. -/
abbrev handsOn (b : Band) (tr : BufferTrack) (s : State) : Prop :=
  s.bands.get 0 = ⟨some b, some (band 2 .pending), []⟩ ∧ b.phase = .cutting ∧
    (s.buffers.get 0).active.held.track? = some tr ∧ (s.axes.get 0).moving = false ∧
    (tr.number = b.last ∨ b.stopTaken = true) ∧ (s.heads.get 0).state = .cutting ∧ (s.axes.get 0).homed = true ∧
    s.fetch.copy = none ∧ s.store.queues.get 0 = [] ∧ s.pins.limitSwitch.get 0 = false

/-- A pending band that passes its checks in place, and away from its start; one that fails them; and a STOP taken. -/
theorem witness_boundary_hands_on :
    (handsOn cut10 track12 (closing 40) ∧ (closing 40).activationFailure 0 (band 2 .pending) = none ∧
      ((closing 40).axes.get 0).position.getD 0 + ((closing 40).axes.get 0).stepsOwed = (band 2 .pending).start) ∧
    (handsOn cut10 track12 (closing 41) ∧ (closing 41).activationFailure 0 (band 2 .pending) = none ∧
      ((closing 41).axes.get 0).position.getD 0 + ((closing 41).axes.get 0).stepsOwed ≠ (band 2 .pending).start ∧
      ((closing 41).heads.get 0).level ≠ 0) ∧
    (∃ s : State, handsOn cut10 track12 s ∧ s.activationFailure 0 (band 2 .pending) = some .speed) ∧
    ∃ s : State, handsOn { cut10 with stopTaken := true } track10 s :=
  ⟨by decide, by decide, ⟨{ closing 40 with ctu := { hot.ctu with speedOk := false } }, by decide, by decide⟩,
    ⟨{ closing 40 with
      bands := hot.bands.set 0 ⟨some { cut10 with stopTaken := true }, some (band 2 .pending), []⟩
      buffers := hot.buffers.set 0 (bufs (.loaded track10) .empty) }, by decide⟩⟩

/-- A SYNCED card at a value of E with the start angles of H0 and of the other heads, and no speed window or report. -/
def angled (elapsed a0 others : Nat) : State := ({ timed .synced 2 elapsed with
  machine := { hot.machine with nominalPeriod := 0, reportRevs := 0 }
  heads := (hot.heads.map fun x => { x with settings := { x.settings with startAngle := others } }).set 3
    { Head.reset with settings := { HeadSettings.reset with startAngle := a0 } } } : State).takeUp

/-- H3's boundary at a count, at a good index for a start angle of 0, and for one that the index leaves owed. -/
theorem witness_boundaries_of_the_cylinder :
    ((angled 100 101 9).startAngle 3 = 101 ∧ (angled 100 101 9).fitted 3 = true ∧
      (∀ g : Fin 4, g ≠ 3 → (angled 100 101 9).startAngle g ≠ (angled 100 101 9).startAngle 3)) ∧
    ((angled 65528 0 9).startAngle 3 = 0 ∧ 65536 - ((angled 65528 0 9).machine.indexTol : Int) ≤ (angled 65528 0 9).ctu.elapsed ∧
      (∀ g : Fin 4, g ≠ 3 → (angled 65528 0 9).startAngle g ≠ 0 ∧
        ((angled 65528 0 9).startAngle g : Int) ≤ (angled 65528 0 9).ctu.elapsed) ∧
      (angled 65528 0 9).machine.indexTol ≤ 255 ∧ (angled 65528 0 9).machine.nominalPeriod = 0 ∧
      (angled 65528 0 9).ctu.speedOk = true ∧ (angled 65528 0 9).machine.reportRevs = 0) ∧
    (angled 65528 65530 9).ctu.elapsed < (angled 65528 65530 9).startAngle 3 ∧
      (∀ g : Fin 4, g ≠ 3 → (angled 65528 65530 9).startAngle g ≠ 0 ∧
        ((angled 65528 65530 9).startAngle g : Int) ≤ (angled 65528 65530 9).ctu.elapsed) := by decide

/-- A helical revolution with steps 100 to 140 still to issue. -/
def helical40 : Axis := feedAxis .hold .helical 40 (some 100) false

/-- R120: the swap of the last track leaves the trigger disarmed, and that of an earlier one arms it. -/
theorem test_cut_order_arms : [cut10, { cut10 with next := 12 }].map (fun b =>
    ((((cutting b (.loaded track10) (.loaded ⟨b.next, .data, 3000⟩) held40).boundary 0).axes.get 0).feed.map
      FeedContext.armed)) = [some true, some false] := by decide

/-- R121: a helical cut order issues the 41 steps left, and sets the pointer to step 1. -/
theorem test_cut_order_closes : (fun a : Axis => (a.position, a.outputs.pulses, a.feed.bind FeedContext.pointer))
    (((cutting { cut10 with feed := .helical } (.loaded track10) (.loaded ⟨11, .data, 3000⟩) helical40).boundary 0).axes.get 0) =
    (some 81, 41, some 1) := by decide

/-- What the head and the axis bring to an end and to a cut order: a dwell that runs and one of 0, and feeds of both kinds. -/
theorem witness_boundary_orders :
    (cutHead.state = .cutting ∧ cutHead.dwellTimer = none ∧ cutHead.settings.dwell ≠ 0 ∧ cutHead.level ≠ 0) ∧
    (∃ x : Head, x.state = .cutting ∧ x.dwellTimer = none ∧ x.settings.dwell = 0 ∧ x.level ≠ 0) ∧
    (held40.feed.map FeedContext.feed = some .stepped ∧ helical40.feed.map FeedContext.feed = some .helical ∧
      helical40.stepsOwed = 41 ∧ helical40.homed = true) :=
  ⟨by decide, ⟨{ cutHead with settings := { HeadSettings.reset with dwell := 0 } }, by decide⟩, by decide⟩

/-- The cases of a boundary in their order. -/
theorem witness_BoundariesOfABand :
    (∃ s : State, atBoundary cut10 s ∧ (s.buffers.get 0).active.held.track? = some track10 ∧ cut10.feed = .stepped ∧
      (s.axes.get 0).moving = true) ∧
    (∃ s : State, atBoundary cut10 s ∧ (s.axes.get 0).moving = false ∧
      (s.buffers.get 0).active.held.track? = some track12 ∧ track12.number = cut10.last) ∧
    (∃ s : State, atBoundary { cut10 with stopTaken := true } s ∧ (s.axes.get 0).moving = false ∧
      (s.buffers.get 0).active.held.track? = some track10 ∧ track10.number ≠ cut10.last) ∧
    (∃ s : State, atBoundary cut10 s ∧ (s.axes.get 0).moving = false ∧
      (s.buffers.get 0).active.held.track? = some track10 ∧ s.standbyHolds 0 11 = true) ∧
    (∃ s : State, atBoundary cut10 s ∧ (s.axes.get 0).moving = false ∧
      (s.buffers.get 0).active.held.track? = some track10 ∧ s.standbyHolds 0 11 = false) ∧
    (∃ s : State, atBoundary { cut10 with feed := .helical } s ∧
      (s.buffers.get 0).active.held.track? = some track10 ∧ s.standbyHolds 0 11 = false) ∧
    (∃ s : State, atBoundary (band 1 .waitSync) s ∧ s.ctu.speedOk = false) ∧
    (∃ s : State, atBoundary (band 1 .waitSync) s ∧ s.ctu.speedOk = true ∧ s.standbyHolds 0 10 = true) ∧
    (∃ s : State, atBoundary (band 1 .waitSync) s ∧ s.ctu.speedOk = true ∧ s.standbyHolds 0 10 = false) ∧
    (∃ s : State, atBoundary { band 1 .waitSync with waitCount := 1 } s ∧ s.ctu.speedOk = true ∧
      s.standbyHolds 0 10 = false) ∧
    (∃ s : State, atBoundary (band 1 .suspended) s ∧ s.standbyHolds 0 10 = true) ∧
    (∃ s : State, atBoundary (band 1 .suspended) s ∧ s.standbyHolds 0 10 = false ∧
      1 < (s.heads.get 0).settings.suspendLimit) ∧
    (∃ s : State, atBoundary { band 1 .suspended with suspensions := 31 } s ∧ s.standbyHolds 0 10 = false ∧
      (s.heads.get 0).settings.suspendLimit ≤ 32) :=
  ⟨⟨cutting cut10 (.loaded track10) .empty (feedAxis .move .stepped 40 none false), by decide⟩,
    ⟨cutting cut10 (.loaded track12) .empty held40, by decide⟩,
    ⟨cutting { cut10 with stopTaken := true } (.loaded track10) .empty held40, by decide⟩,
    ⟨cutting cut10 (.loaded track10) (.loaded ⟨11, .data, 3000⟩) held40, by decide⟩,
    ⟨cutting cut10 (.loaded track10) .empty held40, by decide⟩,
    ⟨cutting { cut10 with feed := .helical } (.loaded track10) .empty (feedAxis .hold .helical 40 (some 1) false), by decide⟩,
    ⟨{ waiting (band 1 .waitSync) .empty with ctu := { hot.ctu with speedOk := false } }, by decide, by decide⟩,
    ⟨waiting (band 1 .waitSync) (.loaded track10), by decide⟩,
    ⟨waiting (band 1 .waitSync) .empty, by decide⟩,
    ⟨waiting { band 1 .waitSync with waitCount := 1 } .empty, by decide⟩,
    ⟨waiting (band 1 .suspended) (.loaded track10), by decide, by decide⟩,
    ⟨waiting (band 1 .suspended) .empty, by decide⟩,
    ⟨waiting { band 1 .suspended with suspensions := 31 } .empty, by decide⟩⟩

theorem witness_MonitorRequests :
    (monitorFields (monitorPayload ⟨15, 4096, 5000, 16, 3, 15⟩) = some ⟨15, 4096, 5000, 16, 3, 15⟩ ∧
      hot.canHand ⟨0x07, 7, monitorPayload ⟨15, 4096, 5000, 16, 3, 15⟩⟩ = true ∧ hot.monitor.mode = .halted ∧
      (hot.monitor.slots.get 15).latched = false ∧ actionOf 3 = some .retractFast ∧ min 4095 4096 ≤ min 4095 5000) ∧
    (alarmed.canHand ⟨0x07, 7, monitorPayload ⟨3, 0, 0, 1, 0, 0⟩⟩ = true ∧ alarmed.monitor.mode ≠ .halted) ∧
    (∃ s : State, monitorFields (monitorPayload ⟨3, 0, 0, 1, 0, 0⟩) = some ⟨3, 0, 0, 1, 0, 0⟩ ∧
      s.canHand ⟨0x07, 7, monitorPayload ⟨3, 0, 0, 1, 0, 0⟩⟩ = true ∧ s.monitor.mode = .halted ∧
      (s.monitor.slots.get 3).latched = true) ∧
    (monitorFields (monitorPayload ⟨0, 1, 0, 1, 4, 16⟩) = some ⟨0, 1, 0, 1, 4, 16⟩ ∧
      hot.canHand ⟨0x07, 7, monitorPayload ⟨0, 1, 0, 1, 4, 16⟩⟩ = true) ∧
    (hot.canHand ⟨0x26, 7, u8 MonitorMode.single.code ++ u8 (15 : Fin 16).val ++ u8 (0 : Fin 16).val⟩ = true ∧
      alarmed.canHand ⟨0x26, 7, u8 MonitorMode.continuous.code ++ u8 (0 : Fin 16).val ++ u8 (15 : Fin 16).val⟩ = true) ∧
    (alarmed.canHand ⟨0x27, 7, []⟩ = true ∧ hot.canHand ⟨0x27, 7, []⟩ = true) ∧
    (alarmed.canHand ⟨0x28, 7, u8 (3 : Fin 16).val⟩ = true ∧ (alarmed.monitor.slots.get 3).latched = true ∧
      (alarmed.monitor.slots.get 3).value = some 2760 ∧ (alarmed.monitor.slots.get 3).high < 2760) ∧
    (∃ s : State, s.canHand ⟨0x28, 7, u8 (3 : Fin 16).val⟩ = true ∧ (s.monitor.slots.get 3).latched = true ∧
      (s.monitor.slots.get 3).value = some 2600 ∧ (s.monitor.slots.get 3).low ≤ 2600 ∧
      2600 ≤ (s.monitor.slots.get 3).high) ∧
    (hot.canHand ⟨0x28, 7, u8 (3 : Fin 16).val⟩ = true ∧ (hot.monitor.slots.get 3).latched = false) :=
  ⟨by decide, by decide, ⟨{ alarmed with monitor := { alarmed.monitor with mode := .halted } }, by decide⟩, by decide,
    by decide, by decide, by decide,
    ⟨{ alarmed with monitor := alarmed.monitor.setSlot 3 ⟨some 2600, some 1, 1200, 2600, 3, 0, .retract, 4, true⟩ }, by decide⟩, by decide⟩

/-- No conversion; one below the stop slot, one at it in each running mode, and one with a halt request. -/
theorem witness_ConversionsAreStoredAndCounted :
    hot.monitor.conversion = none ∧
    (alarmed.monitor.conversion = some ⟨3, 5000040⟩ ∧ alarmed.monitor.haltRequest = false ∧ (3 : Fin 16) < alarmed.monitor.stop ∧
      (alarmed.monitor.slots.get 3).latched = true) ∧
    (∃ s : State, s.monitor.conversion = some ⟨8, 5000040⟩ ∧ s.monitor.haltRequest = false ∧ s.monitor.stop ≤ 8 ∧
      s.monitor.mode = .continuous) ∧
    (∃ s : State, s.monitor.conversion = some ⟨14, 5000040⟩ ∧ s.monitor.haltRequest = false ∧ s.monitor.stop ≤ 14 ∧
      s.monitor.mode ≠ .continuous) ∧
    ∃ s : State, s.monitor.conversion = some ⟨3, 5000040⟩ ∧ s.monitor.haltRequest = true :=
  ⟨by decide, by decide, ⟨{ alarmed with monitor := { alarmed.monitor with conversion := some ⟨8, 5000040⟩ } }, by decide⟩,
    ⟨{ alarmed with monitor := { alarmed.monitor with conversion := some ⟨14, 5000040⟩, stop := 14, mode := .single } },
      by decide⟩,
    ⟨{ alarmed with monitor := { alarmed.monitor with haltRequest := true } }, by decide, by decide⟩⟩

/-- Section 9.8, pass 6, with H2's band CUTTING and slot 3 with an action. -/
def pass6 (action : AlarmAction) : State := { alarmed with
  monitor := alarmed.monitor.setSlot 3 ⟨some 2720, some 1400, 1200, 2600, 3, 2, action, 4, false⟩
  bands := hot.bands.set 2 ⟨some (band 730 .cutting), none, []⟩ }

/-- What an alarm on slot 3 of a card asks for, with the heads it acts on. -/
abbrev latching (acted : Byte) (s : State) (x : Slot) : Prop :=
  s.monitor.conversion = some ⟨3, 5000040⟩ ∧ x = s.monitor.slots.get 3 ∧ x.high < (2750 : BitVec 12).toNat ∧
    x.hysteresis ≤ min 15 (x.run + 1) ∧ x.latched = false ∧ x.action ≠ .none ∧
    ∀ k < 8, acted.getLsbD k = decide ((x.action = .retract ∨ x.action = .retractFast) ∧ k < s.machine.fitted ∧
      x.mask.getLsbD k = true)

/-- The actions RETRACT, RETRACT_FAST and NOTIFY. -/
theorem witness_AlarmsLatchAndAct :
    latching 4 (pass6 .retract) ((pass6 .retract).monitor.slots.get 3) ∧
    latching 4 (pass6 .retractFast) ((pass6 .retractFast).monitor.slots.get 3) ∧
    latching 0 (pass6 .notify) ((pass6 .notify).monitor.slots.get 3) ∧
    ((pass6 .retract).fitted 2 = true ∧ ((pass6 .retract).monitor.slots.get 3).mask.getLsbD (2 : HeadId).val = true ∧
      (pass6 .retract).active 2 = some (band 730 .cutting) ∧ (pass6 .retract).fetch.copy = none ∧
      ((pass6 .retract).bands.get 2).waiting = none) := by decide
end Sys2Proof.Tests
end

section
/-! Cell placement (R23 to R26): where the cells of a track stand, and the fire counts they get. Everything is read off
one rule, `rawFireCount_le_iff`: a cell falls due by count k exactly when it stands at most k angle units past the
boundary. -/

namespace Sys2Proof.Machine

theorem ceilDiv_le_iff {a b k : Nat} (hb : 0 < b) : ceilDiv a b ≤ k ↔ a ≤ b * k := by
  have heq : ceilDiv a b = a ⌈/⌉ b := (Nat.ceilDiv_eq_add_pred_div a b).symm
  rw [heq, ceilDiv_le_iff_le_mul hb]

theorem rawFireCount_le_iff {pitch shift i k : Nat} :
    rawFireCount pitch shift i ≤ k ↔ shift + i * pitch ≤ 65536 * k :=
  ceilDiv_le_iff (by decide)

/-- A pitch of 3.5 angle units keeps the raw fire counts of two cells at least 3 apart. -/
theorem rawFireCount_add_three_le {pitch shift i j : Nat} (hp : 229380 ≤ pitch) (hij : i < j) :
    rawFireCount pitch shift i + 3 ≤ rawFireCount pitch shift j := by
  have hj : shift + j * pitch ≤ 65536 * rawFireCount pitch shift j := rawFireCount_le_iff.mp le_rfl
  have hpitch : i * pitch + pitch ≤ j * pitch := by
    simpa [Nat.succ_mul] using Nat.mul_le_mul_right pitch (Nat.succ_le_of_lt hij)
  have hi : rawFireCount pitch shift i ≤ rawFireCount pitch shift j - 3 :=
    rawFireCount_le_iff.mpr (by omega)
  omega

namespace Screen
variable {x : Screen} {i : Nat}

/-- The shift at which the entry's odd or even tracks are placed (R24). -/
abbrev trackShift (x : Screen) (odd : Bool) : Nat := if odd then x.shift else 0

theorem fireCount_eq (odd : Bool) :
    x.fireCount odd i = min 65535 (rawFireCount x.cellPitch (x.trackShift odd) i) := rfl

theorem le_cellPitch (hn : 64 ≤ x.n) (hN : x.n ≤ 16384) (hG : x.gap ≤ 8191) : 229380 ≤ x.cellPitch := by
  refine (Nat.le_div_iff_mul_le (by omega)).mpr ?_
  simp only [cellSpan]
  omega

theorem trackShift_lt_cellPitch (hS : x.stagger ≤ 65535) (hP : 0 < x.cellPitch) (odd : Bool) :
    x.trackShift odd < x.cellPitch := by
  cases odd with
  | false => exact hP
  | true => exact Nat.div_lt_of_lt_mul (Nat.mul_lt_mul_of_pos_right (by omega) hP)

/-- The pitches of the cells 0 to i fit in the span: the cell after i begins no later than the gap. -/
theorem mul_cellPitch_add_le_cellSpan (hi : i < x.n) : i * x.cellPitch + x.cellPitch ≤ x.cellSpan := by
  calc i * x.cellPitch + x.cellPitch = (i + 1) * x.cellPitch := (Nat.succ_mul ..).symm
    _ ≤ x.n * x.cellPitch := Nat.mul_le_mul_right _ hi
    _ ≤ x.cellSpan := Nat.mul_div_le ..

theorem rawFireCount_le_gapStart (hS : x.stagger ≤ 65535) (hP : 0 < x.cellPitch) (odd : Bool) (hi : i < x.n) :
    rawFireCount x.cellPitch (x.trackShift odd) i ≤ 65536 - x.gap := by
  have hd := trackShift_lt_cellPitch hS hP odd
  have hspan := mul_cellPitch_add_le_cellSpan hi
  simp only [cellSpan] at hspan
  exact rawFireCount_le_iff.mpr (by omega)

/-- Only the last cell of an odd track can stand less than a pitch before the gap; every other cell is due at least
three counts before it. -/
theorem rawFireCount_le_of_not_lastOdd (hP : 229380 ≤ x.cellPitch) (hG : x.gap ≤ 8191) (hS : x.stagger ≤ 65535)
    {odd : Bool} (hi : i < x.n) (hroom : odd = false ∨ i + 1 < x.n) :
    rawFireCount x.cellPitch (x.trackShift odd) i ≤ 65533 - x.gap := by
  have room : x.trackShift odd + i * x.cellPitch + x.cellPitch ≤ x.cellSpan := by
    obtain rfl | hnext := hroom
    · simpa [trackShift] using mul_cellPitch_add_le_cellSpan hi
    · have hd := trackShift_lt_cellPitch hS (by omega) odd
      have hspan := mul_cellPitch_add_le_cellSpan hnext
      rw [Nat.succ_mul] at hspan
      omega
  simp only [cellSpan] at room
  exact rawFireCount_le_iff.mpr (by omega)

theorem fireCount_lt_fireCount (hP : 229380 ≤ x.cellPitch) (hG : x.gap ≤ 8191) (hS : x.stagger ≤ 65535)
    (odd : Bool) {j : Nat} (hij : i < j) (hj : j < x.n) : x.fireCount odd i < x.fireCount odd j := by
  have hsep := rawFireCount_add_three_le (shift := x.trackShift odd) hP hij
  have hcap := rawFireCount_le_of_not_lastOdd (odd := odd) hP hG hS (hij.trans hj) (.inr (by omega))
  simp only [fireCount_eq]
  omega

/-- A cell that falls due in the gap is the last of an odd track, at the gap's first count. -/
theorem lastOdd_of_gapStart_le_fireCount (hP : 229380 ≤ x.cellPitch) (hG : x.gap ≤ 8191) (hS : x.stagger ≤ 65535)
    {odd : Bool} (hi : i < x.n) (hdue : 65536 - x.gap ≤ x.fireCount odd i) :
    odd = true ∧ i = x.n - 1 ∧ x.fireCount odd i = 65536 - x.gap := by
  rw [fireCount_eq] at hdue ⊢
  have hle := rawFireCount_le_gapStart hS (by omega) odd hi
  have hlast : ¬ (odd = false ∨ i + 1 < x.n) := fun hroom => by
    have hraw := rawFireCount_le_of_not_lastOdd hP hG hS hi hroom
    omega
  obtain ⟨hodd, hnext⟩ := not_or.mp hlast
  exact ⟨Bool.eq_true_of_not_eq_false hodd, by omega, by omega⟩

end Screen
end Sys2Proof.Machine

open Sys2Proof.Machine Sys2Proof.Machine.Screen

/-- Settles O34 (R26): the pitch bound separates the raw fire counts, and all cells but the last of an odd track stand
a whole pitch before the gap, so the cap cannot merge two of them. -/
theorem fireCountsIncrease : Obligations.FireCountsIncrease := by
  intro x hn hN hG hS
  have hP := le_cellPitch hn hN hG
  refine ⟨hP, fun odd i j => fireCount_lt_fireCount hP hG hS odd, fun odd i hi => ?atMostGapStart,
    fun odd i => rawFireCount_add_three_le hP i.lt_succ_self, fun odd i hi => ?beforeLast, ?lastEven,
    fun odd i _ => lastOdd_of_gapStart_le_fireCount hP hG hS⟩
  case atMostGapStart =>
    have hle := rawFireCount_le_gapStart hS (by omega) odd hi
    rw [fireCount_eq]
    omega
  case beforeLast =>
    have hle := rawFireCount_le_of_not_lastOdd (odd := odd) hP hG hS (by omega) (.inr hi)
    exact hle.trans (Nat.sub_le ..)
  case lastEven =>
    exact (min_le_right ..).trans
      (rawFireCount_le_of_not_lastOdd (odd := false) hP hG hS (by omega) (.inl rfl))
end

section
/-! Tone-to-depth conversion (R39 to R41): the three stages one by one, and what each keeps its value within. The raw
value stays between its two knots, gain and offset bring it to -512..5117, and the clamp to DF..DC. -/

namespace Sys2Proof.Machine

theorem rawValue_eq_of_knots {knots : List Nat} {tone k0 k1 : Nat} (h0 : knots[tone / 16]? = some k0)
    (h1 : knots[tone / 16 + 1]? = some k1) :
    rawValue knots tone = k0 + ((k1 : Int) - k0) * (tone % 16 : Nat) / 16 := by
  simp only [rawValue, List.getD_eq_getElem?_getD, h0, h1, Option.getD_some]

/-- Rounding down keeps an interpolated value between integer knots, on a falling segment too. -/
theorem interpolation_mem_Icc (a b : Int) {f : Int} (hf0 : 0 ≤ f) (hf : f ≤ 16) :
    a + (b - a) * f / 16 ∈ Set.Icc (min a b) (max a b) := by
  rw [Set.mem_Icc]
  obtain hrise | hfall := le_total a b
  · have hlo : 0 ≤ (b - a) * f := mul_nonneg (by omega) hf0
    have hhi : (b - a) * f ≤ (b - a) * 16 := mul_le_mul_of_nonneg_left hf (by omega)
    omega
  · have hlo : (b - a) * 16 ≤ (b - a) * f := mul_le_mul_of_nonpos_left hf (by omega)
    have hhi : (b - a) * f ≤ 0 := mul_nonpos_of_nonpos_of_nonneg (by omega) hf0
    omega

theorem rawValue_mem_knots {knots : List Nat} {tone k0 k1 : Nat} (h0 : knots[tone / 16]? = some k0)
    (h1 : knots[tone / 16 + 1]? = some k1) :
    ((min k0 k1 : Nat) : Int) ≤ rawValue knots tone ∧ rawValue knots tone ≤ (max k0 k1 : Nat) := by
  rw [rawValue_eq_of_knots h0 h1, Nat.cast_min, Nat.cast_max]
  exact interpolation_mem_Icc k0 k1 (by omega) (by omega)

theorem scaled_bounds {c : Calibration} {v : Int} (hg : -4096 ≤ c.gain) (hg' : c.gain ≤ 4095)
    (ho : -512 ≤ c.offset) (ho' : c.offset ≤ 511) (hv : 0 ≤ v) (hv' : v ≤ 4095) :
    -512 ≤ scaled c v ∧ scaled c v ≤ 5117 := by
  have hlo : 0 ≤ v * (32768 + c.gain) := mul_nonneg hv (by omega)
  have hhi : v * (32768 + c.gain) ≤ 4095 * 36863 := mul_le_mul hv' (by omega) (by omega) (by decide)
  rw [scaled]
  omega

section Clamp
variable {c : Calibration} {w : Int}

theorem clampDepth_of_lt_floor (h : w < c.floor) : clampDepth c w = ⟨c.floor, .low⟩ := if_pos h

theorem clampDepth_of_ceiling_lt (hc : c.floor ≤ c.ceiling) (h : (c.ceiling : Int) < w) :
    clampDepth c w = ⟨c.ceiling, .high⟩ := by
  rw [clampDepth, if_neg (by omega), if_pos h]

theorem clampDepth_of_mem (h : (c.floor : Int) ≤ w) (h' : w ≤ c.ceiling) : clampDepth c w = ⟨w.toNat, .none⟩ := by
  rw [clampDepth, if_neg (by omega), if_neg (by omega)]

theorem clampDepth_depth_mem (hc : c.floor ≤ c.ceiling) (w : Int) :
    c.floor ≤ (clampDepth c w).depth ∧ (clampDepth c w).depth ≤ c.ceiling := by
  obtain hlow | hfloor := lt_or_ge w c.floor
  · rw [clampDepth_of_lt_floor hlow]
    exact ⟨le_rfl, hc⟩
  obtain hhigh | hceiling := lt_or_ge (c.ceiling : Int) w
  · rw [clampDepth_of_ceiling_lt hc hhigh]
    exact ⟨hc, le_rfl⟩
  · rw [clampDepth_of_mem hfloor hceiling]
    exact ⟨(Int.le_toNat (by omega)).mpr hfloor, Int.toNat_le.mpr hceiling⟩

end Clamp

theorem depthEntry_zero (knots : List Nat) (c : Calibration) : depthEntry knots c 0 = ⟨0, .none⟩ := rfl

theorem depthEntry_of_pos {tone : Nat} (h : 1 ≤ tone) (knots : List Nat) (c : Calibration) :
    depthEntry knots c tone = clampDepth c (scaled c (rawValue knots tone)) := if_neg (by omega)

end Sys2Proof.Machine

open Sys2Proof.Machine

/-- Settles O35 (R41): the raw value is bounded by its knots, so gain and offset cannot take it past 5117, and the
clamp's three cases are those of the scaled value against DF and DC. -/
theorem depthsStayInTheWindow : Obligations.DepthsStayInTheWindow := by
  intro knots c _ hknots hg hg' ho ho' hfloor hc _
  refine ⟨depthEntry_zero knots c, fun tone htone _ k0 k1 v w h0 h1 hv hw => ?_⟩
  obtain rfl : v = rawValue knots tone := hv.trans (rawValue_eq_of_knots h0 h1).symm
  obtain rfl : w = scaled c (rawValue knots tone) := hw
  have hk0 : k0 ≤ 4095 := hknots k0 (List.mem_of_getElem? h0)
  have hk1 : k1 ≤ 4095 := hknots k1 (List.mem_of_getElem? h1)
  obtain ⟨hmin, hmax⟩ := rawValue_mem_knots h0 h1
  obtain ⟨hlo, hhi⟩ := scaled_bounds hg hg' ho ho' (by omega) (by omega : rawValue knots tone ≤ 4095)
  obtain ⟨hdf, hdc⟩ := clampDepth_depth_mem hc (scaled c (rawValue knots tone))
  rw [depthEntry_of_pos htone]
  exact ⟨hmin, hmax, hlo, hhi, clampDepth_of_lt_floor, clampDepth_of_ceiling_lt hc, clampDepth_of_mem, hdf, hdc,
    hfloor.trans hdf⟩
end

section
/-! The page law (R48): every operation of the card keeps each page in the free-page list, in one descriptor or in the
copy in flight. Two facts carry it: pages move only among the free-page list, one head's queue and the copy
(`State.pagesAccounted.move`), and what changes a head's STANDBY buffer or takes its active band away happens while no
copy in flight is that head's (`State.copyOf` is `none`). -/

namespace Sys2Proof.Machine

variable {s t : State} {h : HeadId}

/-! ### The pages a store holds -/

theorem heads4_perm (h : HeadId) : heads4.Perm (h :: heads4.filter (· ≠ h)) := by
  revert h
  decide

/-- The held pages with those of one head first. -/
theorem Store.heldPages_perm (u : Store) (h : HeadId) :
    u.heldPages.Perm ((u.queues.get h).flatMap Descriptor.pages ++
      (heads4.filter (· ≠ h)).flatMap fun g => (u.queues.get g).flatMap Descriptor.pages) :=
  (heads4_perm h).flatMap_right _

/-- The pages of the free-page list, of one head's queue and of the copy in flight: those that one change can move. -/
def State.movablePages (s : State) (h : HeadId) : List Nat :=
  s.store.free.toList ++ (s.store.queues.get h).flatMap Descriptor.pages ++ s.fetch.copyPages

/-- A change of one queue, the free-page list and the copy that moves pages among these three keeps the page law. -/
theorem State.pagesAccounted.move (hs : s.pagesAccounted) (h : HeadId)
    (others : ∀ g, g ≠ h → t.store.queues.get g = s.store.queues.get g)
    (moved : (t.movablePages h).Perm (s.movablePages h)) : t.pagesAccounted := by
  have hrest : ((heads4.filter (· ≠ h)).flatMap fun g => (t.store.queues.get g).flatMap Descriptor.pages) =
      (heads4.filter (· ≠ h)).flatMap fun g => (s.store.queues.get g).flatMap Descriptor.pages :=
    List.flatMap_congr fun g hg => by rw [others g (by simpa using (List.mem_filter.mp hg).2)]
  rw [State.pagesAccounted, List.perm_iff_count] at hs ⊢
  intro p
  have htotal := hs p
  have hmoved := moved.count_eq p
  have hsplit := (t.store.heldPages_perm h).count_eq p
  have hsplit' := (s.store.heldPages_perm h).count_eq p
  simp only [State.movablePages, hrest, List.count_append] at htotal hmoved hsplit hsplit' ⊢
  omega

/-! ### The invariant -/

/-- No BLANK or REPEAT descriptor holds pages: such a track takes none at its opening (R49, R56). -/
def State.blanksPageless (s : State) : Prop := ∀ h, ∀ d ∈ s.store.queues.get h, d.kind ≠ .data → d.pages = []

/-- The page law with the two laws that make every step keep it. It reads no other part of the card than the store, the
copy in flight, the line buffers and the active bands, so a change of any other part leaves it the same proposition. -/
def State.pagesSound (s : State) : Prop := s.pagesAccounted ∧ s.copyOwned ∧ s.blanksPageless

namespace State.pagesSound

theorem reset : State.reset.pagesSound := by
  refine ⟨?_, fun c hc => by simp [State.reset, FetchEngine.reset] at hc, fun g d hd => ?_⟩
  · simp [State.pagesAccounted, State.reset, Store.reset, FetchEngine.reset, Store.heldPages, heads4,
      FetchEngine.copyPages, FreePages.reset_toList]
  · simp [State.reset, Store.reset] at hd

theorem move (hs : s.pagesSound) (h : HeadId) (owned : t.copyOwned)
    (others : ∀ g, g ≠ h → t.store.queues.get g = s.store.queues.get g)
    (blank : ∀ d ∈ t.store.queues.get h, d.kind ≠ .data → d.pages = [])
    (moved : (t.movablePages h).Perm (s.movablePages h)) : t.pagesSound := by
  obtain ⟨hacc, -, hblank⟩ := hs
  refine ⟨hacc.move h others moved, owned, fun g => ?_⟩
  by_cases hg : g = h
  · exact hg ▸ blank
  · rw [others g hg]
    exact hblank g

end State.pagesSound

theorem State.anyHeld_of_active (ha : (s.active h).isSome = true) : s.anyHeld = true := by
  refine List.any_eq_true.mpr ⟨h, (heads4_perm h).mem_iff.mpr List.mem_cons_self, ?_⟩
  obtain ⟨b, hb⟩ := Option.isSome_iff_exists.mp ha
  simp [State.held, show (s.bands.get h).active = some b from hb]

/-! ### Heads that no copy in flight belongs to -/

theorem State.copyOf_eq_none_iff : s.copyOf h = none ↔ ∀ c, s.fetch.copy = some c → c.head ≠ h := by
  simp [State.copyOf, Option.filter_eq_none_iff]

theorem State.copyOf_eq_some {c : Copy} (hc : s.copyOf h = some c) : s.fetch.copy = some c ∧ c.head = h := by
  simpa [State.copyOf, Option.filter_eq_some_iff] using hc

namespace State.pagesSound

theorem copyOf_of_inactive (hs : s.pagesSound) (hn : s.active h = none) : s.copyOf h = none := by
  refine State.copyOf_eq_none_iff.mpr fun c hc hh => ?_
  obtain ⟨-, howned, -⟩ := hs
  obtain ⟨hactive, -⟩ := howned c hc
  simp [hh, hn] at hactive

/-- A STANDBY buffer that is not LOADING a DATA track receives no copy. -/
theorem copyOf_of_standby (hs : s.pagesSound)
    (hb : ∀ number n, (s.buffers.get h).standby.held ≠ .loading ⟨number, .data, n⟩) : s.copyOf h = none := by
  refine State.copyOf_eq_none_iff.mpr fun c hc hh => ?_
  obtain ⟨-, howned, -⟩ := hs
  obtain ⟨-, hstandby⟩ := howned c hc
  exact hb _ _ (hh ▸ hstandby)

theorem updBuffers (hs : s.pagesSound) (hc : s.copyOf h = none) (f : LineBuffers → LineBuffers) :
    (s.updBuffers h f).pagesSound := by
  obtain ⟨hacc, howned, hblank⟩ := hs
  refine ⟨hacc, fun c hcopy => ?_, hblank⟩
  have hne := State.copyOf_eq_none_iff.mp hc c hcopy
  simpa [hne] using howned c hcopy

theorem setActive (hs : s.pagesSound) (hc : s.copyOf h = none) (b : Option Band) : (s.setActive h b).pagesSound := by
  obtain ⟨hacc, howned, hblank⟩ := hs
  refine ⟨hacc, fun c hcopy => ?_, hblank⟩
  have hne := State.copyOf_eq_none_iff.mp hc c hcopy
  simpa [State.active, hne] using howned c hcopy

/-- A change of the bands that leaves every active place taken that was. -/
theorem updBands (hs : s.pagesSound) {f : BandSequencer → BandSequencer}
    (hf : (s.active h).isSome → (f (s.bands.get h)).active.isSome) : (s.updBands h f).pagesSound := by
  obtain ⟨hacc, howned, hblank⟩ := hs
  refine ⟨hacc, fun c hcopy => ?_, hblank⟩
  obtain ⟨hactive, hstandby⟩ := howned c hcopy
  refine ⟨?_, hstandby⟩
  by_cases hh : c.head = h
  · simpa [State.active, hh] using hf (hh ▸ hactive)
  · simpa [State.active, hh] using hactive

theorem setActive_some (hs : s.pagesSound) (b : Band) : (s.setActive h (some b)).pagesSound :=
  hs.updBands fun _ => rfl

theorem updActive (hs : s.pagesSound) (f : Band → Band) : (s.updActive h f).pagesSound :=
  hs.updBands fun ha => by simpa using ha

end State.pagesSound

/-! ### The store's own operations -/

/-- An opened track joins its queue at some place (R51). -/
theorem insertDescriptor_perm (d : Descriptor) (q : List Descriptor) : (insertDescriptor d q).Perm (d :: q) := by
  induction q with
  | nil => rfl
  | cons e q ih =>
    unfold insertDescriptor
    split
    · rfl
    · exact (ih.cons e).trans (.swap ..)

/-- A look takes the stale front of a queue from it and leaves the rest (R61). -/
theorem staleFront_append_drop (m : Nat) (q : List Descriptor) :
    staleFront m q ++ q.drop (staleFront m q).length = q := by
  induction q with
  | nil => rfl
  | cons d q ih =>
    simp only [staleFront, List.takeWhile_cons] at ih ⊢
    split
    · simpa using ih
    · rfl

theorem pagesFor_of_ne_data {kind : TrackKind} (hkind : kind ≠ .data) (n : Nat) : pagesFor kind n = 0 := by
  cases kind with
  | data => exact absurd rfl hkind
  | blank => rfl
  | again => rfl

/-- An opening that is not refused finds its pages free (R55, R56). -/
theorem State.pagesFor_le_of_openingRefusal {f : TrackFields} {kind : TrackKind}
    (hr : s.openingRefusal h f kind = none) : pagesFor kind f.n ≤ s.store.free.count := by
  unfold State.openingRefusal at hr
  dsimp only at hr
  split_ifs at hr with _ _ _ _ hfull
  omega

namespace State.pagesSound

/-- The copy in flight ends and gives its pages back (R60, R76, R79). The law of its owner need not hold any more. -/
theorem releaseCopy {c : Copy} (hacc : s.pagesAccounted) (hblank : s.blanksPageless) (hc : s.fetch.copy = some c) :
    ({ s with store := s.store.giveBack c.pages, fetch := { s.fetch with copy := none } } : State).pagesSound := by
  refine ⟨hacc.move 0 (fun _ _ => rfl) ?_, fun c hc => by simp at hc, hblank⟩
  simpa [State.movablePages, Store.giveBack, FetchEngine.copyPages, hc] using List.perm_append_comm.append_left _

/-- Some of a queue's descriptors leave it with their pages given back (R59, R61). -/
theorem leaveQueue (hs : s.pagesSound) {gone kept : List Descriptor} (hq : (gone ++ kept).Perm (s.store.queues.get h))
    (n : Nat) : ({ s with store := { s.store with
      free := s.store.free.give (gone.flatMap Descriptor.pages)
      freeDescriptors := n
      queues := s.store.queues.set h kept } } : State).pagesSound := by
  have ⟨_, howned, hblank⟩ := hs
  refine hs.move h howned (fun g hg => by simp [hg]) (fun e he => hblank h e ?_) ?_
  · exact hq.mem_iff.mp (List.mem_append_right _ (by simpa using he))
  · have hpages := (hq.flatMap_right Descriptor.pages).append_left s.store.free.toList
    simpa [State.movablePages, FetchEngine.copyPages] using hpages.append_right _

/-- The front descriptor leaves its queue with its pages given back (R60, R75). -/
theorem grantFront_giveBack {d : Descriptor} (hs : s.pagesSound) (hd : (s.store.queues.get h).head? = some d) :
    ({ s with store := (s.store.grantFront h).giveBack d.pages } : State).pagesSound := by
  have hq : [d] ++ (s.store.queues.get h).tail = s.store.queues.get h := List.cons_head?_tail hd
  simpa [Store.giveBack, Store.grantFront] using hs.leaveQueue (.of_eq hq) (s.store.freeDescriptors + 1)

/-- The front descriptor, which holds no pages, leaves its queue (R77, R78). -/
theorem grantFront {d : Descriptor} (hs : s.pagesSound) (hd : (s.store.queues.get h).head? = some d)
    (hkind : d.kind ≠ .data) : ({ s with store := s.store.grantFront h } : State).pagesSound := by
  obtain ⟨q, hq⟩ := List.head?_eq_some_iff.mp hd
  have ⟨_, _, hblank⟩ := hs
  have hpages : d.pages = [] := hblank h d (by simp [hq]) hkind
  simpa [Store.giveBack, FreePages.give, hpages, Store.grantFront] using hs.grantFront_giveBack hd

theorem discard (hs : s.pagesSound) (p : Descriptor → Bool) :
    ({ s with store := s.store.discard h p } : State).pagesSound :=
  hs.leaveQueue (List.filter_append_perm p _) _

/-- A descriptor joins a queue with pages from the head of the free-page list (R47, R56). -/
theorem joinQueue {d : Descriptor} {f : FreePages} (hs : s.pagesSound)
    (hpages : d.pages ++ f.toList = s.store.free.toList) (hd : d.kind ≠ .data → d.pages = [])
    (m : Memory) (n : Nat) :
    ({ s with store := { s.store with
      dram := m
      free := f
      freeDescriptors := n
      queues := s.store.queues.set h (insertDescriptor d (s.store.queues.get h)) } } : State).pagesSound := by
  have ⟨_, howned, hblank⟩ := hs
  have hins := insertDescriptor_perm d (s.store.queues.get h)
  refine hs.move h howned (fun g hg => by simp [hg]) (fun e he => ?_) ?_
  · obtain rfl | hold := List.mem_cons.mp (hins.mem_iff.mp (by simpa using he))
    · exact hd
    · exact hblank h e hold
  · have hall := (hins.flatMap_right Descriptor.pages).append_left f.toList
    rw [List.flatMap_cons, ← List.append_assoc] at hall
    simpa [State.movablePages, FetchEngine.copyPages, ← hpages] using
      (hall.trans (List.perm_append_comm.append_right _)).append_right s.fetch.copyPages

theorem openTrack {kind : TrackKind} {n : Nat} (hs : s.pagesSound) (hroom : pagesFor kind n ≤ s.store.free.count)
    (number : Nat) (tones : List Byte) :
    ({ s with store := s.store.openTrack h kind number n tones } : State).pagesSound := by
  obtain ⟨htake, hlength⟩ := s.store.free.take_toList _ hroom
  refine hs.joinQueue htake (fun hkind => List.length_eq_zero_iff.mp ?_) _ _
  rw [hlength, pagesFor_of_ne_data hkind]

theorem continueTrack (hs : s.pagesSound) (d : Descriptor) (tones : List Byte) :
    ({ s with store := s.store.continueTrack h d tones } : State).pagesSound := by
  have ⟨_, howned, hblank⟩ := hs
  have hpages : ∀ e : Descriptor, (if e.number = d.number then e.gained tones.length else e).pages = e.pages :=
    fun e => by split <;> rfl
  have hkind : ∀ e : Descriptor, (if e.number = d.number then e.gained tones.length else e).kind = e.kind :=
    fun e => by split <;> rfl
  refine hs.move h howned (fun g hg => by simp [Store.continueTrack, hg]) ?_ (.of_eq ?_)
  · simpa [Store.continueTrack, hpages, hkind] using hblank h
  · simp [State.movablePages, Store.continueTrack, List.flatMap_map, hpages]

theorem evalStarvation (hs : s.pagesSound) (h : HeadId) : (s.evalStarvation h).pagesSound := by
  unfold State.evalStarvation
  split
  · exact hs
  · dsimp only
    split_ifs <;> exact hs

/-- The pages of the front DATA descriptor pass to the copy that begins (R60, R76). -/
theorem startCopy {d : Descriptor} (hs : s.pagesSound) (hfree : s.fetch.copy = none)
    (hactive : (s.active h).isSome = true) (hd : (s.store.queues.get h).head? = some d) :
    (s.startCopy h d).pagesSound := by
  have ⟨_, _, hblank⟩ := hs
  obtain ⟨q, hq⟩ := List.head?_eq_some_iff.mp hd
  refine evalStarvation (hs.move h ?_ ?_ ?_ ?_) h
  · intro c hc
    obtain rfl := Option.some.inj hc
    exact ⟨hactive, by simp [State.setStandby]⟩
  · intro g hg
    simp [State.setStandby, Store.grantFront, hg]
  · exact fun e he => hblank h e (List.mem_of_mem_tail (by simpa [State.setStandby, Store.grantFront] using he))
  · simpa [State.movablePages, State.setStandby, Store.grantFront, hq, FetchEngine.copyPages, hfree] using
      List.perm_append_comm.append_left _

end State.pagesSound

/-! ### Records, reports and orders: none of them moves a page

From here on, `hs.op` says that the operation `op` keeps the page law. -/

/-- What every head's own step keeps, a step over the fitted heads keeps. -/
theorem State.forFitted_keeps {P : State → Prop} {f : HeadId → State → State} (hs : P s)
    (hf : ∀ g u, P u → P (f g u)) : P (s.forFitted f) :=
  List.foldlRecOn heads4 _ hs fun u hu g _ => by
    split
    · exact hf g u hu
    · exact hu

namespace State.pagesSound

theorem updHead (hs : s.pagesSound) (h : HeadId) (f : Head → Head) : (s.updHead h f).pagesSound := hs

theorem updAxis (hs : s.pagesSound) (k : HeadId) (f : Axis → Axis) : (s.updAxis k f).pagesSound := hs

theorem post (hs : s.pagesSound) (id : NoticeId) (c : NoticeContent) : (s.post id c).pagesSound := hs

theorem elapse (hs : s.pagesSound) (n : Nat) : (s.elapse n).pagesSound := by
  unfold State.elapse
  split <;> exact hs

theorem file (hs : s.pagesSound) (h : HeadId) (r : ResultRecord) : (s.file h r).pagesSound :=
  (hs.updBands (h := h) fun ha => ha).post ..

theorem endPending (hs : s.pagesSound) (h : HeadId) (cls : ResultClass) (cause : Cause) :
    (s.endPending h cls cause).pagesSound := by
  unfold State.endPending
  split
  · exact hs
  · exact (hs.updBands fun ha => ha).file ..

theorem dwellIdle (hs : s.pagesSound) (h : HeadId) : (s.dwellIdle h).pagesSound := by
  unfold State.dwellIdle
  split <;> exact hs

theorem onEngaged (hs : s.pagesSound) (h : HeadId) : (s.onEngaged h).pagesSound := by
  unfold State.onEngaged
  split
  · exact hs.dwellIdle h
  · split
    · exact hs.setActive_some _
    · exact hs

theorem engageOrder (hs : s.pagesSound) (h : HeadId) : (s.engageOrder h).pagesSound := by
  have hhead := hs.updHead h fun _ => ((s.heads.get h).engage s.clock).1
  unfold State.engageOrder
  dsimp only
  split
  · exact hhead.onEngaged h
  · exact hhead
  · exact hhead

theorem onAtStart (hs : s.pagesSound) (h : HeadId) : (s.onAtStart h).pagesSound := by
  unfold State.onAtStart
  split
  · exact hs
  · split
    · exact (hs.setActive_some _).engageOrder h
    · exact hs

theorem positionOrder (hs : s.pagesSound) (h : HeadId) : (s.positionOrder h).pagesSound := by
  unfold State.positionOrder
  dsimp only
  split
  · exact hs
  · split
    · split
      · exact (hs.updAxis h _).onAtStart h
      · exact hs
    · exact hs.onAtStart h
    · exact hs

theorem onParked (hs : s.pagesSound) (h : HeadId) : (s.onParked h).pagesSound := by
  unfold State.onParked
  split
  · split
    · exact hs.positionOrder h
    · exact hs
  · exact hs
  · exact hs

theorem onReport (hs : s.pagesSound) (h : HeadId) (r : HeadReport) : (s.onReport h r).pagesSound := by
  cases r with
  | none => exact hs
  | engaged => exact hs.onEngaged h
  | parked => exact hs.onParked h

theorem retractOrder (hs : s.pagesSound) (h : HeadId) : (s.retractOrder h).pagesSound :=
  (hs.updHead h _).onReport h _

theorem immediateRetract (hs : s.pagesSound) (h : HeadId) : (s.immediateRetract h).pagesSound :=
  (hs.updHead h _).onReport h _

theorem enter (hs : s.pagesSound) (h : HeadId) (b : Band) (p : Phase) : (s.enter h b p).pagesSound :=
  hs.setActive_some _

theorem beginPhase (hs : s.pagesSound) (h : HeadId) (b : Band) (inPlace : Bool) :
    (s.beginPhase h b inPlace).pagesSound := by
  unfold State.beginPhase
  split
  · exact (hs.enter h b _).updHead h _
  · exact ((hs.enter h b _).positionOrder h).engageOrder h
  iterate 4 exact (hs.enter h b _).engageOrder h
  · exact (hs.enter h b _).positionOrder h
  iterate 4 exact (hs.enter h b _).retractOrder h
  · exact hs.enter h b _

/-- Actions 2 to 4 of an activation (R128). -/
theorem prepareBand (hs : s.pagesSound) (h : HeadId) (b : Band) : (s.prepareBand h b).pagesSound :=
  ((hs.updHead h _).updAxis h _).beginPhase h b _

/-! ### The end of a band -/

/-- Actions 2 to 5 of a band's end (R140): the buffers are emptied while no copy is the head's. -/
theorem closeBand (hs : s.pagesSound) (hc : s.copyOf h = none) (b : Band) (cls : ResultClass) (cause : Cause)
    (detail : Option CauseDetail) (order : Retire) (atBoundary : Bool) :
    (s.closeBand h b cls cause detail order atBoundary).pagesSound :=
  ((((hs.updBuffers hc _).evalStarvation h).updHead h _).updAxis h _).file h _

theorem abortClosed (hs : s.pagesSound) (hc : s.copyOf h = none) (b : Band) (cause : Cause)
    (detail : Option CauseDetail) (order : Retire) (atBoundary : Bool) :
    (s.abortClosed h b cause detail order atBoundary).pagesSound :=
  ((hs.closeBand hc ..).endPending ..).dwellIdle h

theorem refuseGrant {d : Descriptor} (hs : s.pagesSound) (hc : s.copyOf h = none)
    (hd : (s.store.queues.get h).head? = some d) : (s.refuseGrant h d).pagesSound := by
  have hleft := hs.grantFront_giveBack hd
  unfold State.refuseGrant
  dsimp only
  split
  · exact hleft
  · exact abortClosed (hleft.setActive hc none) hc ..

end State.pagesSound

/-! ### Grants -/

/-- What a head that wants a track holds: an active band and an EMPTY STANDBY (R72). -/
theorem State.wants_some {b : Band} {m : Nat} (hw : s.wants h = some (b, m)) :
    s.active h = some b ∧ (s.buffers.get h).standby.held = .empty := by
  unfold State.wants at hw
  split at hw
  · contradiction
  · next a ha =>
    dsimp only at hw
    split at hw
    · next hcond =>
      obtain ⟨rfl, -⟩ := Prod.mk.inj (Option.some.inj hw)
      obtain ⟨-, hempty, -⟩ := hcond
      exact ⟨ha, hempty⟩
    · contradiction

/-- What makes a head eligible for a descriptor (R72). -/
theorem State.eligibleFor_some {d : Descriptor} (he : s.eligibleFor h = some d) :
    (s.store.queues.get h).head? = some d ∧ ∃ b m, s.wants h = some (b, m) := by
  unfold State.eligibleFor at he
  split at he
  · next b m e hw hq =>
    split at he
    · exact ⟨hq.trans he, b, m, hw⟩
    · contradiction
  · contradiction
  · contradiction

/-- A head that is eligible has the descriptor at its queue's front, an active band, and no copy in flight, since its
STANDBY is EMPTY. -/
theorem State.pagesSound.eligible {d : Descriptor} (hs : s.pagesSound) (he : s.eligibleFor h = some d) :
    (s.store.queues.get h).head? = some d ∧ (s.active h).isSome = true ∧ s.copyOf h = none := by
  obtain ⟨hd, b, m, hw⟩ := State.eligibleFor_some he
  obtain ⟨hactive, hempty⟩ := State.wants_some hw
  exact ⟨hd, by simp [hactive], hs.copyOf_of_standby fun _ _ => by simp [hempty]⟩

/-! ### Active places that a grant leaves empty -/

theorem State.evalStarvation_bands (s : State) (h : HeadId) : (s.evalStarvation h).bands = s.bands := by
  unfold State.evalStarvation
  split
  · rfl
  · dsimp only
    split_ifs <;> rfl

theorem State.evalStarvation_active (s : State) (h g : HeadId) : (s.evalStarvation h).active g = s.active g := by
  rw [State.active, State.evalStarvation_bands, State.active]

theorem State.dwellIdle_active (s : State) (h g : HeadId) : (s.dwellIdle h).active g = s.active g := by
  unfold State.dwellIdle
  split <;> rfl

theorem State.file_active (s : State) (h g : HeadId) (r : ResultRecord) : (s.file h r).active g = s.active g := by
  by_cases hg : g = h <;> simp [State.file, State.active, hg]

theorem State.endPending_active (s : State) (h g : HeadId) (cls : ResultClass) (cause : Cause) :
    (s.endPending h cls cause).active g = s.active g := by
  unfold State.endPending
  split
  · rfl
  · rw [State.fileNeverActive, State.file_active]
    by_cases hg : g = h <;> simp [State.active, hg]

theorem State.closeBand_active (s : State) (h g : HeadId) (b : Band) (cls : ResultClass) (cause : Cause)
    (detail : Option CauseDetail) (order : Retire) (atBoundary : Bool) :
    (s.closeBand h b cls cause detail order atBoundary).active g = s.active g :=
  (State.file_active ..).trans (State.evalStarvation_active ..)

theorem State.abortClosed_active (s : State) (h g : HeadId) (b : Band) (cause : Cause)
    (detail : Option CauseDetail) (order : Retire) (atBoundary : Bool) :
    (s.abortClosed h b cause detail order atBoundary).active g = s.active g := by
  rw [State.abortClosed, State.dwellIdle_active, State.endPending_active, State.closeBand_active]

theorem State.startCopy_active (s : State) (h g : HeadId) (d : Descriptor) : (s.startCopy h d).active g = s.active g :=
  State.evalStarvation_active ..

theorem State.refuseGrant_inactive {g : HeadId} (hg : s.active g = none) (h : HeadId) (d : Descriptor) :
    (s.refuseGrant h d).active g = none := by
  unfold State.refuseGrant
  dsimp only
  split
  · exact hg
  · rw [State.abortClosed_active]
    by_cases hgh : g = h
    · simp [hgh]
    · simpa [State.active, hgh] using hg

namespace State.pagesSound

/-- What the arbiter's decision does: nothing, a copy's start, or a refused grant and another decision (R74, R75). Each
keeps the page law, and no head becomes active. -/
theorem arbitrateUpTo (hs : s.pagesSound) (tries : Nat) :
    (s.arbitrateUpTo tries).pagesSound ∧ ∀ g, s.active g = none → (s.arbitrateUpTo tries).active g = none := by
  induction tries generalizing s with
  | zero => exact ⟨hs, fun _ hg => hg⟩
  | succ tries ih =>
    unfold State.arbitrateUpTo
    split
    · exact ⟨hs, fun _ hg => hg⟩
    · exact ⟨hs, fun _ hg => hg⟩
    · next h hfree _ =>
      split
      · exact ⟨hs, fun _ hg => hg⟩
      · next d hd =>
        obtain ⟨he, -⟩ := Option.filter_eq_some_iff.mp hd
        obtain ⟨hfront, hactive, hc⟩ := hs.eligible he
        split
        · exact ⟨hs.startCopy hfree hactive hfront, fun g hg => by rwa [State.startCopy_active]⟩
        · obtain ⟨hsound, hinactive⟩ := ih (hs.refuseGrant hc hfront)
          exact ⟨hsound, fun g hg => hinactive g (State.refuseGrant_inactive hg h d)⟩

theorem arbitrate (hs : s.pagesSound) : s.arbitrate.pagesSound := (hs.arbitrateUpTo 5).1

/-! ### Looks and fills -/

/-- The grant of a BLANK or REPEAT (R77, R78). -/
theorem grantInPlace {d : Descriptor} (hs : s.pagesSound) (he : s.eligibleFor h = some d) (hkind : d.kind ≠ .data) :
    (s.grantInPlace h d).pagesSound := by
  obtain ⟨hd, -, hc⟩ := hs.eligible he
  have hgranted := hs.grantFront hd hkind
  unfold State.grantInPlace
  split
  · dsimp only
    split
    · exact ((hgranted.updActive _).updBuffers hc _).evalStarvation h
    · exact (hgranted.updBuffers hc _).evalStarvation h
  · exact hs.refuseGrant hc hd

theorem discardStale (hs : s.pagesSound) (h : HeadId) (m : Nat) : (s.discardStale h m).pagesSound := by
  unfold State.discardStale
  dsimp only
  split
  · exact hs
  · exact ((hs.leaveQueue (.of_eq (staleFront_append_drop m _)) _).updActive _).evalStarvation h

theorem look (hs : s.pagesSound) (h : HeadId) (m : Nat) : (s.look h m).pagesSound := by
  have hfresh := hs.discardStale h m
  unfold State.look
  dsimp only
  split
  · exact hfresh
  · next d he =>
    split
    · exact hfresh.arbitrate
    · next hkind => exact hfresh.grantInPlace he (by simp [hkind])
    · next hkind => exact hfresh.grantInPlace he (by simp [hkind])

theorem setFill (hs : s.pagesSound) (h : HeadId) (x : Option Nat) :
    ({ s with fetch := { s.fetch with fills := s.fetch.fills.set h x } } : State).pagesSound := hs

theorem startFill (hs : s.pagesSound) (hc : s.copyOf h = none) (m : Nat) : (s.startFill h m).pagesSound :=
  ((hs.setFill h _).updBuffers hc _).evalStarvation h

theorem service (hs : s.pagesSound) (h : HeadId) : (s.service h).pagesSound := by
  have hfed := hs.evalStarvation h
  unfold State.service
  dsimp only
  split
  · exact hfed
  · next b m hw =>
    split
    · exact hfed.look h m
    · obtain ⟨-, hempty⟩ := State.wants_some hw
      exact hfed.startFill (hfed.copyOf_of_standby fun _ _ => by simp [hempty]) m

/-! ### Bands that end, begin and cut -/

/-- Action 1 of a band's end (R79): no copy is the head's any more, not even one the arbiter has then started. -/
theorem leaveActive (hs : s.pagesSound) (h : HeadId) :
    ((s.setActive h none).stopFetch h).pagesSound ∧ ((s.setActive h none).stopFetch h).copyOf h = none := by
  unfold State.stopFetch
  dsimp only
  split
  · next hc => exact ⟨(hs.setActive hc none).setFill h none, hc⟩
  · next c hc =>
    obtain ⟨hcopy, -⟩ := State.copyOf_eq_some hc
    obtain ⟨hacc, -, hblank⟩ := hs
    have hreleased := (releaseCopy (s := s.setActive h none) hacc hblank hcopy).setFill h none
    obtain ⟨hsound, hinactive⟩ := hreleased.arbitrateUpTo 5
    exact ⟨hsound, hsound.copyOf_of_inactive (hinactive h (s.setActive_active h none))⟩

theorem abortActive (hs : s.pagesSound) (h : HeadId) (cause : Cause) (detail : Option CauseDetail) (order : Retire)
    (atBoundary : Bool) : (s.abortActive h cause detail order atBoundary).pagesSound := by
  obtain ⟨hleft, hc⟩ := hs.leaveActive h
  unfold State.abortActive
  split
  · exact hs
  · exact hleft.abortClosed hc ..

theorem limitFault (hs : s.pagesSound) (k : HeadId) : (s.limitFault k).pagesSound := by
  have hstop : (s.limitStop k).pagesSound := (hs.updAxis k _).post ..
  unfold State.limitFault
  split
  · exact hstop.abortActive ..
  · exact hstop

theorem limitCheck (hs : s.pagesSound) (k : HeadId) : (s.limitCheck k).pagesSound := by
  unfold State.limitCheck
  split
  · exact hs.limitFault k
  · exact hs

theorem afterActivation (hs : s.pagesSound) (h : HeadId) : (s.afterActivation h).pagesSound :=
  (hs.limitCheck h).service h

theorem handOn (hs : s.pagesSound) (h : HeadId) : (s.handOn h).pagesSound := by
  unfold State.handOn
  split
  · exact hs
  · next p _ =>
    have hleft : (s.updBands h fun q => { q with waiting := none }).pagesSound := hs.updBands fun ha => ha
    dsimp only
    split
    · exact hleft.file ..
    · exact (hleft.prepareBand h p).afterActivation h

theorem finishActive (hs : s.pagesSound) (h : HeadId) (cls : ResultClass) (cause : Cause) (atBoundary : Bool) :
    (s.finishActive h cls cause atBoundary).pagesSound := by
  obtain ⟨hleft, hc⟩ := hs.leaveActive h
  unfold State.finishActive
  split
  · exact hs
  · exact ((hleft.closeBand hc ..).handOn h).dwellIdle h

end State.pagesSound

/-- A STANDBY buffer that is LOADED receives no copy. -/
theorem State.pagesSound.copyOf_of_standbyHolds {number : Nat} (hs : s.pagesSound)
    (hl : s.standbyHolds h number = true) : s.copyOf h = none := by
  refine hs.copyOf_of_standby fun _ _ hloading => ?_
  simp [State.standbyHolds, hloading, BufferState.loaded?] at hl

namespace State.pagesSound

/-- The swap of R80 comes while the STANDBY buffer is LOADED. -/
theorem cutNext {number : Nat} (hs : s.pagesSound) (hl : s.standbyHolds h number = true) (b : Band) :
    (s.cutNext h b).pagesSound :=
  (((((hs.updBuffers (hs.copyOf_of_standbyHolds hl) _).updHead h _).updAxis h _).setActive_some _).post ..).service h

theorem waitSyncBoundary (hs : s.pagesSound) (h : HeadId) (b : Band) : (s.waitSyncBoundary h b).pagesSound := by
  unfold State.waitSyncBoundary
  split
  · exact hs
  · split
    · next hl => exact hs.cutNext hl _
    · split
      · exact hs.setActive_some _
      · exact hs.abortActive ..

theorem suspend (hs : s.pagesSound) (h : HeadId) (b : Band) : (s.suspend h b).pagesSound :=
  (((hs.setActive_some _).updHead h _).updAxis h _).post ..

theorem cuttingBoundary (hs : s.pagesSound) (h : HeadId) (b : Band) : (s.cuttingBoundary h b).pagesSound := by
  have hcounted := hs.setActive_some (h := h) (b.counted (s.trackCut h))
  unfold State.cuttingBoundary
  dsimp only
  split
  · exact hcounted.abortActive ..
  split
  · exact hcounted.finishActive ..
  split
  · exact hcounted.finishActive ..
  split
  · next hl => exact hcounted.cutNext hl _
  split
  · exact hcounted.suspend ..
  · exact hcounted.abortActive ..

theorem suspendedBoundary (hs : s.pagesSound) (h : HeadId) (b : Band) : (s.suspendedBoundary h b).pagesSound := by
  unfold State.suspendedBoundary
  split
  · next hl => exact hs.cutNext hl _
  · dsimp only
    split
    · exact (hs.setActive_some _).abortActive ..
    · exact (hs.setActive_some _).post ..

theorem boundary (hs : s.pagesSound) (h : HeadId) : (s.boundary h).pagesSound := by
  unfold State.boundary
  split
  · exact hs
  · split
    · exact hs.waitSyncBoundary h _
    · exact hs.cuttingBoundary h _
    · exact hs.suspendedBoundary h _
    iterate 3 exact hs

theorem present (hs : s.pagesSound) (h : HeadId) : (s.present h).pagesSound := by
  have hcells : (s.deliverCells h).pagesSound := by
    unfold State.deliverCells
    dsimp only
    split
    · exact (hs.updHead h _).updActive _
    · exact hs
  exact hcells.updAxis h _

theorem timingLoss (hs : s.pagesSound) (h : HeadId) (e : CylEvent) : (s.timingLoss h e).pagesSound := by
  unfold State.timingLoss
  split
  · exact hs
  · split
    · exact hs.abortActive ..
    · exact hs.abortActive ..
    · exact hs.setActive_some _
    iterate 3 exact hs

theorem speedEvent (hs : s.pagesSound) (h : HeadId) : (s.speedEvent h).pagesSound := by
  unfold State.speedEvent
  split
  · exact hs
  · split
    · exact hs.abortActive ..
    · exact hs.abortActive ..
    iterate 4 exact hs

theorem readyLost (hs : s.pagesSound) (h : HeadId) : (s.readyLost h).pagesSound :=
  ((hs.immediateRetract h).updAxis h _).abortActive ..

theorem alarmOn (hs : s.pagesSound) (slot : Nat) (fast : Bool) (h : HeadId) : (s.alarmOn slot fast h).pagesSound := by
  cases fast with
  | true => exact ((hs.immediateRetract h).updHead h _).abortActive ..
  | false => exact ((hs.retractOrder h).updHead h _).abortActive ..

/-! ### Counts, indexes and the machine-ready line -/

theorem setCtu (hs : s.pagesSound) (c : Ctu) : ({ s with ctu := c } : State).pagesSound := hs

theorem timingFault (hs : s.pagesSound) (e : CylEvent) (c : Ctu) : (s.timingFault e c).pagesSound := by
  have hposted : (({ s with ctu := c } : State).postCylinder e).pagesSound := (hs.setCtu c).post ..
  unfold State.timingFault
  dsimp only
  split
  · exact State.forFitted_keeps hposted fun h _ hu => hu.timingLoss h e
  · exact hposted

theorem boundaries (hs : s.pagesSound) (due : HeadId → Bool) : (s.boundaries due).pagesSound :=
  State.forFitted_keeps hs fun h _ hu => by
    split
    · exact hu.boundary h
    · exact hu

theorem presentAll (hs : s.pagesSound) : s.presentAll.pagesSound :=
  State.forFitted_keeps hs fun h _ hu => hu.present h

theorem judgeCount (hs : s.pagesSound) (forward : Bool) : (s.judgeCount forward).pagesSound := by
  unfold State.judgeCount
  split
  · exact hs
  · exact hs
  · split
    · exact hs.timingFault ..
    · exact hs
  · exact hs.timingFault ..
  · split
    · exact hs.timingFault ..
    · exact hs.boundaries _

theorem checkSpeed (hs : s.pagesSound) : s.checkSpeed.pagesSound := by
  unfold State.checkSpeed
  dsimp only
  split
  · exact State.forFitted_keeps ((hs.setCtu _).post ..) fun h _ hu => hu.speedEvent h
  · exact (hs.setCtu _).post ..
  · exact hs
  · exact hs

theorem serveReport (hs : s.pagesSound) : s.serveReport.pagesSound := by
  unfold State.serveReport
  split_ifs <;> exact hs

theorem goodIndex (hs : s.pagesSound) : s.goodIndex.pagesSound := by
  have howed : s.owedBoundaries.pagesSound := by
    unfold State.owedBoundaries
    split
    · exact hs.boundaries _
    · exact hs
  have hreported := (howed.setCtu (s.owedBoundaries.ctu.revolved s.owedBoundaries.timestamp)).checkSpeed.serveReport
  refine presentAll (s := State.zeroBoundaries _) ?_
  unfold State.zeroBoundaries
  split
  · exact hreported.boundaries _
  · exact hreported

theorem judgeIndex (hs : s.pagesSound) : s.judgeIndex.pagesSound := by
  unfold State.judgeIndex
  split
  · exact (hs.timingFault ..).setCtu _
  · split
    · exact hs.timingFault ..
    · exact hs.goodIndex

theorem takeReady (hs : s.pagesSound) : s.takeReady.pagesSound := by
  unfold State.takeReady
  dsimp only
  split
  · exact hs
  · exact State.forFitted_keeps ((hs.setCtu _).post ..) fun h _ hu => hu.readyLost h

theorem unfitAbove (hs : s.pagesSound) (before : Nat) : (s.unfitAbove before).pagesSound :=
  List.foldlRecOn heads4 _ hs fun u hu h _ => by
    split
    · exact (hu.immediateRetract h).updAxis h _
    · exact hu

theorem setMachine (hs : s.pagesSound) (m : MachineSettings) (c : Ctu) :
    ({ s with machine := m, ctu := c } : State).pagesSound := hs

theorem writeMachine (hs : s.pagesSound) (m : MachineSettings) : (s.writeMachine m).pagesSound :=
  (hs.setMachine m _).unfitAbove _

/-! ### Timers, moves, conversions, and the ends of copies and fills -/

theorem rampStep (hs : s.pagesSound) (h : HeadId) (r : Ramp) : (s.rampStep h r).pagesSound :=
  (hs.updHead h _).onReport h _

theorem moveStep (hs : s.pagesSound) (k : HeadId) (m : Move) : (s.moveStep k m).pagesSound := by
  unfold State.moveStep
  split
  · unfold State.homingStep
    dsimp only
    split_ifs <;> exact hs
  · unfold State.seekStep
    dsimp only
    split_ifs <;> exact hs
  · unfold State.feedStep
    dsimp only
    split_ifs
    · exact hs
    · exact ((hs.updAxis k _).updAxis k _).onAtStart k
    · exact hs
  · exact hs
  · exact hs

theorem homeFound (hs : s.pagesSound) (k : HeadId) : (s.homeFound k).pagesSound := by
  unfold State.homeFound
  split <;> exact hs

theorem setMonitor (hs : s.pagesSound) (m : Monitor) : (s.setMonitor m).pagesSound := hs

theorem latchAlarm (hs : s.pagesSound) (i : Fin 16) (x : Slot) (v : Nat) : (s.latchAlarm i x v).pagesSound := by
  unfold State.latchAlarm State.alarmAll
  dsimp only
  split
  · refine State.forFitted_keeps ((hs.setMonitor _).post ..) fun h _ hu => ?_
    split
    · exact hu.alarmOn ..
    · exact hu
  · exact hs

theorem completeConversion (hs : s.pagesSound) (c : Conversion) (value : BitVec 12) :
    (s.completeConversion c value).pagesSound := by
  have hdue : (s.reach c.done).pagesSound := hs.elapse _
  refine setMonitor (s := State.judgeConversion _ _ _) ?_ _
  unfold State.judgeConversion
  dsimp only
  split
  · exact hdue.latchAlarm ..
  · exact hdue

theorem finishCopy {c : Copy} (hs : s.pagesSound) (hc : s.fetch.copy = some c) : (s.finishCopy c).pagesSound := by
  obtain ⟨hacc, -, hblank⟩ := hs
  have hreleased := releaseCopy (s := s.updBuffers c.head fun b =>
    b.filled ⟨c.track, .data, c.n⟩ (readTones s.store.dram c.pages c.n)) hacc hblank hc
  exact (hreleased.service c.head).arbitrate

/-- A fill ends in a STANDBY buffer that is LOADING a PATCH, which no copy's is. -/
theorem finishFill (hs : s.pagesSound) (h : HeadId) : (s.finishFill h).pagesSound := by
  have hended := hs.setFill h none
  unfold State.finishFill
  dsimp only
  split
  · next x hx =>
    split
    · next hkind =>
      have hc := hs.copyOf_of_standby (h := h) fun number n hdata => by
        obtain rfl := BufferState.loading.inj (hx.symm.trans hdata)
        simp at hkind
      exact (hended.updBuffers hc _).service h
    · exact hended
  · exact hended
  · exact hended

/-! ### Requests -/

/-- A request keeps the page law when its owner does: the link's own part of it moves no page (R164, R165). -/
theorem request {α : Type} {owner : α → State → State × Response} (hs : s.pagesSound) (f : Frame)
    (fields : Option α) (howner : ∀ a u, u.pagesSound → (owner a u).1.pagesSound) : (s.request f fields owner).pagesSound := by
  obtain ⟨-, hr⟩ | ⟨-, -, hr⟩ | ⟨a, -, -, hr⟩ := s.request_cases f fields owner <;> rw [hr]
  · exact hs
  · exact hs
  · exact howner a s.handed hs

theorem onFitted {f : HeadId → State × Response} (hs : s.pagesSound) (n : Nat) (hf : ∀ h, (f h).1.pagesSound) :
    (onFitted n s f).1.pagesSound := by
  obtain ⟨-, hr⟩ | ⟨h, -, -, hr⟩ | ⟨h, -, -, hr⟩ := onFitted_cases n s f <;> rw [hr]
  · exact hs
  · exact hs
  · exact hf h

theorem takeSetMachine (hs : s.pagesSound) (f : MachineFields) : (takeSetMachine f s).1.pagesSound := by
  unfold Machine.takeSetMachine
  split
  · exact hs
  · split
    · exact hs
    · split
      · exact hs
      · split
        · exact hs.writeMachine _
        · exact hs

/-! Requests that write settings: however such a request is answered, nothing that the page law reads is written. -/

theorem takeSetHead (hs : s.pagesSound) (f : HeadFields) : (takeSetHead f s).1.pagesSound := by
  unfold Machine.takeSetHead
  dsimp only
  repeat' split
  all_goals exact hs

theorem takeSetAxis (hs : s.pagesSound) (f : AxisFields) : (takeSetAxis f s).1.pagesSound :=
  hs.onFitted _ fun k => by
    dsimp only
    split_ifs <;> exact hs

theorem takeSetScreen (hs : s.pagesSound) (f : ScreenFields) : (takeSetScreen f s).1.pagesSound := by
  unfold Machine.takeSetScreen writeScreen
  repeat' split
  all_goals exact hs

theorem takeSetCurve (hs : s.pagesSound) (f : CurveFields) : (takeSetCurve f s).1.pagesSound := by
  unfold Machine.takeSetCurve writeCurve previewCurve
  dsimp only
  repeat' split
  all_goals exact hs

theorem takeSetPatch (hs : s.pagesSound) (f : PatchFields) : (takeSetPatch f s).1.pagesSound := by
  unfold Machine.takeSetPatch writePatch
  dsimp only
  repeat' split
  all_goals exact hs

theorem takeSetMonitor (hs : s.pagesSound) (f : MonitorFields) : (takeSetMonitor f s).1.pagesSound := by
  unfold Machine.takeSetMonitor
  dsimp only
  repeat' split
  all_goals exact hs

theorem takeSetNotice (hs : s.pagesSound) (f : Nat × Nat × Nat) : (takeSetNotice f s).1.pagesSound := by
  unfold Machine.takeSetNotice
  repeat' split
  all_goals exact hs

/-! #### TRACK, DROP_TRACKS and STORE_CLEAR (R52, R62, R63) -/

theorem takeChunk (hs : s.pagesSound) (h : HeadId) (f : TrackFields) (kind : TrackKind) :
    (takeChunk h f kind s).1.pagesSound := by
  unfold Machine.takeChunk chunkOutcome
  split
  · next d _ =>
    split
    · exact hs
    · split
      · exact hs
      · have hcontinued := hs.continueTrack (h := h) d f.tones
        unfold State.continueChunk
        dsimp only
        split
        · exact hcontinued.service h
        · exact hcontinued
  · split
    · exact hs
    · split
      · exact hs
      · next hr => exact (hs.openTrack (State.pagesFor_le_of_openingRefusal hr) f.number f.tones).service h

theorem takeTrack (hs : s.pagesSound) (f : TrackFields) : (takeTrack f s).1.pagesSound :=
  hs.onFitted _ fun h => by
    split
    · exact hs
    · split
      · exact hs
      · exact hs.takeChunk ..

theorem takeDropTracks (hs : s.pagesSound) (f : DropFields) : (takeDropTracks f s).1.pagesSound :=
  hs.onFitted _ fun h => by
    have hdropped := hs.discard (h := h) fun d => f.holds d.number
    dsimp only
    split
    · exact hdropped
    · exact hdropped.service h

/-- A STORE_CLEAR is taken with no band held, so no copy is in flight, and every page is free again (R63). -/
theorem takeStoreClear (hs : s.pagesSound) (f : Unit) : (takeStoreClear f s).1.pagesSound := by
  unfold Machine.takeStoreClear
  split
  · exact hs
  · next hheld =>
    obtain ⟨-, howned, -⟩ := hs
    have hcopy : s.fetch.copy = none := by
      cases hc : s.fetch.copy with
      | none => rfl
      | some c =>
        obtain ⟨hactive, -⟩ := howned c hc
        exact absurd (State.anyHeld_of_active hactive) hheld
    refine ⟨?_, fun c hc => by simp [hcopy] at hc, fun g d hd => by simp [Store.cleared] at hd⟩
    simp [State.pagesAccounted, Store.cleared, Store.heldPages, heads4, FetchEngine.copyPages, hcopy,
      FreePages.reset_toList]

/-! #### Axes, bands and the monitor -/

theorem limitOnEntry (hs : s.pagesSound) (k : HeadId) : (s.limitOnEntry k).pagesSound := by
  unfold State.limitOnEntry
  split
  · exact (hs.updAxis k _).post ..
  · exact hs

theorem takeHome (hs : s.pagesSound) (n : Nat) : (takeHome n s).1.pagesSound :=
  hs.onFitted _ fun k => by
    split
    · exact hs
    · split
      · exact hs
      · exact (hs.updAxis k _).limitOnEntry k

theorem seekTo (hs : s.pagesSound) (k : HeadId) (target : Nat) : (s.seekTo k target).pagesSound := by
  unfold State.seekTo
  split
  · exact hs
  · exact (hs.updAxis k _).limitOnEntry k

theorem takeSeek (hs : s.pagesSound) (f : SeekFields) : (takeSeek f s).1.pagesSound := by
  unfold Machine.takeSeek
  split
  · exact hs
  · dsimp only
    split
    · split
      · exact hs
      · split
        · exact hs.seekTo ..
        · exact hs
    · exact hs

theorem takeAxisHalt (hs : s.pagesSound) (n : Nat) : (takeAxisHalt n s).1.pagesSound :=
  hs.onFitted _ fun k => by split <;> exact hs

theorem takeHeadClear (hs : s.pagesSound) (n : Nat) : (takeHeadClear n s).1.pagesSound :=
  hs.onFitted _ fun h => by split <;> exact hs

theorem takeEngrave (hs : s.pagesSound) (f : EngraveFields) : (takeEngrave f s).1.pagesSound :=
  hs.onFitted _ fun h => by
    split
    · exact hs
    · next b _ =>
      split
      · exact hs
      · split
        · unfold engraveActive
          split
          · exact hs
          · exact (hs.prepareBand h b).afterActivation h
        · exact hs.updBands fun ha => ha

theorem takeStopBand (hs : s.pagesSound) (f : Nat × Nat) : (takeStopBand f s).1.pagesSound := by
  unfold Machine.takeStopBand
  split
  · exact hs
  · refine hs.onFitted _ fun h => ?_
    split
    · unfold stopActive
      split
      · exact hs
      · split
        · unfold State.stopCutting
          split
          · exact hs
          · exact (hs.setActive_some _).updAxis h _
        iterate 4 exact hs.finishActive ..
        · exact hs
    · unfold stopPending
      split
      · exact hs
      · exact hs.endPending ..

theorem takeAbortBand (hs : s.pagesSound) (f : Nat × Nat) : (takeAbortBand f s).1.pagesSound := by
  unfold Machine.takeAbortBand
  split
  · exact hs
  · refine hs.onFitted _ fun h => ?_
    split
    · exact hs
    · exact hs.abortActive ..

theorem takeReadResult (hs : s.pagesSound) (n : Nat) : (takeReadResult n s).1.pagesSound :=
  hs.onFitted _ fun h => by
    split
    · exact hs
    · exact hs.updBands fun ha => ha

theorem takeMonitorRun (hs : s.pagesSound) (f : Nat × Nat × Nat) : (takeMonitorRun f s).1.pagesSound := by
  unfold Machine.takeMonitorRun
  repeat' split
  all_goals exact hs

theorem takeMonitorHalt (hs : s.pagesSound) (f : Unit) : (takeMonitorHalt f s).1.pagesSound := by
  unfold Machine.takeMonitorHalt
  dsimp only
  split <;> exact hs

theorem takeAlarmAck (hs : s.pagesSound) (n : Nat) : (takeAlarmAck n s).1.pagesSound := by
  unfold Machine.takeAlarmAck
  dsimp only
  repeat' split
  all_goals exact hs

theorem takeGetStatus (hs : s.pagesSound) (n : Nat) : (takeGetStatus n s).1.pagesSound := by
  unfold Machine.takeGetStatus
  split <;> exact hs

/-! ### Commands -/

theorem powerOn (s : State) : s.powerOn.pagesSound := reset

theorem of_done (hs : s.pagesSound) (ht : s.done = .next t) : t.pagesSound := by
  obtain rfl := Host.Outcome.next.inj ht
  exact hs

/-- A request command that is handed, listed or dropped. -/
theorem exec_request {c : Instr} {f : Frame} (hs : s.pagesSound) (hc : frameOf c = some f) (ht : exec c s = .next t) :
    t.pagesSound := by
  cases c
  case setMachine => exact (hs.request _ _ fun f _ hu => hu.takeSetMachine f).of_done ht
  case setHead => exact (hs.request _ _ fun f _ hu => hu.takeSetHead f).of_done ht
  case setAxis => exact (hs.request _ _ fun f _ hu => hu.takeSetAxis f).of_done ht
  case setScreen => exact (hs.request _ _ fun f _ hu => hu.takeSetScreen f).of_done ht
  case setCurve => exact (hs.request _ _ fun f _ hu => hu.takeSetCurve f).of_done ht
  case setPatch => exact (hs.request _ _ fun f _ hu => hu.takeSetPatch f).of_done ht
  case setMonitor => exact (hs.request _ _ fun f _ hu => hu.takeSetMonitor f).of_done ht
  case setNotice => exact (hs.request _ _ fun f _ hu => hu.takeSetNotice f).of_done ht
  case track => exact (hs.request _ _ fun f _ hu => hu.takeTrack f).of_done ht
  case dropTracks => exact (hs.request _ _ fun f _ hu => hu.takeDropTracks f).of_done ht
  case storeClear => exact (hs.request _ _ fun f _ hu => hu.takeStoreClear f).of_done ht
  case engrave => exact (hs.request _ _ fun f _ hu => hu.takeEngrave f).of_done ht
  case stopBand => exact (hs.request _ _ fun f _ hu => hu.takeStopBand f).of_done ht
  case abortBand => exact (hs.request _ _ fun f _ hu => hu.takeAbortBand f).of_done ht
  case readResult => exact (hs.request _ _ fun f _ hu => hu.takeReadResult f).of_done ht
  case home => exact (hs.request _ _ fun f _ hu => hu.takeHome f).of_done ht
  case seek => exact (hs.request _ _ fun f _ hu => hu.takeSeek f).of_done ht
  case axisHalt => exact (hs.request _ _ fun f _ hu => hu.takeAxisHalt f).of_done ht
  case headClear => exact (hs.request _ _ fun f _ hu => hu.takeHeadClear f).of_done ht
  case monitorRun => exact (hs.request _ _ fun f _ hu => hu.takeMonitorRun f).of_done ht
  case monitorHalt => exact (hs.request _ _ fun f _ hu => hu.takeMonitorHalt f).of_done ht
  case alarmAck => exact (hs.request _ _ fun f _ hu => hu.takeAlarmAck f).of_done ht
  case moduleReset => exact (hs.request _ _ fun _ _ hu => hu).of_done ht
  case getStatus => exact (hs.request _ _ fun f _ hu => hu.takeGetStatus f).of_done ht
  case getCylinder => exact (hs.request _ _ fun _ _ hu => hu).of_done ht
  case getStore => exact (hs.request _ _ fun _ _ hu => hu).of_done ht
  case getMonitor => exact (hs.request _ _ fun _ _ hu => hu).of_done ht
  case getHead => exact (hs.request _ _ fun _ _ hu => hu.onFitted _ fun _ => hu).of_done ht
  case getAxis => exact (hs.request _ _ fun _ _ hu => hu.onFitted _ fun _ => hu).of_done ht
  case unknownKindRequest =>
    refine of_done ?_ ht
    split
    · exact hs
    · exact hs.request _ _ fun _ _ hu => hu
  all_goals simp [frameOf] at hc

end State.pagesSound

/-- The command of a listed request is a request. -/
theorem frameOf_requestOf (f : Frame) : ∃ g, frameOf (requestOf f) = some g := by
  unfold requestOf
  split <;> exact ⟨_, rfl⟩

namespace State.pagesSound

theorem served (hs : s.pagesSound) (f : Frame) : (s.served f).pagesSound := by
  unfold State.served
  split
  · next t ht =>
    rw [State.serve_eq] at ht
    obtain ⟨g, hg⟩ := frameOf_requestOf f
    exact hs.exec_request hg ht
  · exact hs
  · exact hs

theorem handAll (hs : s.pagesSound) : s.handAll.pagesSound :=
  State.handUpTo_keeps _ (fun _ f hu _ => hu.served f) s hs _

theorem scan (hs : s.pagesSound) (fuel : Nat) (bytes : List Byte) : (scan fuel bytes s).pagesSound :=
  scan_keeps State.pagesSound (fun u f hu => handAll (s := { u with link := u.link.accept f }) hu)
    (fun _ _ hu => hu) (fun _ _ hu => hu) fuel bytes s hs

theorem receive (hs : s.pagesSound) (bytes : List Byte) : (s.receive bytes).pagesSound := by
  unfold State.receive
  split
  · exact hs
  · exact scan (s := s.freshStall) hs ..

theorem stalled (hs : s.pagesSound) : s.stalled.pagesSound := by
  unfold State.stalled
  split
  · exact hs
  · exact scan (s := s.freshStall.discardFrame .stall) hs ..

/-- An event of the card's own or of its lines, which no frame carries. -/
theorem exec_event {c : Instr} (hs : s.pagesSound) (hc : frameOf c = none) (ht : exec c s = .next t) :
    t.pagesSound := by
  cases c
  case powerOn => exact (powerOn s).of_done ht
  case moduleResetEffect =>
    refine of_done ?_ ht
    split
    · exact powerOn s
    · exact hs
  case countEvent forward =>
    have hcounted : (s.count forward).pagesSound := hs.setCtu _
    exact (hcounted.judgeCount forward).presentAll.of_done ht
  case indexEvent =>
    refine of_done ?_ ht
    split
    · exact hs
    · split
      · exact hs
      · exact hs.judgeIndex
  case stoppedTimeout =>
    refine of_done ?_ ht
    split
    · exact hs
    · exact (hs.elapse _).timingFault ..
  case readyLineChange =>
    refine of_done ?_ ht
    exact hs
  case readyDebounceExpiry =>
    refine of_done ?_ ht
    split
    · exact hs
    · exact (hs.elapse _).takeReady
  case frameReceived bytes => exact (hs.receive bytes).of_done ht
  case stallTimeout =>
    refine of_done ?_ ht
    split
    · exact hs
    · exact (hs.elapse _).stalled
  case frameSent =>
    refine of_done ?_ ht
    split
    · exact hs
    · exact handAll (s := State.settled { s.elapse _ with link := _ }) (hs.elapse _)
  case rampUpdate h =>
    refine of_done ?_ ht
    split
    · exact hs
    · exact (hs.elapse _).rampStep ..
  case settleExpiry h =>
    refine of_done ?_ ht
    split
    · exact hs
    · exact ((hs.elapse _).updHead h _).onEngaged h
  case dwellExpiry h =>
    refine of_done ?_ ht
    split
    · exact hs
    · exact (hs.elapse _).retractOrder h
  case moveStep k =>
    refine of_done ?_ ht
    split
    · exact hs
    · exact (hs.elapse _).moveStep ..
  case homeSensorActive k level =>
    refine of_done ?_ ht
    split
    · refine homeFound ?_ k
      exact hs
    · exact hs
  case limitSwitchActive k level =>
    refine of_done ?_ ht
    refine limitCheck ?_ k
    exact hs
  case copyComplete =>
    refine of_done ?_ ht
    split
    · exact hs
    · next c hc => exact (hs.elapse _).finishCopy (by simpa using hc)
  case patchFillComplete h =>
    refine of_done ?_ ht
    split
    · exact hs
    · exact (hs.elapse _).finishFill h
  case conversionComplete =>
    refine of_done ?_ ht
    split
    · exact hs
    · exact hs.completeConversion ..
  all_goals simp [frameOf] at hc

theorem exec {c : Instr} (hs : s.pagesSound) (ht : exec c s = .next t) : t.pagesSound := by
  cases hc : frameOf c with
  | none => exact hs.exec_event hc ht
  | some f => exact hs.exec_request hc ht

theorem step (hs : s.pagesSound) (ht : step s = .next t) : t.pagesSound := by
  unfold Machine.step at ht
  split at ht
  · refine exec ?_ ht
    exact hs
  · unfold State.idle at ht
    split at ht
    · exact hs.exec ht
    · obtain rfl := Host.Outcome.next.inj ht
      exact hs.elapse 1

end State.pagesSound
end Sys2Proof.Machine

open Sys2Proof.Machine

/-- Settles O10 (R48): the page law, the law of the copy's owner and the law of pageless BLANK and REPEAT descriptors hold
together after reset, and every step keeps the three. -/
theorem pagesStayAccounted : Obligations.PagesStayAccounted :=
  ⟨State.pagesSound.reset, fun _ _ hacc howned hblank ht => State.pagesSound.step ⟨hacc, howned, hblank⟩ ht⟩
end

section
/-! HEAD_CLEAR (R100, R158): which slot the monitor names when it is asked of a head, and the two answers that a fitted
head's HEAD_CLEAR can get. -/

namespace Sys2Proof.Machine

/-! ### The slot the monitor names -/

theorem AlarmAction.retracts_iff (a : AlarmAction) : a.retracts = true ↔ a = .retract ∨ a = .retractFast := by
  cases a <;> simp [retracts]

theorem Slot.holds_iff_pullsBack (x : Slot) (h : HeadId) : x.holds h = true ↔ x.pullsBack h := by
  simp [holds, pullsBack, masked, AlarmAction.retracts_iff, and_assoc]

/-- The model's search over the list of slots is the library's search for the lowest index. -/
theorem Monitor.holding_eq_find? (m : Monitor) (h : HeadId) :
    m.holding h = Fin.find? fun i => (m.slots.get i).holds h :=
  Fin.find?_eq_find?_finRange.symm

theorem Monitor.holding_eq_some_iff (m : Monitor) (h : HeadId) (i : Fin 16) :
    m.holding h = some i ↔ (m.slots.get i).pullsBack h ∧ ∀ j, j < i → ¬(m.slots.get j).pullsBack h := by
  simp only [holding_eq_find?, Fin.find?_eq_some_iff, ← Slot.holds_iff_pullsBack, Bool.not_eq_true]

theorem Monitor.holding_eq_none_iff (m : Monitor) (h : HeadId) :
    m.holding h = none ↔ ∀ i, ¬(m.slots.get i).pullsBack h := by
  simp only [holding_eq_find?, Fin.find?_eq_none_iff, ← Slot.holds_iff_pullsBack, Bool.not_eq_true]

/-! ### A request that carries a fitted head's number -/

theorem oneByte_u8 {n : Nat} (hn : n < 256) : oneByte (u8 n) = some n := by
  simp [oneByte, u8, rd8, Nat.mod_eq_of_lt hn]

theorem oneByte_u8_head (h : HeadId) : oneByte (u8 h.val) = some h.val := oneByte_u8 (by omega)

theorem headOf_val (h : HeadId) : headOf h.val = some h := dif_pos h.isLt

theorem onFitted_of_fitted {s : State} {h : HeadId} (hfit : s.fitted h = true) (f : HeadId → State × Response) :
    onFitted h.val s f = f h := by
  simp [onFitted, headOf_val, hfit]

/-! ### HEAD_CLEAR -/

/-- R158: the slot that the monitor names is the content of the refusal. -/
theorem takeHeadClear_of_holding {s : State} {h : HeadId} {i : Fin 16} (hfit : s.fitted h = true)
    (hi : s.monitor.holding h = some i) : takeHeadClear h.val s = (s, Response.refused .stillActive (u8 i.val)) := by
  simp [takeHeadClear, onFitted_of_fitted hfit, hi]

/-- R100: with no such slot the inhibit latch is cleared. -/
theorem takeHeadClear_of_not_holding {s : State} {h : HeadId} (hfit : s.fitted h = true)
    (hn : s.monitor.holding h = none) :
    takeHeadClear h.val s = (s.updHead h fun x => { x with inhibit := false }, Response.ok []) := by
  simp [takeHeadClear, onFitted_of_fitted hfit, hn]

/-- A HEAD_CLEAR that is handed does what the HDU does with the card the request has left, and is answered so. -/
theorem exec_headClear {tag : Byte} {h : HeadId} {s t : State} {r : Response}
    (can : s.canHand ⟨0x29, tag, u8 h.val⟩ = true) (ht : takeHeadClear h.val s.handed = (t, r)) :
    exec (.headClear tag (u8 h.val)) s = (t.respond 0x29 tag r).done := by
  change execHeadClear tag (u8 h.val) s = _
  rw [execHeadClear, oneByte_u8_head, State.request_taken s _ _ _ can, ht]

end Sys2Proof.Machine

open Sys2Proof.Machine

/-- Settles O46 (R158, R100): the monitor names the lowest slot that pulls the head back, and HEAD_CLEAR is answered by
what it names. Handing the request over changes neither the monitor nor which heads are fitted. -/
theorem headClearAsksTheMonitor : Obligations.HeadClearAsksTheMonitor := by
  refine ⟨fun m h => ⟨m.holding_eq_some_iff h, m.holding_eq_none_iff h⟩, fun tag h s hfit can => ⟨?_, ?_⟩⟩
  · intro i hi
    exact exec_headClear can (takeHeadClear_of_holding (s := s.handed) hfit hi)
  · intro hn
    exact exec_headClear can (takeHeadClear_of_not_holding (s := s.handed) hfit hn)
end

section
/-! What every operation of the card keeps. The laws that the invariants of O6, O7, O9, O11 and O12 state are kept one by
one (`State.Keeps`), so each operation is gone through once for all of them. An operation of one head (`State.Moves`) also
leaves the board alone, which is everything that no band machinery writes, and spares every other head that no band is
active on. -/

namespace Sys2Proof.Machine

/-! ### Entries of the notice table -/

/-- The entries stand in `noticeIds` at their places in the table of R168. -/
theorem noticeIds_noticeIndex (id : NoticeId) : noticeIds[(noticeIndex id).val]? = some id := by
  cases id <;> decide +revert

theorem noticeIndex_injective : Function.Injective noticeIndex := fun i j same =>
  Option.some.inj ((noticeIds_noticeIndex i).symm.trans (same ▸ noticeIds_noticeIndex j))

theorem Link.entry_setEntry_same (l : Link) (id : NoticeId) (e : NoticeEntry) : (l.setEntry id e).entry id = e :=
  Vector.getElem_set_self (noticeIndex id).isLt

theorem Link.entry_setEntry_ne (l : Link) {id i : NoticeId} (e : NoticeEntry) (ne : i ≠ id) :
    (l.setEntry id e).entry i = l.entry i := by
  refine Vector.getElem_set_ne (noticeIndex id).isLt (noticeIndex i).isLt fun hv => ne ?_
  exact noticeIndex_injective (Fin.ext hv.symm)

theorem Link.entry_post_ne (l : Link) {id i : NoticeId} (c : NoticeContent) (ne : i ≠ id) :
    (l.post id c).entry i = l.entry i := l.entry_setEntry_ne _ ne

/-- The head or axis that an entry is of; the slots and the cylinder have entries of no head. -/
def NoticeId.head? : NoticeId → Option HeadId
  | .alarm _ => none
  | .cylinder => none
  | .axis k => some k
  | .bandEnd h => some h
  | .starving h => some h
  | .progress h => some h
  | .cylStatus => none

/-! ### The laws, one by one -/

/-- The laws over the state that every operation keeps. -/
inductive Law where
  | memories
  | link
  | queues
  | heads
  | axes

/-- What a law says of a card. -/
def Law.holds : Law → State → Prop
  | .memories, s => s.memoriesCanonical
  | .link, s => s.link.withinBounds ∧ s.link.noticesSound
  | .queues, s => s.store.queuesLawful
  | .heads, s => ∀ h, (s.heads.get h).outputsLawful
  | .axes, s => ∀ k, (s.axes.get k).stateLawful

/-- From `s` to `t` each law is kept, whatever becomes of the others. -/
def State.Keeps (s t : State) : Prop := ∀ l : Law, l.holds s → l.holds t

theorem State.Keeps.refl (s : State) : s.Keeps s := fun _ hl => hl

theorem State.Keeps.trans {s t u : State} (a : s.Keeps t) (b : t.Keeps u) : s.Keeps u := fun l hl => b l (a l hl)

/-- From `s` to `t` the board is the same: what no operation of a head writes, with the notice entries of no head. -/
structure State.SameBoard (s t : State) : Prop where
  clock : t.clock = s.clock
  pins : t.pins = s.pins
  machine : t.machine = s.machine
  ctu : t.ctu = s.ctu
  screens : t.screens = s.screens
  curves : t.curves = s.curves
  patches : t.patches = s.patches
  monitor : t.monitor = s.monitor
  pending : t.pending = s.pending
  link : t.link = { s.link with notices := t.link.notices }
  entries : ∀ id : NoticeId, id.head? = none → t.link.entry id = s.link.entry id

theorem State.SameBoard.refl (s : State) : s.SameBoard s := ⟨rfl, rfl, rfl, rfl, rfl, rfl, rfl, rfl, rfl, rfl, fun _ _ => rfl⟩

theorem State.SameBoard.trans {s t u : State} (a : s.SameBoard t) (b : t.SameBoard u) : s.SameBoard u where
  clock := b.clock.trans a.clock
  pins := b.pins.trans a.pins
  machine := b.machine.trans a.machine
  ctu := b.ctu.trans a.ctu
  screens := b.screens.trans a.screens
  curves := b.curves.trans a.curves
  patches := b.patches.trans a.patches
  monitor := b.monitor.trans a.monitor
  pending := b.pending.trans a.pending
  link := by rw [b.link, a.link]
  entries id hid := (b.entries id hid).trans (a.entries id hid)

/-- From `s` to `t` everything that belongs to head g is the same. -/
structure State.SameAt (s t : State) (g : HeadId) : Prop where
  head : t.heads.get g = s.heads.get g
  axis : t.axes.get g = s.axes.get g
  bands : t.bands.get g = s.bands.get g
  buffers : t.buffers.get g = s.buffers.get g
  queue : t.store.queues.get g = s.store.queues.get g
  starved : t.store.starved.get g = s.store.starved.get g
  fill : t.fetch.fills.get g = s.fetch.fills.get g
  entries : ∀ id : NoticeId, id.head? = some g → t.link.entry id = s.link.entry id

theorem State.SameAt.refl (s : State) (g : HeadId) : s.SameAt s g := ⟨rfl, rfl, rfl, rfl, rfl, rfl, rfl, fun _ _ => rfl⟩

theorem State.SameAt.trans {s t u : State} {g : HeadId} (a : s.SameAt t g) (b : t.SameAt u g) : s.SameAt u g where
  head := b.head.trans a.head
  axis := b.axis.trans a.axis
  bands := b.bands.trans a.bands
  buffers := b.buffers.trans a.buffers
  queue := b.queue.trans a.queue
  starved := b.starved.trans a.starved
  fill := b.fill.trans a.fill
  entries id hid := (b.entries id hid).trans (a.entries id hid)

theorem State.SameAt.active {s t : State} {g : HeadId} (a : s.SameAt t g) : t.active g = s.active g :=
  congrArg BandSequencer.active a.bands

/-- An operation of head h: it keeps each law, leaves the board alone, and spares the other heads with no band active. -/
structure State.Moves (h : HeadId) (s t : State) : Prop where
  keeps : s.Keeps t
  board : s.SameBoard t
  spares : ∀ g, g ≠ h → s.active g = none → s.SameAt t g

theorem State.Moves.refl (h : HeadId) (s : State) : s.Moves h s := ⟨.refl s, .refl s, fun g _ _ => .refl s g⟩

theorem State.Moves.trans {h : HeadId} {s t u : State} (a : State.Moves h s t) (b : State.Moves h t u) :
    State.Moves h s u where
  keeps := a.keeps.trans b.keeps
  board := a.board.trans b.board
  spares g ne idle := (a.spares g ne idle).trans (b.spares g ne ((a.spares g ne idle).active.trans idle))

/-- The band laws of one head (R127, R145). -/
def BandSequencer.lawful (q : BandSequencer) : Prop := q.pendingFollows ∧ q.results.length + q.heldCount ≤ 4

/-- From `s` to `t` the band laws of every head are kept. -/
def State.KeepsBands (s t : State) : Prop := ∀ g, (s.bands.get g).lawful → (t.bands.get g).lawful

theorem State.KeepsBands.refl (s : State) : s.KeepsBands s := fun _ hg => hg

theorem State.KeepsBands.trans {s t u : State} (a : s.KeepsBands t) (b : t.KeepsBands u) : s.KeepsBands u :=
  fun g hg => b g (a g hg)

/-- An operation of head h that leaves no band halfway: it keeps the band laws too. -/
structure State.Works (h : HeadId) (s t : State) : Prop where
  moves : State.Moves h s t
  bands : s.KeepsBands t

theorem State.Works.refl (h : HeadId) (s : State) : s.Works h s := ⟨.refl h s, .refl s⟩

theorem State.Works.trans {h : HeadId} {s t u : State} (a : State.Works h s t) (b : State.Works h t u) :
    State.Works h s u := ⟨a.moves.trans b.moves, a.bands.trans b.bands⟩

/-! ### Changes of one part of the card -/

section
variable (s : State) (h : HeadId)

theorem Link.sound_post {l : Link} (hl : l.withinBounds ∧ l.noticesSound) (id : NoticeId) (c : NoticeContent) :
    (l.post id c).withinBounds ∧ (l.post id c).noticesSound := by
  obtain ⟨⟨hin, hout, herr, hcount, hlevel⟩, hsound⟩ := hl
  refine ⟨⟨hin, hout, herr, fun i => ?_, hlevel⟩, fun i => ?_⟩ <;> by_cases e : i = id
  · rw [e, Link.entry_post]; simp only [countUp]; omega
  · rw [Link.entry_post_ne _ _ e]; exact hcount i
  · rw [e, Link.entry_post]; simp [countUp]
  · rw [Link.entry_post_ne _ _ e]; exact hsound i

theorem State.Keeps.post (id : NoticeId) (c : NoticeContent) : s.Keeps (s.post id c) := fun l hl => by
  cases l with
  | link => exact Link.sound_post hl id c
  | _ => exact hl

theorem State.SameBoard.post {id : NoticeId} (hid : id.head? ≠ none) (c : NoticeContent) : s.SameBoard (s.post id c) where
  clock := rfl
  pins := rfl
  machine := rfl
  ctu := rfl
  screens := rfl
  curves := rfl
  patches := rfl
  monitor := rfl
  pending := rfl
  link := rfl
  entries _ hi := Link.entry_post_ne _ _ fun e => hid (e ▸ hi)

theorem State.SameAt.post {id : NoticeId} {g : HeadId} (hid : id.head? ≠ some g) (c : NoticeContent) :
    s.SameAt (s.post id c) g :=
  ⟨rfl, rfl, rfl, rfl, rfl, rfl, rfl, fun _ hi => Link.entry_post_ne _ _ fun e => hid (e ▸ hi)⟩

/-- A posting to an entry of head h. -/
theorem State.Works.post {id : NoticeId} (hid : id.head? = some h) (c : NoticeContent) : State.Works h s (s.post id c) where
  moves :=
    { keeps := .post s id c
      board := .post s (by simp [hid]) c
      spares := fun g ne _ => .post s (by simpa [hid] using Ne.symm ne) c }
  bands := .refl s

theorem State.Works.updHead {f : Head → Head}
    (hf : (s.heads.get h).outputsLawful → (f (s.heads.get h)).outputsLawful) :
    State.Works h s (s.updHead h f) where
  moves :=
    { keeps := fun l hl => by
        cases l with
        | heads =>
          intro g
          by_cases e : g = h
          · subst e; simpa using hf (hl g)
          · simpa [e] using hl g
        | _ => exact hl
      board := ⟨rfl, rfl, rfl, rfl, rfl, rfl, rfl, rfl, rfl, rfl, fun _ _ => rfl⟩
      spares := fun g ne _ => ⟨by simp [ne], rfl, rfl, rfl, rfl, rfl, rfl, fun _ _ => rfl⟩ }
  bands := .refl s

theorem State.Works.updAxis {f : Axis → Axis}
    (hf : (s.axes.get h).stateLawful → (f (s.axes.get h)).stateLawful) :
    State.Works h s (s.updAxis h f) where
  moves :=
    { keeps := fun l hl => by
        cases l with
        | axes =>
          intro g
          by_cases e : g = h
          · subst e; simpa using hf (hl g)
          · simpa [e] using hl g
        | _ => exact hl
      board := ⟨rfl, rfl, rfl, rfl, rfl, rfl, rfl, rfl, rfl, rfl, fun _ _ => rfl⟩
      spares := fun g ne _ => ⟨rfl, by simp [ne], rfl, rfl, rfl, rfl, rfl, fun _ _ => rfl⟩ }
  bands := .refl s

theorem State.Moves.updBands (f : BandSequencer → BandSequencer) : State.Moves h s (s.updBands h f) where
  keeps l hl := by cases l <;> exact hl
  board := ⟨rfl, rfl, rfl, rfl, rfl, rfl, rfl, rfl, rfl, rfl, fun _ _ => rfl⟩
  spares g ne _ := ⟨rfl, rfl, by simp [ne], rfl, rfl, rfl, rfl, fun _ _ => rfl⟩

theorem State.KeepsBands.updBands {f : BandSequencer → BandSequencer}
    (hf : (s.bands.get h).lawful → (f (s.bands.get h)).lawful) : s.KeepsBands (s.updBands h f) := fun g hg => by
  by_cases e : g = h
  · subst e; simpa using hf hg
  · simpa [e] using hg

theorem State.Works.updBands {f : BandSequencer → BandSequencer}
    (hf : (s.bands.get h).lawful → (f (s.bands.get h)).lawful) : State.Works h s (s.updBands h f) :=
  ⟨.updBands s h f, .updBands s h hf⟩

/-- A buffer change that writes tones in canonical form. -/
theorem State.Works.updBuffers {f : LineBuffers → LineBuffers}
    (hf : s.memoriesCanonical → (f (s.buffers.get h)).buf0.tones.wf ∧ (f (s.buffers.get h)).buf1.tones.wf) :
    State.Works h s (s.updBuffers h f) where
  moves :=
    { keeps := fun l hl => by
        cases l with
        | memories =>
          obtain ⟨hdram, hbuf⟩ := hl
          refine ⟨hdram, fun g => ?_⟩
          by_cases e : g = h
          · subst e; simpa using hf ⟨hdram, hbuf⟩
          · simpa [e] using hbuf g
        | _ => exact hl
      board := ⟨rfl, rfl, rfl, rfl, rfl, rfl, rfl, rfl, rfl, rfl, fun _ _ => rfl⟩
      spares := fun g ne _ => ⟨rfl, rfl, rfl, by simp [ne], rfl, rfl, rfl, fun _ _ => rfl⟩ }
  bands := .refl s

/-- A change of the store that writes DRAM in canonical form, keeps the queue law, and touches the queue and the starvation
state of head h alone. -/
theorem State.Works.setStore {u : Store} (dram : s.store.dram.wf → u.dram.wf)
    (queues : s.store.queuesLawful → u.queuesLawful)
    (others : ∀ g, g ≠ h → u.queues.get g = s.store.queues.get g ∧ u.starved.get g = s.store.starved.get g) :
    State.Works h s { s with store := u } where
  moves :=
    { keeps := fun l hl => by
        cases l with
        | memories => exact ⟨dram hl.1, hl.2⟩
        | queues => exact queues hl
        | _ => exact hl
      board := ⟨rfl, rfl, rfl, rfl, rfl, rfl, rfl, rfl, rfl, rfl, fun _ _ => rfl⟩
      spares := fun g ne _ => ⟨rfl, rfl, rfl, rfl, (others g ne).1, (others g ne).2, rfl, fun _ _ => rfl⟩ }
  bands := .refl s

/-- A change of the copy in flight and of head h's fill. -/
theorem State.Works.setFetch {e : FetchEngine} (others : ∀ g, g ≠ h → e.fills.get g = s.fetch.fills.get g) :
    State.Works h s { s with fetch := e } where
  moves :=
    { keeps := fun l hl => by cases l <;> exact hl
      board := ⟨rfl, rfl, rfl, rfl, rfl, rfl, rfl, rfl, rfl, rfl, fun _ _ => rfl⟩
      spares := fun g ne _ => ⟨rfl, rfl, rfl, rfl, rfl, rfl, others g ne, fun _ _ => rfl⟩ }
  bands := .refl s

end

end Sys2Proof.Machine
end

section
/-! What each change of a head, of an axis, of the line buffers and of a track queue keeps. -/

namespace Sys2Proof.Machine

/-! ### Heads (section 6.1, R86 to R97) -/

namespace Head

variable {x : Head}

/-- A head with neither cells, ramp nor settle timer, in the state that its ramp's end brings or its ramp keeps. -/
theorem rampEnd_lawful (depth : x.depth = 0) (cell : x.nextCell = none) (settle : x.settleTimer = none)
    (rest : x.state = .engaging ∨ x.state = .retracting ∧ x.level = 0) : x.rampEnd.1.outputsLawful := by
  rcases rest with hx | ⟨hx, level⟩
  · by_cases long : x.settings.settle = 0 <;> simp [rampEnd, hx, long, outputsLawful, depth, cell, settle]
  · simp [rampEnd, hx, outputsLawful, depth, cell, settle, level]

/-- A ramp starts in a head with neither cells nor a settle timer (R87). -/
theorem startRamp_lawful {state : HeadState} {target : Nat} (depth : x.depth = 0) (cell : x.nextCell = none)
    (settle : x.settleTimer = none) (kind : state = .engaging ∨ state = .retracting ∧ target = 0) (now : Nat) :
    (x.startRamp state target now).1.outputsLawful := by
  unfold startRamp
  dsimp only
  split
  · next same =>
    refine rampEnd_lawful depth cell settle ?_
    rcases kind with rfl | ⟨rfl, rfl⟩
    · exact .inl rfl
    · exact .inr ⟨rfl, same⟩
  · rcases kind with rfl | ⟨rfl, rfl⟩ <;> simp [outputsLawful, depth, cell, settle, rampTo]

theorem outputsLawful.settleTimer_eq_none (hx : x.outputsLawful) (ne : x.state ≠ .settling) : x.settleTimer = none := by
  obtain ⟨-, -, -, -, hsettle⟩ := hx
  simpa using mt hsettle.mp ne

theorem outputsLawful.ramp_eq_none (hx : x.outputsLawful) (ne : x.state ≠ .engaging) (ne' : x.state ≠ .retracting) :
    x.ramp = none := by
  obtain ⟨-, -, hramp, -, -⟩ := hx
  simpa using mt hramp.mp (by simp [ne, ne'])

theorem engage_lawful (hx : x.outputsLawful) (now : Nat) : (x.engage now).1.outputsLawful := by
  have ⟨_, hcell, _, _, _⟩ := hx
  unfold engage
  split
  case h_1 e =>
    obtain ⟨hd, hn⟩ := hcell (by simp [e])
    exact startRamp_lawful hd hn (hx.settleTimer_eq_none (by simp [e])) (.inl rfl) now
  case h_2 e =>
    obtain ⟨hd, hn⟩ := hcell (by simp [e])
    exact startRamp_lawful hd hn (hx.settleTimer_eq_none (by simp [e])) (.inl rfl) now
  all_goals exact hx

theorem retract_lawful (hx : x.outputsLawful) (now : Nat) : (x.retract now).1.outputsLawful := by
  have ⟨_, hcell, _, _, _⟩ := hx
  unfold retract
  split
  case h_1 | h_2 => exact hx
  case h_3 e =>
    obtain ⟨hd, hn⟩ := hcell (by simp [e])
    exact startRamp_lawful hd hn (hx.settleTimer_eq_none (by simp [e])) (.inr ⟨rfl, rfl⟩) now
  case h_4 e =>
    obtain ⟨hd, hn⟩ := hcell (by simp [e])
    exact startRamp_lawful (x := { x with settleTimer := none }) hd hn rfl (.inr ⟨rfl, rfl⟩) now
  case h_5 e =>
    obtain ⟨hd, hn⟩ := hcell (by simp [e])
    exact startRamp_lawful (x := { x with dwellTimer := none }) hd hn (hx.settleTimer_eq_none (by simp [e])) (.inr ⟨rfl, rfl⟩) now
  case h_6 e =>
    exact startRamp_lawful (x := { x with depth := 0, nextCell := none }) rfl rfl (hx.settleTimer_eq_none (by simp [e]))
      (.inr ⟨rfl, rfl⟩) now

theorem dropped_lawful (x : Head) : x.dropped.outputsLawful := by simp [dropped, outputsLawful]

theorem immediate_lawful (hx : x.outputsLawful) : x.immediate.1.outputsLawful := by
  unfold immediate
  split
  · exact hx
  all_goals exact x.dropped_lawful

theorem cut_lawful (hx : x.outputsLawful) : x.cut.outputsLawful := by
  unfold cut
  split
  case h_1 e | h_2 e =>
    have hr := hx.ramp_eq_none (by simp [e]) (by simp [e])
    have hs := hx.settleTimer_eq_none (by simp [e])
    simp [outputsLawful, hr, hs, e]
  all_goals exact hx

theorem uncut_lawful (hx : x.outputsLawful) : x.uncut.outputsLawful := by
  unfold uncut
  split
  case h_1 e =>
    have hr := hx.ramp_eq_none (by simp [e]) (by simp [e])
    have hs := hx.settleTimer_eq_none (by simp [e])
    simp [outputsLawful, hr, hs]
  all_goals exact hx

theorem settleOver_lawful (hx : x.outputsLawful) (e : x.state = .settling) : x.settleOver.outputsLawful := by
  have ⟨_, hcell, _, _, _⟩ := hx
  have hr := hx.ramp_eq_none (by simp [e]) (by simp [e])
  simpa [settleOver, outputsLawful, hr] using hcell (by simp [e])

theorem dwell_lawful (hx : x.outputsLawful) (now : Nat) : (x.dwell now).1.outputsLawful := by
  have ⟨_, hcell, _, _, _⟩ := hx
  unfold dwell
  split
  case h_1 e _ =>
    obtain ⟨hd, hn⟩ := hcell (by simp [e])
    split
    · exact startRamp_lawful hd hn (hx.settleTimer_eq_none (by simp [e])) (.inr ⟨rfl, rfl⟩) now
    · exact hx
  all_goals exact hx

/-- An update of the ramp that a head holds (R88, R89). -/
theorem rampUpdate_lawful {r : Ramp} (hx : x.outputsLawful) (hr : x.ramp = some r) :
    (x.rampUpdate r).1.outputsLawful := by
  have ⟨_, hcell, hramp, htarget, hsettle⟩ := hx
  have hstate : x.state = .engaging ∨ x.state = .retracting := hramp.mp (by simp [hr])
  have hset : x.settleTimer = none := hx.settleTimer_eq_none (by rcases hstate with e | e <;> simp [e])
  obtain ⟨hd, hn⟩ := hcell (by rcases hstate with e | e <;> simp [e])
  unfold rampUpdate
  dsimp only
  split
  · next ends =>
    refine rampEnd_lawful (x := { x with level := _ }) hd hn hset ?_
    exact hstate.imp id fun e => ⟨e, ends.trans (htarget e r hr)⟩
  · refine ⟨fun e => ?_, fun _ => ⟨hd, hn⟩, by simpa using hstate, fun e y hy => ?_, by simpa [hset] using hsettle⟩
    · rcases hstate with e' | e' <;> simp [e'] at e
    · obtain rfl := Option.some.inj hy
      exact htarget e r hr

/-- Cells are delivered in CUTTING alone. -/
theorem delivered_lawful (hx : x.outputsLawful) (e : x.state = .cutting) (i d : Nat) :
    ({ x with nextCell := some i, depth := d } : Head).outputsLawful := by
  obtain ⟨hparked, -, hramp, htarget, hsettle⟩ := hx
  exact ⟨hparked, fun ne => absurd e ne, hramp, htarget, hsettle⟩

theorem elapse_lawful (hx : x.outputsLawful) (n : Nat) : (x.elapse n).outputsLawful := by
  simpa [outputsLawful, elapse] using hx

theorem retire_lawful (hx : x.outputsLawful) (order : Retire) (now : Nat) : (x.retire order now).outputsLawful := by
  cases order with
  | release => exact uncut_lawful hx
  | retract => exact retract_lawful hx now
  | immediate => exact immediate_lawful hx

end Head

/-! ### Axes (section 7.1, R105) -/

namespace Axis

variable {a : Axis}

theorem lost_lawful (a : Axis) (fault : AxisFault) : (a.lost fault).stateLawful := by simp [lost, stateLawful]

/-- What an IDLE axis may hold. -/
theorem stateLawful_of_idle (e : a.state = .idle) (target : a.target = none) (feed : a.feed = none) : a.stateLawful := by
  simp [stateLawful, homed, e, target, feed]

theorem stateLawful.feed_eq_none (ha : a.stateLawful) (ne : a.state ≠ .feeding) : a.feed = none := by
  obtain ⟨-, -, hfeed⟩ := ha
  simpa using mt hfeed ne

theorem foundHome_lawful (ha : a.stateLawful) (ne : a.state ≠ .feeding) : a.foundHome.stateLawful :=
  stateLawful_of_idle rfl rfl (ha.feed_eq_none ne)

theorem startHome_lawful (ha : a.stateLawful) (ne : a.state ≠ .feeding) (now : Nat) : (a.startHome now).stateLawful := by
  simp [startHome, drive, stateLawful, ha.feed_eq_none ne]

theorem rest_lawful (ha : a.stateLawful) (ne : a.state ≠ .feeding) : a.rest.stateLawful :=
  stateLawful_of_idle rfl rfl (ha.feed_eq_none ne)

theorem startSeek_lawful (ha : a.stateLawful) (ne : a.state ≠ .feeding) (target now : Nat) :
    (a.startSeek target now).stateLawful := by
  simp [startSeek, drive, stateLawful, ha.feed_eq_none ne, homed]

theorem takeFor_lawful (a : Axis) (b : Band) (x : Screen) : (a.takeFor b x).stateLawful := by
  simp [takeFor, stateLawful, homed]

/-- A change that leaves the state alone, gives no target, no feed context, and no position to an axis without one. -/
theorem stateLawful.of_same {b : Axis} (ha : a.stateLawful) (state : b.state = a.state)
    (position : b.position.isSome = true → a.position.isSome = true) (target : b.target = a.target)
    (feed : b.feed.isSome = true → a.feed.isSome = true) : b.stateLawful := by
  obtain ⟨hposition, htarget, hfeed⟩ := ha
  have homed : b.homed = a.homed := by simp [Axis.homed, state]
  exact ⟨fun hp => homed ▸ hposition (position hp), fun ht => state ▸ htarget (target ▸ ht),
    fun hf => state ▸ hfeed (feed hf)⟩

theorem drive_lawful (ha : a.stateLawful) (m : Move) : (a.drive m).stateLawful := ha

theorem setStage_lawful (ha : a.stateLawful) (x : Stage) : (a.setStage x).stateLawful :=
  ha.of_same rfl id rfl (by simp [setStage])

theorem disarm_lawful (ha : a.stateLawful) : a.disarm.stateLawful := ha.of_same rfl id rfl (by simp [disarm])

theorem closeRevolution_lawful (ha : a.stateLawful) : a.closeRevolution.stateLawful := by
  unfold closeRevolution
  split
  · exact ha
  · exact ha.of_same rfl (by simp) rfl (by simp)

theorem endOrder_lawful (ha : a.stateLawful) (atBoundary : Bool) : (a.endOrder atBoundary).stateLawful := by
  have hb : (if atBoundary then a.closeRevolution else a).stateLawful := by
    split
    · exact closeRevolution_lawful ha
    · exact ha
  unfold endOrder
  generalize (if atBoundary then a.closeRevolution else a) = b at hb
  dsimp only
  split
  · exact stateLawful_of_idle rfl rfl rfl
  · exact hb.of_same rfl id rfl (by simp)

theorem cutOrder_lawful (ha : a.stateLawful) (isLast : Bool) : (a.cutOrder isLast).stateLawful := by
  have hb := closeRevolution_lawful ha
  unfold cutOrder
  dsimp only
  split
  · exact hb
  · next f hf => split <;> exact hb.of_same rfl id rfl (by simp [hf])

theorem takeCount_lawful (ha : a.stateLawful) (rel now : Nat) : (a.takeCount rel now).stateLawful := by
  unfold takeCount
  split
  · next f _ hf =>
    split
    · split
      · exact ha.of_same rfl id rfl (by simp [hf])
      · exact ha
    · exact ha.of_same rfl (by simp) rfl (by simp [hf])
    · exact ha
  · exact ha

theorem advance_lawful (ha : a.stateLawful) (m : Move) : (a.advance m).stateLawful :=
  ha.of_same rfl (by simp [advance]) rfl id

end Axis

/-! ### Line buffers (R69) -/

/-- The cells of both buffers are in canonical form. -/
def LineBuffers.wf (b : LineBuffers) : Prop := b.buf0.tones.wf ∧ b.buf1.tones.wf

namespace LineBuffers

variable {b : LineBuffers}

theorem standby_wf (hb : b.wf) : b.standby.tones.wf := by
  unfold standby
  split
  · exact hb.1
  · exact hb.2

theorem setStandby_wf (hb : b.wf) {x : LineBuffer} (hx : x.tones.wf) : (b.setStandby x).wf := by
  unfold setStandby
  split
  · exact ⟨hx, hb.2⟩
  · exact ⟨hb.1, hx⟩

theorem swapped_wf (hb : b.wf) : b.swapped.wf := by
  unfold swapped
  split <;> exact hb

theorem filled_wf (hb : b.wf) (t : BufferTrack) (tones : List Byte) : (b.filled t tones).wf :=
  setStandby_wf hb (Memory.writeRun_wf (standby_wf hb) _ _)

theorem loadInPlace_wf (hb : b.wf) (d : Descriptor) : (b.loadInPlace d).wf := by
  unfold loadInPlace
  split
  · exact setStandby_wf hb (Memory.writeRun_wf (standby_wf hb) _ _)
  · exact setStandby_wf hb (standby_wf hb)
  · exact setStandby_wf hb (standby_wf hb)
  · exact hb

end LineBuffers

/-! ### Track queues (R50, R51) -/

/-- A part of a lawful queue is lawful. -/
theorem queueLawful.sublist {p q : List Descriptor} (hq : queueLawful q) (sub : p.Sublist q) : queueLawful p := by
  obtain ⟨rising, size, filling⟩ := hq
  exact ⟨rising.sublist sub, sub.length_le.trans size, (sub.filter _).length_le.trans filling⟩

/-- How many descriptors the queues of the other heads hold. -/
def Store.queuedBut (t : Store) (h : HeadId) : Nat := ((heads4.filter (· ≠ h)).map fun g => (t.queues.get g).length).sum

theorem Store.queued_eq (t : Store) (h : HeadId) : t.queued = (t.queues.get h).length + t.queuedBut h := by
  fin_cases h <;> simp [queued, queuedBut, heads4] <;> omega

/-- A change of one queue and of the pool that leaves the number of descriptors as it is. -/
theorem Store.queuesLawful.change {t u : Store} (ht : t.queuesLawful) {h : HeadId}
    (others : ∀ g, g ≠ h → u.queues.get g = t.queues.get g) (queue : queueLawful (u.queues.get h))
    (pool : u.freeDescriptors + (u.queues.get h).length = t.freeDescriptors + (t.queues.get h).length) :
    u.queuesLawful := by
  obtain ⟨hq, htotal⟩ := ht
  refine ⟨fun g => ?_, ?_⟩
  · by_cases e : g = h
    · exact e ▸ queue
    · exact others g e ▸ hq g
  · have rest : u.queuedBut h = t.queuedBut h := by
      unfold queuedBut
      congr 1
      exact List.map_congr_left fun g hg => by rw [others g (by simpa using (List.mem_filter.mp hg).2)]
    rw [t.queued_eq h] at htotal
    rw [u.queued_eq h]
    omega

theorem mem_insertDescriptor (d e : Descriptor) (q : List Descriptor) : e ∈ insertDescriptor d q ↔ e = d ∨ e ∈ q := by
  rw [(insertDescriptor_perm d q).mem_iff, List.mem_cons]

/-- A descriptor whose number is not in a rising queue joins it in order (R51). -/
theorem insertDescriptor_rising (d : Descriptor) {q : List Descriptor}
    (rising : q.Pairwise fun d e => d.number < e.number) (fresh : ∀ e ∈ q, e.number ≠ d.number) :
    (insertDescriptor d q).Pairwise fun d e => d.number < e.number := by
  induction q with
  | nil => simp [insertDescriptor]
  | cons e q ih =>
    obtain ⟨hall, hrest⟩ := List.pairwise_cons.mp rising
    unfold insertDescriptor
    split
    · next below =>
      refine List.Pairwise.cons (fun x hx => ?_) rising
      rcases List.mem_cons.mp hx with rfl | hx
      · exact below
      · exact below.trans (hall x hx)
    · next above =>
      have hne := fresh e (List.mem_cons_self ..)
      refine List.Pairwise.cons (fun x hx => ?_) (ih hrest fun y hy => fresh y (List.mem_cons_of_mem _ hy))
      rcases (mem_insertDescriptor d x q).mp hx with rfl | hx
      · omega
      · exact hall x hx

theorem insertDescriptor_length (d : Descriptor) (q : List Descriptor) :
    (insertDescriptor d q).length = q.length + 1 := (insertDescriptor_perm d q).length_eq

theorem fillingCount_insertDescriptor (d : Descriptor) (q : List Descriptor) :
    fillingCount (insertDescriptor d q) = fillingCount q + if d.complete then 0 else 1 := by
  unfold fillingCount
  rw [((insertDescriptor_perm d q).filter _).length_eq]
  cases hd : d.complete <;> simp [hd]

end Sys2Proof.Machine
end

section
/-! The operations of the blocks, one after another: what each keeps of the laws, of the board and of the other heads. -/

namespace Sys2Proof.Machine

variable {s t : State} {h : HeadId}

/-! ### Bands of a head, exactly -/

@[simp] theorem State.setActive_setActive (s : State) (h : HeadId) (b c : Option Band) :
    (s.setActive h b).setActive h c = s.setActive h c := by
  simp [State.setActive, State.updBands]

@[simp] theorem State.setActive_get_same (s : State) (h : HeadId) (b : Option Band) :
    (s.setActive h b).bands.get h = { s.bands.get h with active := b } := by simp

theorem State.Works.setActive_some (b : Band) (ha : (s.active h).isSome = true) :
    State.Works h s (s.setActive h (some b)) := by
  refine .updBands s h fun hq => ?_
  obtain ⟨a, ha⟩ := Option.isSome_iff_exists.mp ha
  have ha' : (s.bands.get h).active = some a := ha
  simpa [BandSequencer.lawful, BandSequencer.pendingFollows, BandSequencer.heldCount, ha'] using hq

theorem State.Works.updActive (f : Band → Band) : State.Works h s (s.updActive h f) := by
  refine .updBands s h (f := fun q => { q with active := (s.active h).map f }) fun hq => ?_
  cases ha : s.active h with
  | none =>
    have ha' : (s.bands.get h).active = none := ha
    simpa [BandSequencer.lawful, BandSequencer.pendingFollows, BandSequencer.heldCount, ha'] using hq
  | some a =>
    have ha' : (s.bands.get h).active = some a := ha
    simpa [BandSequencer.lawful, BandSequencer.pendingFollows, BandSequencer.heldCount, ha'] using hq

/-- An operation of a head that a band is active on spares every head that none is active on. -/
theorem State.Works.spares_all {g : HeadId} (w : State.Works g s t) (ha : (s.active g).isSome = true) (k : HeadId)
    (hk : s.active k = none) : s.SameAt t k :=
  w.moves.spares k (fun e => by simp [← e, hk] at ha) hk

theorem State.Works.of_active {g : HeadId} (w : State.Works g s t) (ha : (s.active g).isSome = true) (h : HeadId) :
    State.Works h s t where
  moves := { keeps := w.moves.keeps, board := w.moves.board, spares := fun k _ hk => w.spares_all ha k hk }
  bands := w.bands

/-! ### Starvation, records and reports -/

theorem State.setStarved_works (s : State) (h : HeadId) (x : Bool) : State.Works h s (s.setStarved h x) :=
  .setStore s h id id fun g ne => ⟨rfl, by simp [ne]⟩

theorem State.evalStarvation_works (s : State) (h : HeadId) : State.Works h s (s.evalStarvation h) := by
  unfold State.evalStarvation
  split
  · exact s.setStarved_works h false
  · dsimp only
    split
    · split
      · exact s.setStarved_works h false
      · split
        · exact .refl h s
        · exact (s.setStarved_works h true).trans (.post _ h rfl _)
    · exact s.setStarved_works h false

theorem State.file_moves (s : State) (h : HeadId) (r : ResultRecord) : State.Moves h s (s.file h r) :=
  (State.Moves.updBands s h _).trans (State.Works.post _ h rfl _).moves

theorem State.file_bands (s : State) (h : HeadId) (r : ResultRecord) :
    (s.file h r).bands = s.bands.set h { s.bands.get h with results := (s.bands.get h).results ++ [r] } := rfl

theorem State.KeepsBands.of_set {q : BandSequencer} (hb : t.bands = s.bands.set h q)
    (hq : (s.bands.get h).lawful → q.lawful) : s.KeepsBands t := fun g hg => by
  rw [hb]
  by_cases e : g = h
  · subst e; simpa using hq hg
  · simpa [e] using hg

/-- The pending band's record, and no band in the pending place (R141). -/
theorem State.endPending_bands (s : State) (h : HeadId) (cls : ResultClass) (cause : Cause) :
    (s.endPending h cls cause).bands = s.bands.set h ⟨(s.bands.get h).active, none,
      (s.bands.get h).results ++ (s.bands.get h).waiting.toList.map fun p => s.record h p cls cause none none⟩ := by
  unfold State.endPending
  split
  · next hw =>
    have e : (⟨(s.bands.get h).active, none, (s.bands.get h).results⟩ : BandSequencer) = s.bands.get h := by
      rw [← hw]
    simp [hw, e]
  · next p hw => simp [State.fileNeverActive, State.file_bands, hw]; rfl

theorem State.endPending_works (s : State) (h : HeadId) (cls : ResultClass) (cause : Cause) :
    State.Works h s (s.endPending h cls cause) where
  moves := by
    unfold State.endPending
    split
    · exact .refl h s
    · exact (State.Moves.updBands s h _).trans (State.file_moves _ h _)
  bands := by
    refine .of_set (s.endPending_bands h cls cause) fun hq => ?_
    obtain ⟨-, hload⟩ := hq
    refine ⟨by simp [BandSequencer.pendingFollows], ?_⟩
    simp only [BandSequencer.heldCount, List.length_append, List.length_map, Option.toList_none, List.length_nil] at hload ⊢
    omega

theorem State.dwellIdle_works (s : State) (h : HeadId) : State.Works h s (s.dwellIdle h) := by
  unfold State.dwellIdle
  split
  · exact .refl h s
  · exact .updHead s h fun hx => Head.dwell_lawful hx _

theorem State.onEngaged_works (s : State) (h : HeadId) : State.Works h s (s.onEngaged h) := by
  unfold State.onEngaged
  split
  · exact s.dwellIdle_works h
  · next ha =>
    split
    · exact .setActive_some _ (by simp [ha])
    · exact .refl h s

theorem State.engageOrder_works (s : State) (h : HeadId) : State.Works h s (s.engageOrder h) := by
  have hhead : State.Works h s (s.updHead h fun _ => ((s.heads.get h).engage s.clock).1) :=
    .updHead s h fun hx => Head.engage_lawful hx _
  unfold State.engageOrder
  dsimp only
  split
  · exact hhead.trans (State.onEngaged_works _ h)
  · exact hhead
  · exact hhead

theorem State.onAtStart_works (s : State) (h : HeadId) : State.Works h s (s.onAtStart h) := by
  unfold State.onAtStart
  split
  · exact .refl h s
  · next ha =>
    split
    · exact (State.Works.setActive_some _ (by simp [ha])).trans (State.engageOrder_works _ h)
    · exact .refl h s

theorem State.positionOrder_works (s : State) (h : HeadId) : State.Works h s (s.positionOrder h) := by
  unfold State.positionOrder
  dsimp only
  split
  · exact .refl h s
  · split
    · split
      · exact (State.Works.updAxis s h fun ha => Axis.setStage_lawful ha _).trans (State.onAtStart_works _ h)
      · exact .updAxis s h fun ha => Axis.drive_lawful ha _
    · exact s.onAtStart_works h
    · exact .refl h s

theorem State.onParked_works (s : State) (h : HeadId) : State.Works h s (s.onParked h) := by
  unfold State.onParked
  split
  · split
    · exact s.positionOrder_works h
    · exact .refl h s
  · exact .refl h s
  · exact .refl h s

theorem State.onReport_works (s : State) (h : HeadId) (r : HeadReport) : State.Works h s (s.onReport h r) := by
  cases r with
  | none => exact .refl h s
  | engaged => exact s.onEngaged_works h
  | parked => exact s.onParked_works h

theorem State.retractOrder_works (s : State) (h : HeadId) : State.Works h s (s.retractOrder h) :=
  (State.Works.updHead s h fun hx => Head.retract_lawful hx _).trans (State.onReport_works _ h _)

theorem State.immediateRetract_works (s : State) (h : HeadId) : State.Works h s (s.immediateRetract h) :=
  (State.Works.updHead s h fun hx => Head.immediate_lawful hx).trans (State.onReport_works _ h _)

/-! ### The beginning of a band (R128, R129) -/

/-- The phase and the orders of R129, from the card on which the band is already held as active. -/
theorem State.beginPhase_works (s : State) (h : HeadId) (b : Band) (inPlace : Bool) :
    State.Works h (s.setActive h (some b)) (s.beginPhase h b inPlace) := by
  have henter : ∀ p, State.Works h (s.setActive h (some b)) (s.enter h b p) := fun p => by
    have := State.Works.setActive_some (s := s.setActive h (some b)) (h := h) { b with phase := p } (by simp)
    simpa [State.enter] using this
  unfold State.beginPhase
  split
  · exact (henter _).trans (.updHead _ h fun hx => hx)
  · exact ((henter _).trans (State.positionOrder_works _ h)).trans (State.engageOrder_works _ h)
  iterate 4 exact (henter _).trans (State.engageOrder_works _ h)
  · exact (henter _).trans (State.positionOrder_works _ h)
  iterate 4 exact (henter _).trans (State.retractOrder_works _ h)
  · exact henter _

theorem State.prepareBand_works (s : State) (h : HeadId) (b : Band) :
    State.Works h (s.setActive h (some b)) (s.prepareBand h b) := by
  have hhead := State.Works.updHead (s.setActive h (some b)) h
    (f := fun y => y.prepare (PlacementContext.build b.screen (s.screen b.screen) (s.ctu.lastPeriod.getD 0))
      (DepthTable.build b.curve (s.curve b.curve) y.settings.calibration)) fun hx => hx
  have haxis := hhead.trans (.updAxis _ h (f := fun a => a.takeFor b (s.screen b.screen)) fun _ =>
    Axis.takeFor_lawful _ _ _)
  have hphase := State.beginPhase_works
    ((s.updHead h fun y => y.prepare (PlacementContext.build b.screen (s.screen b.screen) (s.ctu.lastPeriod.getD 0))
      (DepthTable.build b.curve (s.curve b.curve) y.settings.calibration)).updAxis h fun a =>
        a.takeFor b (s.screen b.screen)) h b (decide ((s.axes.get h).pos = b.start))
  exact haxis.trans hphase

/-! ### The end of a band (R140, R141) -/

theorem State.closeBand_moves (s : State) (h : HeadId) (b : Band) (cls : ResultClass) (cause : Cause)
    (detail : Option CauseDetail) (order : Retire) (atBoundary : Bool) :
    State.Moves h s (s.closeBand h b cls cause detail order atBoundary) :=
  ((((State.Works.updBuffers s h fun hm => hm.2 h).trans (State.evalStarvation_works _ h)).trans
    (.updHead _ h fun hx => Head.retire_lawful hx _ _)).trans
    (.updAxis _ h fun ha => Axis.endOrder_lawful ha _)).moves.trans (State.file_moves _ h _)

/-- The evaluation of a head's starvation writes its starvation state and its STARVING entry alone (R66). -/
theorem State.evalStarvation_eq (s : State) (h : HeadId) : ∃ x notices, s.evalStarvation h = { s with
    store := { s.store with starved := s.store.starved.set h x }, link := { s.link with notices := notices } } := by
  unfold State.evalStarvation
  split
  · exact ⟨_, _, rfl⟩
  · dsimp only
    split
    · split
      · exact ⟨_, _, rfl⟩
      · split
        · exact ⟨s.store.starved.get h, _, by rw [Quad.set_get]⟩
        · exact ⟨_, _, rfl⟩
    · exact ⟨_, _, rfl⟩

@[simp] theorem State.evalStarvation_axes (s : State) (h : HeadId) : (s.evalStarvation h).axes = s.axes := by
  obtain ⟨x, l, e⟩ := s.evalStarvation_eq h; rw [e]
@[simp] theorem State.evalStarvation_heads (s : State) (h : HeadId) : (s.evalStarvation h).heads = s.heads := by
  obtain ⟨x, l, e⟩ := s.evalStarvation_eq h; rw [e]
@[simp] theorem State.evalStarvation_buffers (s : State) (h : HeadId) : (s.evalStarvation h).buffers = s.buffers := by
  obtain ⟨x, l, e⟩ := s.evalStarvation_eq h; rw [e]
@[simp] theorem State.evalStarvation_fetch (s : State) (h : HeadId) : (s.evalStarvation h).fetch = s.fetch := by
  obtain ⟨x, l, e⟩ := s.evalStarvation_eq h; rw [e]
@[simp] theorem State.evalStarvation_ctu (s : State) (h : HeadId) : (s.evalStarvation h).ctu = s.ctu := by
  obtain ⟨x, l, e⟩ := s.evalStarvation_eq h; rw [e]
@[simp] theorem State.evalStarvation_clock (s : State) (h : HeadId) : (s.evalStarvation h).clock = s.clock := by
  obtain ⟨x, l, e⟩ := s.evalStarvation_eq h; rw [e]

/-- The record that a band's end adds, with the position that the axis has after its end order (R144). -/
theorem State.closeBand_bands (s : State) (h : HeadId) (b : Band) (cls : ResultClass) (cause : Cause)
    (detail : Option CauseDetail) (order : Retire) (atBoundary : Bool) :
    (s.closeBand h b cls cause detail order atBoundary).bands = s.bands.set h { s.bands.get h with
      results := (s.bands.get h).results ++
        [s.record h b cls cause detail ((s.axes.get h).endOrder atBoundary).reported] } := by
  simp [State.closeBand, State.file_bands, State.record, State.evalStarvation_bands, State.timestamp]

/-- The end of a band leaves room for its record; the pending band's record follows it (R142). -/
theorem State.abortClosed_moves (s : State) (h : HeadId) (b : Band) (cause : Cause) (detail : Option CauseDetail)
    (order : Retire) (atBoundary : Bool) : State.Moves h s (s.abortClosed h b cause detail order atBoundary) :=
  ((s.closeBand_moves h b _ _ _ _ _).trans (State.endPending_works _ h _ _).moves).trans (State.dwellIdle_works _ h).moves

theorem State.dwellIdle_bands (s : State) (h : HeadId) : (s.dwellIdle h).bands = s.bands := by
  unfold State.dwellIdle
  split <;> rfl

/-- An active band's end leaves the band laws: its record takes the place that its band held. -/
theorem State.abortClosed_bands (s : State) (h : HeadId) (b c : Band) (cause : Cause) (detail : Option CauseDetail)
    (order : Retire) (atBoundary : Bool) :
    (s.setActive h (some c)).KeepsBands ((s.setActive h none).abortClosed h b cause detail order atBoundary) := by
  intro g hg
  rw [State.abortClosed, State.dwellIdle_bands, State.endPending_bands, State.closeBand_bands]
  by_cases e : g = h
  · subst e
    obtain ⟨-, hload⟩ := hg
    refine ⟨by simp [BandSequencer.pendingFollows], ?_⟩
    simp [BandSequencer.heldCount] at hload ⊢
    omega
  · simpa [e] using hg

/-! ### Grants (R74 to R78) -/

/-- The front descriptor of a queue leaves it (R60). -/
theorem State.grantFront_works {d : Descriptor} (hd : (s.store.queues.get h).head? = some d) :
    State.Works h s { s with store := s.store.grantFront h } := by
  obtain ⟨q, hq⟩ := List.head?_eq_some_iff.mp hd
  refine .setStore s h id (fun hl => ?_) fun g ne => ⟨by simp [Store.grantFront, ne], rfl⟩
  refine hl.change (h := h) (fun g ne => by simp [Store.grantFront, ne]) ?_ ?_
  · simpa [Store.grantFront] using (hl.1 h).sublist (List.tail_sublist _)
  · simp [Store.grantFront, hq]; omega

theorem State.giveBack_works (s : State) (h : HeadId) (pages : List Nat) :
    State.Works h s { s with store := s.store.giveBack pages } :=
  .setStore s h id id fun _ _ => ⟨rfl, rfl⟩

/-- A copy's end or stop gives its pages back and frees the port (R76, R79). -/
theorem State.releaseCopy_works (s : State) (h : HeadId) (c : Copy) : State.Works h s
    { s with store := s.store.giveBack c.pages, fetch := { s.fetch with copy := none } } :=
  (State.giveBack_works s h c.pages).trans (.setFetch _ h (e := { s.fetch with copy := none }) fun _ _ => rfl)

theorem State.setStandby_works (s : State) (h : HeadId) (x : BufferState) : State.Works h s (s.setStandby h x) :=
  .updBuffers s h fun hm => LineBuffers.setStandby_wf (hm.2 h) (LineBuffers.standby_wf (hm.2 h))

theorem State.setActive_eq_self {b : Option Band} (ha : s.active h = b) : s.setActive h b = s := by
  subst ha
  exact congrArg (fun q => { s with bands := q }) (Quad.set_get s.bands h)

/-- The end of an active band that has no copy or fill in flight. -/
theorem State.abortClosed_works {b c : Band} (hb : s.active h = some c) (cause : Cause) (detail : Option CauseDetail)
    (order : Retire) (atBoundary : Bool) :
    State.Works h s ((s.setActive h none).abortClosed h b cause detail order atBoundary) where
  moves := (State.Moves.updBands s h _).trans (State.abortClosed_moves _ h ..)
  bands := by
    have hends := s.abortClosed_bands h b c cause detail order atBoundary
    rwa [State.setActive_eq_self hb] at hends

theorem State.refuseGrant_works {d : Descriptor} (hd : (s.store.queues.get h).head? = some d) :
    State.Works h s (s.refuseGrant h d) := by
  have hleft := (State.grantFront_works hd).trans (State.giveBack_works _ h d.pages)
  unfold State.refuseGrant
  dsimp only
  split
  · exact hleft
  · next b hb => exact hleft.trans (State.abortClosed_works hb ..)

theorem State.startCopy_works {d : Descriptor} (hd : (s.store.queues.get h).head? = some d) :
    State.Works h s (s.startCopy h d) := by
  have hgranted := State.grantFront_works hd
  have hcopy := hgranted.trans (.setFetch _ h (e := { s.fetch with
    copy := some ⟨h, d.number, d.n, d.pages, s.timestamp, s.clock + ceilDiv d.n 256⟩ }) fun _ _ => rfl)
  exact (hcopy.trans (State.setStandby_works _ h _)).trans (State.evalStarvation_works _ h)

/-- A head that asks for the port holds an active band, and the descriptor it asks for is the front of its queue. -/
theorem State.asking_some {d : Descriptor} (hd : s.asking h = some d) :
    (s.store.queues.get h).head? = some d ∧ (s.active h).isSome = true := by
  obtain ⟨he, -⟩ := Option.filter_eq_some_iff.mp hd
  obtain ⟨hfront, b, m, hw⟩ := State.eligibleFor_some he
  obtain ⟨hactive, -⟩ := State.wants_some hw
  exact ⟨hfront, by simp [hactive]⟩

/-- The arbiter works for heads that a band is active on, and spares all others (R74, R75). -/
theorem State.arbitrateUpTo_works (s : State) (tries : Nat) (h : HeadId) :
    State.Works h s (s.arbitrateUpTo tries) ∧ ∀ g, s.active g = none → s.SameAt (s.arbitrateUpTo tries) g := by
  induction tries generalizing s with
  | zero => exact ⟨.refl h s, fun g _ => .refl s g⟩
  | succ tries ih =>
    unfold State.arbitrateUpTo
    split
    · exact ⟨.refl h s, fun g _ => .refl s g⟩
    · exact ⟨.refl h s, fun g _ => .refl s g⟩
    · next k hfree _ =>
      split
      · exact ⟨.refl h s, fun g _ => .refl s g⟩
      · next d hd =>
        obtain ⟨hfront, hactive⟩ := State.asking_some hd
        split
        · have hcopy := State.startCopy_works hfront
          exact ⟨hcopy.of_active hactive h, hcopy.spares_all hactive⟩
        · have hrefused := State.refuseGrant_works hfront
          obtain ⟨hrest, hspares⟩ := ih (s.refuseGrant k d)
          refine ⟨(hrefused.of_active hactive h).trans hrest, fun g hg => ?_⟩
          have hsame := hrefused.spares_all hactive g hg
          exact hsame.trans (hspares g (hsame.active.trans hg))

theorem State.arbitrate_works (s : State) (h : HeadId) : State.Works h s s.arbitrate := (s.arbitrateUpTo_works 5 h).1

/-- The arbiter's decision leaves a head that no band is active on alone. -/
theorem State.arbitrate_sameAt {g : HeadId} (hg : s.active g = none) : s.SameAt s.arbitrate g :=
  (s.arbitrateUpTo_works 5 g).2 g hg

theorem State.grantInPlace_works {d : Descriptor} (he : s.eligibleFor h = some d) :
    State.Works h s (s.grantInPlace h d) := by
  obtain ⟨hd, -⟩ := State.eligibleFor_some he
  have hgranted := State.grantFront_works hd
  have hload : ∀ u : State, State.Works h u ((u.updBuffers h fun b => b.loadInPlace d).evalStarvation h) := fun u =>
    (State.Works.updBuffers u h (f := fun b => b.loadInPlace d) fun hm => LineBuffers.loadInPlace_wf (hm.2 h) d).trans (State.evalStarvation_works _ h)
  unfold State.grantInPlace
  split
  · dsimp only
    split
    · exact (hgranted.trans (.updActive _)).trans (hload _)
    · exact hgranted.trans (hload _)
  · exact State.refuseGrant_works hd

/-! ### Looks and fills (R61, R72, R83) -/

theorem State.discardStale_works (s : State) (h : HeadId) (m : Nat) : State.Works h s (s.discardStale h m) := by
  unfold State.discardStale
  dsimp only
  split
  · exact .refl h s
  · refine (State.Works.trans ?_ (.updActive _)).trans (State.evalStarvation_works _ h)
    refine .setStore s h id (fun hl => ?_) fun g ne => ⟨by simp [Store.giveBack, Store.setQueue, ne], rfl⟩
    have hparts := congrArg List.length (staleFront_append_drop m (s.store.queues.get h))
    refine hl.change (h := h) (fun g ne => by simp [Store.giveBack, Store.setQueue, ne]) ?_ ?_
    · simpa [Store.giveBack, Store.setQueue] using (hl.1 h).sublist (List.drop_sublist _ _)
    · simp only [List.length_append] at hparts
      simp only [Store.giveBack, Store.setQueue, Quad.get_set_same]
      omega

theorem State.look_works (s : State) (h : HeadId) (m : Nat) : State.Works h s (s.look h m) := by
  have hfresh := s.discardStale_works h m
  unfold State.look
  dsimp only
  split
  · exact hfresh
  · next d he =>
    split
    · exact hfresh.trans (State.arbitrate_works _ h)
    · exact hfresh.trans (State.grantInPlace_works he)
    · exact hfresh.trans (State.grantInPlace_works he)

theorem State.setFill_works (s : State) (h : HeadId) (x : Option Nat) :
    State.Works h s { s with fetch := { s.fetch with fills := s.fetch.fills.set h x } } :=
  .setFetch s h fun g ne => by simp [ne]

theorem State.startFill_works (s : State) (h : HeadId) (m : Nat) : State.Works h s (s.startFill h m) :=
  ((s.setFill_works h _).trans (State.setStandby_works _ h _)).trans (State.evalStarvation_works _ h)

theorem State.service_works (s : State) (h : HeadId) : State.Works h s (s.service h) := by
  have hfed := s.evalStarvation_works h
  unfold State.service
  dsimp only
  split
  · exact hfed
  · split
    · exact hfed.trans (State.look_works _ h _)
    · exact hfed.trans (State.startFill_works _ h _)

/-! ### Bands that end, begin and cut -/

theorem State.stopFetch_works (s : State) (h : HeadId) : State.Works h s (s.stopFetch h) := by
  have hfill := s.setFill_works h none
  unfold State.stopFetch
  dsimp only
  split
  · exact hfill
  · next c _ =>
    have hreleased := State.releaseCopy_works
      { s with fetch := { s.fetch with fills := s.fetch.fills.set h none } } h c
    exact (hfill.trans hreleased).trans (State.arbitrate_works _ h)

/-- Stopping the copy or fill of a head that no band is active on changes nothing of the head but its fill. -/
theorem State.stopFetch_bands (hn : s.active h = none) : (s.stopFetch h).bands.get h = s.bands.get h := by
  unfold State.stopFetch
  dsimp only
  split
  · rfl
  · refine (State.arbitrate_sameAt ?_).bands.trans rfl
    exact hn

theorem State.stopFetch_setActive (s : State) (h : HeadId) :
    ((s.setActive h none).stopFetch h).bands.get h = { s.bands.get h with active := none } := by
  rw [State.stopFetch_bands (s.setActive_active h none), State.setActive_get_same]

/-- The band laws around the stop of an ending band's fetch: on the way its place is empty, and another operation that would
keep the laws with the band in its place closes the gap. -/
theorem State.KeepsBands.around {b : Band} {u : State} (ha : s.active h = some b)
    (close : (((s.setActive h none).stopFetch h).setActive h (some b)).KeepsBands u) : s.KeepsBands u := by
  intro g hg
  apply close
  by_cases e : g = h
  · subst e
    rw [State.setActive_get_same, State.stopFetch_setActive]
    simpa [show some b = (s.bands.get g).active from ha.symm] using hg
  · have hother := ((State.stopFetch_works (s.setActive h none) h).bands g)
    simp only [State.setActive_bands, e, Quad.get_set_ne, ne_eq, not_false_eq_true] at hother ⊢
    exact hother hg

theorem State.abortActive_works (s : State) (h : HeadId) (cause : Cause) (detail : Option CauseDetail) (order : Retire)
    (atBoundary : Bool) : State.Works h s (s.abortActive h cause detail order atBoundary) := by
  unfold State.abortActive
  split
  · exact .refl h s
  · next b hb =>
    refine ⟨((State.Moves.updBands s h _).trans (State.stopFetch_works _ h).moves).trans
      (State.abortClosed_moves _ h ..), .around hb ?_⟩
    have hends := State.abortClosed_bands ((s.setActive h none).stopFetch h) h (s.withDiscard h b) b cause detail order
      atBoundary
    have hidle : ((s.setActive h none).stopFetch h).active h = none := by
      rw [State.active, State.stopFetch_setActive s h]
    rwa [State.setActive_eq_self hidle] at hends

theorem State.limitStop_works (s : State) (k : HeadId) : State.Works k s (s.limitStop k) :=
  (State.Works.updAxis s k fun _ => Axis.lost_lawful _ _).trans (.post _ k rfl _)

theorem State.limitFault_works (s : State) (k : HeadId) : State.Works k s (s.limitFault k) := by
  unfold State.limitFault
  split
  · exact (s.limitStop_works k).trans (State.abortActive_works _ k ..)
  · exact s.limitStop_works k

theorem State.limitCheck_works (s : State) (k : HeadId) : State.Works k s (s.limitCheck k) := by
  unfold State.limitCheck
  split
  · exact s.limitFault_works k
  · exact .refl k s

theorem State.afterActivation_works (s : State) (h : HeadId) : State.Works h s (s.afterActivation h) :=
  (s.limitCheck_works h).trans (State.service_works _ h)

/-- An activation, from the card on which the band is already held as active. -/
theorem State.activate_works (s : State) (h : HeadId) (b : Band) :
    State.Works h (s.setActive h (some b)) (s.activate h b) :=
  (s.prepareBand_works h b).trans (State.afterActivation_works _ h)

/-- The pending band that is handed on takes the place of the band that has ended, or a record its own place. -/
theorem State.handOn_moves (s : State) (h : HeadId) : State.Moves h s (s.handOn h) := by
  unfold State.handOn
  split
  · exact .refl h s
  · dsimp only
    split
    · exact (State.Moves.updBands s h _).trans (State.file_moves _ h _)
    · exact (State.Moves.updBands s h _).trans ((State.Moves.updBands _ h _).trans (State.activate_works _ h _).moves)

theorem State.handOn_bands {u : State} (hu : ∀ g, g ≠ h → (u.bands.get g).lawful → (s.bands.get g).lawful)
    (room : (u.bands.get h).lawful → (s.bands.get h).results.length + (s.bands.get h).heldCount ≤ 4) :
    u.KeepsBands (s.handOn h) := by
  unfold State.handOn
  split
  · next hw =>
    intro g hg
    by_cases e : g = h
    · subst e; exact ⟨by simp [BandSequencer.pendingFollows, hw], room hg⟩
    · exact hu g e hg
  · next p hw =>
    dsimp only
    split
    · intro g hg
      rw [State.fileNeverActive, State.file_bands]
      by_cases e : g = h
      · subst e
        have hroom := room hg
        refine ⟨by simp [BandSequencer.pendingFollows], ?_⟩
        simp [BandSequencer.heldCount, hw] at hroom ⊢
        omega
      · simpa [e] using hu g e hg
    · intro g hg
      apply (State.activate_works _ h p).bands
      by_cases e : g = h
      · subst e
        have hroom := room hg
        refine ⟨by simp [BandSequencer.pendingFollows], ?_⟩
        simp [BandSequencer.heldCount, hw] at hroom ⊢
        omega
      · simpa [e] using hu g e hg

theorem State.finishActive_works (s : State) (h : HeadId) (cls : ResultClass) (cause : Cause) (atBoundary : Bool) :
    State.Works h s (s.finishActive h cls cause atBoundary) := by
  unfold State.finishActive
  split
  · exact .refl h s
  · next b hb =>
    refine ⟨((((State.Moves.updBands s h _).trans (State.stopFetch_works _ h).moves).trans
      (State.closeBand_moves _ h ..)).trans (State.handOn_moves _ h)).trans (State.dwellIdle_works _ h).moves,
      State.KeepsBands.trans (.around hb ?_) (State.dwellIdle_works _ h).bands⟩
    refine State.handOn_bands (fun g e hg => ?_) fun hg => ?_
    · rw [State.closeBand_bands]
      simpa [e] using hg
    · obtain ⟨-, hload⟩ := hg
      rw [State.closeBand_bands]
      rw [State.setActive_get_same] at hload
      have hidle : (((s.setActive h none).stopFetch h).bands.get h).active = none := by
        rw [State.stopFetch_setActive s h]
      simp [BandSequencer.heldCount, hidle] at hload ⊢
      omega

theorem State.cutNext_works {b : Band} (ha : (s.active h).isSome = true) : State.Works h s (s.cutNext h b) :=
  ((((((State.Works.updBuffers s h fun hm => LineBuffers.swapped_wf (hm.2 h)).trans
    (.updHead _ h fun hx => Head.cut_lawful hx)).trans (.updAxis _ h fun hx => Axis.cutOrder_lawful hx _)).trans
    (.setActive_some _ ha)).trans (.post _ h rfl _))).trans (State.service_works _ h)

theorem State.waitSyncBoundary_works {b : Band} (ha : (s.active h).isSome = true) :
    State.Works h s (s.waitSyncBoundary h b) := by
  unfold State.waitSyncBoundary
  split
  · exact .refl h s
  · split
    · exact State.cutNext_works ha
    · split
      · exact .setActive_some _ ha
      · exact s.abortActive_works h ..

theorem State.suspend_works {b : Band} (ha : (s.active h).isSome = true) : State.Works h s (s.suspend h b) :=
  (((State.Works.setActive_some _ ha).trans (.updHead _ h fun hx => Head.uncut_lawful hx)).trans
    (.updAxis _ h fun hx => Axis.disarm_lawful hx)).trans (.post _ h rfl _)

theorem State.cuttingBoundary_works {b : Band} (ha : (s.active h).isSome = true) :
    State.Works h s (s.cuttingBoundary h b) := by
  have hcounted := State.Works.setActive_some (b.counted (s.trackCut h)) ha
  have ha' : ((s.setActive h (some (b.counted (s.trackCut h)))).active h).isSome = true := by simp
  unfold State.cuttingBoundary
  dsimp only
  split
  · exact hcounted.trans (State.abortActive_works _ h ..)
  split
  · exact hcounted.trans (State.finishActive_works _ h ..)
  split
  · exact hcounted.trans (State.finishActive_works _ h ..)
  split
  · exact hcounted.trans (State.cutNext_works ha')
  split
  · exact hcounted.trans (State.suspend_works ha')
  · exact hcounted.trans (State.abortActive_works _ h ..)

theorem State.suspendedBoundary_works {b : Band} (ha : (s.active h).isSome = true) :
    State.Works h s (s.suspendedBoundary h b) := by
  unfold State.suspendedBoundary
  split
  · exact State.cutNext_works ha
  · dsimp only
    split
    · exact (State.Works.setActive_some _ ha).trans (State.abortActive_works _ h ..)
    · exact (State.Works.setActive_some _ ha).trans (.post _ h rfl _)

theorem State.boundary_works (s : State) (h : HeadId) : State.Works h s (s.boundary h) := by
  unfold State.boundary
  split
  · exact .refl h s
  · next hb =>
    split
    · exact State.waitSyncBoundary_works (by simp [hb])
    · exact State.cuttingBoundary_works (by simp [hb])
    · exact State.suspendedBoundary_works (by simp [hb])
    iterate 3 exact .refl h s

theorem State.deliverCells_works (s : State) (h : HeadId) : State.Works h s (s.deliverCells h) := by
  unfold State.deliverCells
  dsimp only
  split
  · next e _ _ _ => exact (State.Works.updHead s h fun hx => Head.delivered_lawful hx e _ _).trans (.updActive _)
  · exact .refl h s

theorem State.present_works (s : State) (h : HeadId) : State.Works h s (s.present h) := by
  unfold State.present
  exact (s.deliverCells_works h).trans (.updAxis _ h fun ha => Axis.takeCount_lawful ha _ _)

/-! ### Events of other blocks -/

theorem State.timingLoss_works (s : State) (h : HeadId) (e : CylEvent) : State.Works h s (s.timingLoss h e) := by
  unfold State.timingLoss
  split
  · exact .refl h s
  · next hb =>
    split
    · exact s.abortActive_works h ..
    · exact s.abortActive_works h ..
    · exact .setActive_some _ (by simp [hb])
    iterate 3 exact .refl h s

theorem State.speedEvent_works (s : State) (h : HeadId) : State.Works h s (s.speedEvent h) := by
  unfold State.speedEvent
  split
  · exact .refl h s
  · split
    · exact s.abortActive_works h ..
    · exact s.abortActive_works h ..
    iterate 4 exact .refl h s

theorem State.readyLost_works (s : State) (h : HeadId) : State.Works h s (s.readyLost h) :=
  ((s.immediateRetract_works h).trans (.updAxis _ h fun _ => Axis.lost_lawful _ _)).trans (State.abortActive_works _ h ..)

theorem State.alarmOn_works (s : State) (slot : Nat) (fast : Bool) (h : HeadId) :
    State.Works h s (s.alarmOn slot fast h) := by
  have hinhibit : ∀ u : State, State.Works h u (u.updHead h fun x => { x with inhibit := true }) := fun u =>
    .updHead u h fun hx => hx
  cases fast with
  | true => exact ((s.immediateRetract_works h).trans (hinhibit _)).trans (State.abortActive_works _ h ..)
  | false => exact ((s.retractOrder_works h).trans (hinhibit _)).trans (State.abortActive_works _ h ..)

theorem State.unfit_works (s : State) (h : HeadId) : State.Works h s (s.unfit h) :=
  (s.immediateRetract_works h).trans (.updAxis _ h fun _ => Axis.lost_lawful _ _)

theorem State.limitOnEntry_works (s : State) (k : HeadId) : State.Works k s (s.limitOnEntry k) := by
  unfold State.limitOnEntry
  split
  · exact s.limitStop_works k
  · exact .refl k s

/-! ### Timers, moves, and the ends of copies and fills -/

theorem State.rampStep_works {r : Ramp} (hr : (s.heads.get h).ramp = some r) : State.Works h s (s.rampStep h r) :=
  (State.Works.updHead s h fun hx => Head.rampUpdate_lawful hx hr).trans (State.onReport_works _ h _)

theorem State.postAxis_works (s : State) (k : HeadId) (e : AxisEvent) : State.Works k s (s.postAxis k e) :=
  .post s k rfl _

theorem State.homingStep_works (s : State) (k : HeadId) (m : Move) : State.Works k s (s.homingStep k m) := by
  have hstep : State.Works k s (s.updAxis k fun a => { a with
      homeSteps := some ((s.axes.get k).homeSteps.getD 0 + 1), move := some m.stepped }.pulse 1) := .updAxis s k id
  unfold State.homingStep
  dsimp only
  split
  · exact (hstep.trans (.updAxis _ k fun _ => Axis.lost_lawful _ _)).trans (State.postAxis_works _ k _)
  · exact hstep

theorem State.seekStep_works {k : HeadId} (hk : (s.axes.get k).state = .seeking) (m : Move) :
    State.Works k s (s.seekStep k m) := by
  have hstep : State.Works k s (s.updAxis k fun a => a.advance m) := .updAxis s k fun ha => Axis.advance_lawful ha m
  unfold State.seekStep
  dsimp only
  split
  · refine (hstep.trans (.updAxis _ k fun ha => Axis.rest_lawful ha ?_)).trans (State.postAxis_works _ k _)
    simp [Axis.advance, hk]
  · exact hstep

theorem State.feedStep_works (s : State) (k : HeadId) (m : Move) : State.Works k s (s.feedStep k m) := by
  have hstep : State.Works k s (s.updAxis k fun a => a.advance m) := .updAxis s k fun ha => Axis.advance_lawful ha m
  have hhold : State.Works k s ((s.updAxis k fun a => a.advance m).updAxis k fun a => a.setStage .hold) :=
    hstep.trans (.updAxis _ k fun ha => Axis.setStage_lawful ha _)
  unfold State.feedStep
  dsimp only
  split
  · split
    · exact hhold
    · exact hhold.trans (State.onAtStart_works _ k)
  · exact hstep

theorem State.moveStep_works (s : State) (k : HeadId) (m : Move) : State.Works k s (s.moveStep k m) := by
  unfold State.moveStep
  split
  · exact s.homingStep_works k m
  · next e => exact State.seekStep_works e m
  · exact s.feedStep_works k m
  · exact .refl k s
  · exact .refl k s

theorem State.homeFound_works (s : State) (k : HeadId) : State.Works k s (s.homeFound k) := by
  unfold State.homeFound
  split
  · next e =>
    exact (State.Works.updAxis s k fun ha => Axis.foundHome_lawful ha (by simp [e])).trans (State.postAxis_works _ k _)
  · exact .refl k s

theorem State.finishCopy_works (s : State) (c : Copy) : State.Works c.head s (s.finishCopy c) := by
  have hfilled := State.Works.updBuffers s c.head
    (f := fun b => b.filled ⟨c.track, .data, c.n⟩ (readTones s.store.dram c.pages c.n))
    fun hm => LineBuffers.filled_wf (hm.2 c.head) _ _
  exact ((hfilled.trans (State.releaseCopy_works _ c.head c)).trans (State.service_works _ c.head)).trans
    (State.arbitrate_works _ c.head)

theorem State.finishFill_works (s : State) (h : HeadId) : State.Works h s (s.finishFill h) := by
  have hended := s.setFill_works h none
  unfold State.finishFill
  dsimp only
  split
  · next x _ =>
    split
    · exact (hended.trans (.updBuffers _ h (f := fun b => b.filled x (patchTones (s.patches.get h) x.n)) fun hm =>
        LineBuffers.filled_wf (hm.2 h) _ _)).trans (State.service_works _ h)
    · exact hended
  · exact hended
  · exact hended

end Sys2Proof.Machine
end

section
/-! What the owners of requests and the events of the card keep: the laws, the band laws, the waiting commands, and the
lists of the link. -/

namespace Sys2Proof.Machine

variable {s t : State} {h : HeadId}

/-! ### Steps over the heads -/

/-- From `s` to `t` operations of several heads have run. -/
structure State.Runs (s t : State) : Prop where
  keeps : s.Keeps t
  board : s.SameBoard t
  bands : s.KeepsBands t

theorem State.Runs.refl (s : State) : s.Runs s := ⟨.refl s, .refl s, .refl s⟩

theorem State.Runs.trans {u : State} (a : s.Runs t) (b : t.Runs u) : s.Runs u :=
  ⟨a.keeps.trans b.keeps, a.board.trans b.board, a.bands.trans b.bands⟩

theorem State.Works.runs (w : State.Works h s t) : s.Runs t := ⟨w.moves.keeps, w.moves.board, w.bands⟩

theorem State.forFitted_runs {f : HeadId → State → State} (hf : ∀ (g : HeadId) (u : State), u.Runs (f g u))
    (s : State) :
    s.Runs (s.forFitted f) :=
  State.forFitted_keeps (P := s.Runs) (.refl s) fun g u hu => hu.trans (hf g u)

theorem State.boundaries_runs (s : State) (due : HeadId → Bool) : s.Runs (s.boundaries due) :=
  State.forFitted_runs (fun g u => by
    split
    · exact (u.boundary_works g).runs
    · exact .refl u) s

theorem State.presentAll_runs (s : State) : s.Runs s.presentAll :=
  State.forFitted_runs (fun g u => (u.present_works g).runs) s

theorem State.alarmAll_runs (s : State) (i : Fin 16) (x : Slot) : s.Runs (s.alarmAll i x) := by
  unfold State.alarmAll
  split
  · refine State.forFitted_runs (fun g u => ?_) s
    split
    · exact (u.alarmOn_works _ _ g).runs
    · exact .refl u
  · exact .refl s

theorem State.unfitAbove_runs (s : State) (before : Nat) : s.Runs (s.unfitAbove before) :=
  List.foldlRecOn (motive := s.Runs) heads4 _ (.refl s) fun u hu g _ => by
    split
    · exact hu.trans (u.unfit_works g).runs
    · exact hu

/-! ### Owners and events -/

/-- From `l` to `m` the lists of requests and replies, the frame on the line and the bytes under reception are the same. -/
structure Link.SameLists (l m : Link) : Prop where
  inbound : m.inbound = l.inbound
  outbound : m.outbound = l.outbound
  sending : m.sending = l.sending
  received : m.received = l.received
  resetSent : m.resetSent = l.resetSent

theorem Link.SameLists.refl (l : Link) : l.SameLists l := ⟨rfl, rfl, rfl, rfl, rfl⟩

theorem Link.SameLists.trans {l m n : Link} (a : l.SameLists m) (b : m.SameLists n) : l.SameLists n :=
  ⟨b.inbound.trans a.inbound, b.outbound.trans a.outbound, b.sending.trans a.sending, b.received.trans a.received,
    b.resetSent.trans a.resetSent⟩

/-- What an owner does with a request: each law is kept, the commands that wait stay, and no request or reply joins or
leaves a list. -/
structure State.Owns (s t : State) : Prop where
  keeps : s.Keeps t
  bands : s.KeepsBands t
  pending : t.pending = s.pending
  lists : s.link.SameLists t.link

/-- What an owner does with a request other than MODULE_RESET, and a block with an event: no MODULE_RESET is taken. -/
structure State.Serves (s t : State) : Prop extends State.Owns s t where
  taken : t.link.resetTaken = s.link.resetTaken

theorem State.Serves.refl (s : State) : s.Serves s := ⟨⟨.refl s, .refl s, rfl, .refl _⟩, rfl⟩

theorem State.Serves.trans {u : State} (a : s.Serves t) (b : t.Serves u) : s.Serves u :=
  ⟨⟨a.keeps.trans b.keeps, a.bands.trans b.bands, b.pending.trans a.pending, a.lists.trans b.lists⟩,
    b.taken.trans a.taken⟩

theorem State.Runs.serves (w : s.Runs t) : s.Serves t where
  keeps := w.keeps
  bands := w.bands
  pending := w.board.pending
  lists := by rw [w.board.link]; exact ⟨rfl, rfl, rfl, rfl, rfl⟩
  taken := by rw [w.board.link]

theorem State.Works.serves (w : State.Works h s t) : s.Serves t := w.runs.serves

/-- A posting to any entry. -/
theorem State.Serves.post (s : State) (id : NoticeId) (c : NoticeContent) : s.Serves (s.post id c) :=
  ⟨⟨.post s id c, .refl s, rfl, ⟨rfl, rfl, rfl, rfl, rfl⟩⟩, rfl⟩

/-- No law reads what this changes: the clock, the input lines, the settings of the machine, the CTU, the tables, the patch
records and the monitor. -/
theorem State.Serves.setBoard (s : State) (clock : Nat) (pins : Pins) (machine : MachineSettings) (ctu : Ctu)
    (screens : Vector Screen 16) (curves : Vector (List Nat) 8) (patches : Quad (List PatchPair)) (monitor : Monitor) :
    s.Serves { s with
      clock := clock, pins := pins, machine := machine, ctu := ctu, screens := screens, curves := curves
      patches := patches, monitor := monitor } :=
  ⟨⟨fun l hl => by cases l <;> exact hl, .refl s, rfl, .refl _⟩, rfl⟩

theorem State.Serves.setCtu (s : State) (c : Ctu) : s.Serves { s with ctu := c } := .setBoard s ..

theorem State.Serves.setMonitor (s : State) (m : Monitor) : s.Serves (s.setMonitor m) := .setBoard s ..

/-- A change of the link that leaves its lists and the notice table alone and keeps the bounds of its counts. -/
theorem State.Owns.setLink {l : Link} (lists : s.link.SameLists l) (notices : l.notices = s.link.notices)
    (errors : s.link.errors ≤ 65535 → l.errors ≤ 65535)
    (levels : (∀ g : Fin 6, (s.link.groups.get g).level ≤ 3) → ∀ g : Fin 6, (l.groups.get g).level ≤ 3) :
    s.Owns { s with link := l } where
  keeps law hl := by
    cases law with
    | link =>
      obtain ⟨⟨hin, hout, herr, hcount, hlevel⟩, hsound⟩ := hl
      have hentry : ∀ id, l.entry id = s.link.entry id := fun id => by simp [Link.entry, notices]
      refine ⟨⟨lists.inbound ▸ hin, lists.outbound ▸ hout, errors herr, fun id => ?_, levels hlevel⟩, fun id => ?_⟩
      · rw [hentry]; exact hcount id
      · rw [hentry]; exact hsound id
    | _ => exact hl
  bands := .refl s
  pending := rfl
  lists := lists

/-! ### Counts, indexes and the machine-ready line -/

theorem State.timingFault_serves (s : State) (e : CylEvent) (c : Ctu) : s.Serves (s.timingFault e c) := by
  have hposted : s.Serves (({ s with ctu := c } : State).postCylinder e) := (State.Serves.setCtu s c).trans (.post ..)
  unfold State.timingFault
  dsimp only
  split
  · exact hposted.trans (State.forFitted_runs (fun g u => (u.timingLoss_works g e).runs) _).serves
  · exact hposted

theorem State.judgeCount_serves (s : State) (forward : Bool) : s.Serves (s.judgeCount forward) := by
  unfold State.judgeCount
  split
  · exact .setCtu s _
  · exact .setCtu s _
  · split
    · exact s.timingFault_serves ..
    · exact .refl s
  · exact s.timingFault_serves ..
  · split
    · exact s.timingFault_serves ..
    · exact (s.boundaries_runs _).serves

theorem State.checkSpeed_serves (s : State) : s.Serves s.checkSpeed := by
  have hset := State.Serves.setCtu s { s.ctu with speedOk := speedOkFor s.machine (s.ctu.lastPeriod.getD 0) }
  unfold State.checkSpeed
  dsimp only
  split
  · exact (hset.trans (.post ..)).trans (State.forFitted_runs (fun g u => (u.speedEvent_works g).runs) _).serves
  · exact hset.trans (.post ..)
  · exact hset
  · exact hset

theorem State.serveReport_serves (s : State) : s.Serves s.serveReport := by
  unfold State.serveReport
  split
  · exact .refl s
  · split
    · exact (State.Serves.setCtu s _).trans (.post ..)
    · exact .setCtu s _

theorem State.owedBoundaries_serves (s : State) : s.Serves s.owedBoundaries := by
  unfold State.owedBoundaries
  split
  · exact (s.boundaries_runs _).serves
  · exact .refl s

theorem State.zeroBoundaries_serves (s : State) : s.Serves s.zeroBoundaries := by
  unfold State.zeroBoundaries
  split
  · exact (s.boundaries_runs _).serves
  · exact .refl s

theorem State.goodIndex_serves (s : State) : s.Serves s.goodIndex :=
  ((((s.owedBoundaries_serves.trans (.setCtu _ _)).trans (State.checkSpeed_serves _)).trans
    (State.serveReport_serves _)).trans (State.zeroBoundaries_serves _)).trans (State.presentAll_runs _).serves

theorem State.judgeIndex_serves (s : State) : s.Serves s.judgeIndex := by
  unfold State.judgeIndex
  split
  · exact (s.timingFault_serves ..).trans (.setCtu _ _)
  · split
    · exact s.timingFault_serves ..
    · exact s.goodIndex_serves

theorem State.takeReady_serves (s : State) : s.Serves s.takeReady := by
  have hset := State.Serves.setCtu s { s.ctu with ready := s.pins.readyLine, debounce := 0 }
  unfold State.takeReady
  dsimp only
  split
  · exact hset.trans (.post ..)
  · exact (hset.trans (.post ..)).trans (State.forFitted_runs (fun g u => (u.readyLost_works g).runs) _).serves

theorem State.judgeConversion_serves (s : State) (i : Fin 16) (v : Nat) : s.Serves (s.judgeConversion i v) := by
  unfold State.judgeConversion
  dsimp only
  split
  · exact ((State.Serves.setMonitor s _).trans (.post ..)).trans (State.alarmAll_runs _ i _).serves
  · exact .setMonitor s _

/-! ### Requests -/

theorem onFitted_serves {f : HeadId → State × Response} (n : Nat) (hf : ∀ h, s.Serves (f h).1) :
    s.Serves (onFitted n s f).1 := by
  obtain ⟨-, hr⟩ | ⟨h, -, -, hr⟩ | ⟨h, -, -, hr⟩ := onFitted_cases n s f <;> rw [hr]
  · exact .refl s
  · exact .refl s
  · exact hf h

theorem State.writeMachine_serves (s : State) (m : MachineSettings) : s.Serves (s.writeMachine m) :=
  (State.Serves.setBoard s ..).trans (State.unfitAbove_runs _ _).serves

theorem takeSetMachine_serves (f : MachineFields) (s : State) : s.Serves (takeSetMachine f s).1 := by
  unfold takeSetMachine
  split
  · exact .refl s
  · split
    · exact .refl s
    · split
      · exact .refl s
      · split
        · exact s.writeMachine_serves _
        · exact .refl s

theorem takeSetHead_serves (f : HeadFields) (s : State) : s.Serves (takeSetHead f s).1 := by
  unfold takeSetHead
  split
  · exact .refl s
  · next h _ =>
    dsimp only
    split
    · split
      · exact .refl s
      · split
        · exact .refl s
        · exact (State.Works.updHead s h (f := fun x => { x with settings := f.settings _ }) fun hx => hx).serves
    · exact .refl s

theorem takeSetAxis_serves (f : AxisFields) (s : State) : s.Serves (takeSetAxis f s).1 :=
  onFitted_serves _ fun k => by
    dsimp only
    split
    · exact .refl s
    split
    · exact .refl s
    split
    · exact .refl s
    · exact (State.Works.updAxis s k (f := fun x => { x with settings := f.settings }) fun ha => ha).serves

theorem takeSetScreen_serves (f : ScreenFields) (s : State) : s.Serves (takeSetScreen f s).1 := by
  have hset : ∀ i x, s.Serves (s.setScreen i x) := fun _ _ => .setBoard s ..
  unfold takeSetScreen
  split
  · split
    · unfold writeScreen
      split
      · exact .refl s
      split
      · exact hset _ _
      split
      · exact .refl s
      · exact hset _ _
    iterate 3 exact .refl s
  · exact .refl s

theorem takeSetCurve_serves (f : CurveFields) (s : State) : s.Serves (takeSetCurve f s).1 := by
  unfold takeSetCurve
  split
  · split
    · unfold writeCurve
      split
      · exact .refl s
      · exact .setBoard s ..
    · exact .refl s
    · unfold previewCurve
      dsimp only
      split
      · exact .refl s
      · split <;> exact .refl s
    · exact .refl s
  · exact .refl s

theorem takeSetPatch_serves (f : PatchFields) (s : State) : s.Serves (takeSetPatch f s).1 := by
  unfold takeSetPatch
  split
  · exact .refl s
  · exact .refl s
  · split
    · split
      · unfold writePatch
        split
        · exact .refl s
        split
        · exact .refl s
        · exact .setBoard s ..
      · exact .refl s
      · exact .refl s
    · exact .refl s

theorem takeSetMonitor_serves (f : MonitorFields) (s : State) : s.Serves (takeSetMonitor f s).1 := by
  unfold takeSetMonitor
  split
  · exact .refl s
  · dsimp only
    split
    · exact .refl s
    split
    · exact .refl s
    split
    · exact .refl s
    split
    · exact .refl s
    · exact .setMonitor s _

theorem takeSetNotice_serves (f : Nat × Nat × Nat) (s : State) : s.Serves (takeSetNotice f s).1 := by
  unfold takeSetNotice
  split
  · split
    · exact .refl s
    · refine ⟨.setLink ⟨rfl, rfl, rfl, rfl, rfl⟩ rfl id fun hl g => ?_, rfl⟩
      rw [Vector.get_eq_getElem, Vector.getElem_set]
      split
      · exact min_le_left ..
      · exact hl g
  · exact .refl s

theorem takeModuleReset_owns (f : Unit) (s : State) : s.Owns (takeModuleReset f s).1 :=
  .setLink ⟨rfl, rfl, rfl, rfl, rfl⟩ rfl id id

theorem takeGetStatus_serves (n : Nat) (s : State) : s.Serves (takeGetStatus n s).1 := by
  unfold takeGetStatus
  split
  · exact .refl s
  · exact ⟨.setLink ⟨rfl, rfl, rfl, rfl, rfl⟩ rfl (fun _ => Nat.zero_le _) id, rfl⟩
  · exact .refl s

/-! #### TRACK, DROP_TRACKS and STORE_CLEAR (R52, R62, R63) -/

/-- A descriptor that is found has the number asked for. -/
theorem Store.find_some {u : Store} {n : Nat} {d : Descriptor} (hd : u.find h n = some d) :
    d ∈ u.queues.get h ∧ d.number = n :=
  ⟨List.mem_of_find?_eq_some hd, by simpa using List.find?_some hd⟩

theorem Store.find_none {u : Store} {n : Nat} (hd : u.find h n = none) : ∀ e ∈ u.queues.get h, e.number ≠ n := by
  simpa [Store.find] using hd

theorem Descriptor.opened_complete (f : TrackFields) (kind : TrackKind) (pages : List Nat)
    (filling : opensFilling f kind = false) (fits : openingTooLong f kind = false) :
    (⟨f.number, kind, f.n, f.tones.length, pages⟩ : Descriptor).complete = true := by
  cases kind <;> simp [Descriptor.complete, opensFilling, openingTooLong] at filling fits ⊢
  omega

/-- An opening that passes its checks keeps the queue in order and in its limits (R51, R55). -/
theorem State.openTrack_works {f : TrackFields} {kind : TrackKind} (fresh : s.store.find h f.number = none)
    (hr : s.openingRefusal h f kind = none) :
    State.Works h s { s with store := s.store.openTrack h kind f.number f.n f.tones } := by
  unfold State.openingRefusal at hr
  dsimp only at hr
  split_ifs at hr with _ hlong hlimit hfilling hfull
  simp only [Config.queueLimit] at hlimit
  refine .setStore s h (fun hd => storeTones_wf hd _ _ _) (fun hl => ?_) fun g ne => ⟨by simp [Store.openTrack, ne], rfl⟩
  obtain ⟨rising, size, count⟩ := hl.1 h
  refine hl.change (h := h) (fun g ne => by simp [Store.openTrack, ne]) ?_ ?_
  · refine ⟨?_, ?_, ?_⟩
    · simpa [Store.openTrack] using insertDescriptor_rising _ rising (Store.find_none fresh)
    · simp [Store.openTrack, insertDescriptor_length]; omega
    · simp only [Store.openTrack, Quad.get_set_same, fillingCount_insertDescriptor]
      split
      · omega
      · next hc =>
        have opens : opensFilling f kind = true := by
          by_contra hno
          exact hc (Descriptor.opened_complete f kind _ (by simpa using hno) (by simpa using hlong))
        have few : ¬ 2 ≤ fillingCount (s.store.queues.get h) := fun h2 => hfilling (by
          rw [opens, Bool.true_and]; exact decide_eq_true h2)
        omega
  · simp only [Store.openTrack, Quad.get_set_same, insertDescriptor_length]
    omega

/-- Two descriptors of a queue in order that have one number are the same. -/
theorem descriptor_eq_of_number {q : List Descriptor} (rising : q.Pairwise fun d e => d.number < e.number)
    {d e : Descriptor} (hd : d ∈ q) (he : e ∈ q) (same : e.number = d.number) : e = d := by
  have distinct : (q.map Descriptor.number).Nodup := List.pairwise_map.mpr (rising.imp Nat.ne_of_lt)
  exact List.inj_on_of_nodup_map distinct he hd same

/-- A continuation that passes its checks keeps the queue in order and in its limits (R51, R53). -/
theorem State.continueTrack_works {d : Descriptor} (hd : s.store.find h d.number = some d) (filling : d.complete = false)
    (tones : List Byte) : State.Works h s { s with store := s.store.continueTrack h d tones } := by
  obtain ⟨hmem, -⟩ := Store.find_some hd
  have hnumber : ∀ e : Descriptor, (if e.number = d.number then e.gained tones.length else e).number = e.number :=
    fun e => by split <;> rfl
  refine .setStore s h (fun hw => storeTones_wf hw _ _ _) (fun hl => ?_) fun g ne => ⟨by simp [Store.continueTrack, ne], rfl⟩
  obtain ⟨rising, size, count⟩ := hl.1 h
  refine hl.change (h := h) (fun g ne => by simp [Store.continueTrack, ne]) ⟨?_, ?_, ?_⟩ ?_
  · simpa [Store.continueTrack, List.pairwise_map, hnumber] using rising
  · simpa [Store.continueTrack] using size
  · refine le_trans ?_ count
    simp only [Store.continueTrack, Quad.get_set_same, fillingCount, List.filter_map, List.length_map]
    simp only [← List.countP_eq_length_filter]
    refine List.countP_mono_left fun e he hp => ?_
    simp only [Function.comp_apply] at hp
    split at hp
    · next same => rw [descriptor_eq_of_number rising hmem he same]; simp [filling]
    · exact hp
  · simp [Store.continueTrack]

end Sys2Proof.Machine
end

section
/-! What the owners of the track store's, the axes', the bands' and the monitor's requests keep. -/

namespace Sys2Proof.Machine

variable {s t : State} {h : HeadId}

/-! ### TRACK, DROP_TRACKS and STORE_CLEAR (R52, R62, R63) -/

theorem takeChunk_serves (h : HeadId) (f : TrackFields) (kind : TrackKind) (s : State) :
    s.Serves (takeChunk h f kind s).1 := by
  unfold takeChunk chunkOutcome
  split
  · next d hd =>
    obtain ⟨-, hnumber⟩ := Store.find_some hd
    split
    · exact .refl s
    · next hfilling =>
      split
      · exact .refl s
      · have hcontinued : State.Works h s { s with store := s.store.continueTrack h d f.tones } :=
          State.continueTrack_works (hnumber ▸ hd) (by simpa using hfilling) f.tones
        unfold State.continueChunk
        dsimp only
        split
        · exact (hcontinued.trans (State.service_works _ h)).serves
        · exact hcontinued.serves
  · next fresh =>
    split
    · exact .refl s
    · split
      · exact .refl s
      · next hr => exact ((State.openTrack_works fresh hr).trans (State.service_works _ h)).serves

theorem takeTrack_serves (f : TrackFields) (s : State) : s.Serves (takeTrack f s).1 :=
  onFitted_serves _ fun h => by
    split
    · exact .refl s
    · split
      · exact .refl s
      · exact takeChunk_serves ..

theorem State.discard_works (s : State) (h : HeadId) (p : Descriptor → Bool) :
    State.Works h s { s with store := s.store.discard h p } := by
  refine .setStore s h id (fun hl => ?_) fun g ne => ⟨by simp [Store.discard, ne], rfl⟩
  refine hl.change (h := h) (fun g ne => by simp [Store.discard, ne]) ?_ ?_
  · simpa [Store.discard] using (hl.1 h).sublist List.filter_sublist
  · have hsplit := List.length_eq_length_filter_add (l := s.store.queues.get h) p
    simp only [Store.discard, Quad.get_set_same]
    omega

theorem takeDropTracks_serves (f : DropFields) (s : State) : s.Serves (takeDropTracks f s).1 :=
  onFitted_serves _ fun h => by
    have hdropped := s.discard_works h fun d => f.holds d.number
    dsimp only
    split
    · exact hdropped.serves
    · exact (hdropped.trans (State.service_works _ h)).serves

theorem Store.cleared_lawful (u : Store) : u.cleared.queuesLawful :=
  ⟨fun h => by simp [Store.cleared, queueLawful, fillingCount], by simp [Store.cleared, Store.queued, Config.descriptorCount]⟩

theorem takeStoreClear_serves (f : Unit) (s : State) : s.Serves (takeStoreClear f s).1 := by
  unfold takeStoreClear
  split
  · exact .refl s
  · refine ⟨⟨fun l hl => ?_, .refl s, rfl, .refl _⟩, rfl⟩
    cases l with
    | queues => exact Store.cleared_lawful _
    | _ => exact hl

/-! ### Axes and heads -/

theorem takeHome_serves (n : Nat) (s : State) : s.Serves (takeHome n s).1 :=
  onFitted_serves _ fun k => by
    split
    · exact .refl s
    · next hr =>
      have ne : (s.axes.get k).state ≠ .feeding := fun e => by simp [State.homeRefusal, e] at hr
      split
      · exact ((State.Works.updAxis s k fun ha => Axis.foundHome_lawful ha ne).trans (State.postAxis_works _ k _)).serves
      · exact ((State.Works.updAxis s k fun ha => Axis.startHome_lawful ha ne _).trans (State.limitOnEntry_works _ k)).serves

theorem State.seekTo_works {k : HeadId} (ne : (s.axes.get k).state ≠ .feeding) (target : Nat) :
    State.Works k s (s.seekTo k target) := by
  unfold State.seekTo
  split
  · exact (State.Works.updAxis s k fun ha => Axis.rest_lawful ha ne).trans (State.postAxis_works _ k _)
  · exact (State.Works.updAxis s k fun ha => Axis.startSeek_lawful ha ne _ _).trans (State.limitOnEntry_works _ k)

theorem takeSeek_serves (f : SeekFields) (s : State) : s.Serves (takeSeek f s).1 := by
  unfold takeSeek
  split
  · exact .refl s
  · next k _ =>
    dsimp only
    split
    · split
      · exact .refl s
      · next hr =>
        split
        · refine (State.seekTo_works (fun e => ?_) _).serves
          unfold State.seekRefusal at hr
          split_ifs at hr with _ _ hfree
          simp [e] at hfree
        · exact .refl s
    · exact .refl s

theorem takeAxisHalt_serves (n : Nat) (s : State) : s.Serves (takeAxisHalt n s).1 :=
  onFitted_serves _ fun k => by
    split
    · next e => exact (State.Works.updAxis s k fun ha => Axis.rest_lawful ha (by simp [e])).serves
    · exact (State.Works.updAxis s k (f := fun a => a.lost .none) fun _ => Axis.lost_lawful _ _).serves
    iterate 3 exact .refl s

theorem takeHeadClear_serves (n : Nat) (s : State) : s.Serves (takeHeadClear n s).1 :=
  onFitted_serves _ fun h => by
    split
    · exact .refl s
    · exact (State.Works.updHead s h (f := fun x => { x with inhibit := false }) fun hx => hx).serves

/-! ### Bands -/

/-- The checks of an acceptance leave room for the new band (R126). -/
theorem State.room_of_accepted {b : Band} (hr : s.acceptanceFailure h b = none) :
    s.resultLoad h < 4 ∧ (s.held h).length < 2 := by
  unfold State.acceptanceFailure at hr
  split_ifs at hr
  omega

/-- A band that is accepted with no band held becomes active. -/
theorem State.accept_active_bands {b : Band} (hr : s.acceptanceFailure h b = none) (idle : s.held h = []) :
    s.KeepsBands (s.setActive h (some b)) :=
  .updBands s h fun _ => by
    obtain ⟨hload, -⟩ := State.room_of_accepted hr
    simp only [State.held, List.append_eq_nil_iff, Option.toList_eq_nil_iff] at idle
    simp only [State.resultLoad, State.held, idle] at hload
    simp [BandSequencer.lawful, BandSequencer.pendingFollows, BandSequencer.heldCount, idle] at hload ⊢
    omega

/-- A band that is accepted behind an active one becomes pending. -/
theorem State.accept_pending_bands {b : Band} (hr : s.acceptanceFailure h b = none) (held : s.held h ≠ []) :
    s.KeepsBands (s.updBands h fun q => { q with waiting := some b }) :=
  .updBands s h fun hl => by
    obtain ⟨follows, -⟩ := hl
    obtain ⟨hload, hheld⟩ := State.room_of_accepted hr
    simp only [State.resultLoad, State.held] at hload hheld held
    cases ha : (s.bands.get h).active with
    | none =>
      cases hw : (s.bands.get h).waiting with
      | none => simp [ha, hw] at held
      | some w => simp [BandSequencer.pendingFollows, ha, hw] at follows
    | some a =>
      simp only [BandSequencer.lawful, BandSequencer.pendingFollows, BandSequencer.heldCount, ha, List.length_append,
        Option.toList_some, List.length_singleton, Option.isSome_some] at hload ⊢
      exact ⟨fun _ => trivial, by omega⟩

theorem takeEngrave_serves (f : EngraveFields) (s : State) : s.Serves (takeEngrave f s).1 :=
  onFitted_serves _ fun h => by
    split
    · exact .refl s
    · next b _ =>
      split
      · exact .refl s
      · next hr =>
        split
        · next idle =>
          have hactive : State.Works h s (s.setActive h (some b)) :=
            ⟨.updBands s h _, State.accept_active_bands hr (by simpa using idle)⟩
          unfold engraveActive
          split
          · exact .refl s
          · exact ((hactive.trans (s.prepareBand_works h b)).trans (State.afterActivation_works _ h)).serves
        · next held =>
          have hpending : State.Works h s (s.updBands h fun q => { q with waiting := some b }) :=
            ⟨.updBands s h _, State.accept_pending_bands hr (by simpa using held)⟩
          exact hpending.serves

theorem stopActive_serves (h : HeadId) (s : State) : s.Serves (stopActive h s).1 := by
  unfold stopActive
  split
  · exact .refl s
  · next b hb =>
    split
    · unfold State.stopCutting
      split
      · exact .refl s
      · exact ((State.Works.setActive_some { b with stopTaken := true } (by simp [hb])).trans
          (.updAxis _ h fun ha => Axis.disarm_lawful ha)).serves
    iterate 4 exact (s.finishActive_works h ..).serves
    · exact .refl s

theorem takeStopBand_serves (f : Nat × Nat) (s : State) : s.Serves (takeStopBand f s).1 := by
  unfold takeStopBand
  split
  · exact .refl s
  · refine onFitted_serves _ fun h => ?_
    split
    · exact stopActive_serves h s
    · unfold stopPending
      split
      · exact .refl s
      · exact (s.endPending_works h ..).serves

theorem takeAbortBand_serves (f : Nat × Nat) (s : State) : s.Serves (takeAbortBand f s).1 := by
  unfold takeAbortBand
  split
  · exact .refl s
  · refine onFitted_serves _ fun h => ?_
    split
    · exact .refl s
    · exact (s.abortActive_works h ..).serves

theorem takeReadResult_serves (n : Nat) (s : State) : s.Serves (takeReadResult n s).1 :=
  onFitted_serves _ fun h => by
    split
    · exact .refl s
    · next r rest e =>
      refine (State.Works.updBands s h (f := fun q => { q with results := rest }) fun hl => ?_).serves
      obtain ⟨follows, load⟩ := hl
      refine ⟨follows, ?_⟩
      simp only [e, List.length_cons, BandSequencer.heldCount] at load ⊢
      omega

/-! ### The monitor -/

theorem takeMonitorRun_serves (f : Nat × Nat × Nat) (s : State) : s.Serves (takeMonitorRun f s).1 := by
  unfold takeMonitorRun
  split
  · exact .refl s
  · split
    · exact .setMonitor s _
    · exact .refl s

theorem takeMonitorHalt_serves (f : Unit) (s : State) : s.Serves (takeMonitorHalt f s).1 := by
  unfold takeMonitorHalt
  dsimp only
  split
  · exact .refl s
  · exact .setMonitor s _

theorem takeAlarmAck_serves (n : Nat) (s : State) : s.Serves (takeAlarmAck n s).1 := by
  unfold takeAlarmAck
  split
  · exact .refl s
  · dsimp only
    split
    · exact .refl s
    · split
      · exact .setMonitor s _
      · exact .refl s

end Sys2Proof.Machine
end

section
/-! What every command keeps. Each command answers a next state, and from the card to that state each law of the
invariants is kept and the commands that wait behind stay. -/

namespace Sys2Proof.Machine

variable {s t : State}

/-! ### The link's lists -/

/-- What the laws say of the link depends on its lists, its counts, its groups and its notice table alone. -/
theorem Link.sound_of_lists {l m : Link} (hl : l.withinBounds ∧ l.noticesSound) (notices : m.notices = l.notices)
    (groups : m.groups = l.groups) (inbound : m.inbound.length ≤ 8) (outbound : m.outbound.length ≤ 16)
    (errors : m.errors ≤ 65535) : m.withinBounds ∧ m.noticesSound := by
  obtain ⟨⟨-, -, -, hcount, hlevel⟩, hsound⟩ := hl
  have hentry : ∀ id, m.entry id = l.entry id := fun id => by simp [Link.entry, notices]
  exact ⟨⟨inbound, outbound, errors, fun id => hentry id ▸ hcount id, fun g => groups ▸ hlevel g⟩,
    fun id => hentry id ▸ hsound id⟩

theorem Link.sound_of_counts {l m : Link} (hl : l.withinBounds ∧ l.noticesSound) (notices : m.notices = l.notices)
    (groups : m.groups = l.groups) (inbound : m.inbound = l.inbound) (outbound : m.outbound = l.outbound)
    (errors : m.errors = l.errors) : m.withinBounds ∧ m.noticesSound := by
  obtain ⟨hin, hout, herr, -⟩ := hl.1
  exact Link.sound_of_lists hl notices groups (inbound ▸ hin) (outbound ▸ hout) (errors ▸ herr)

theorem countUp_le_max (m n : Nat) : countUp m n ≤ m := min_le_left ..

theorem Link.sound_discard {l : Link} (hl : l.withinBounds ∧ l.noticesSound) (e : FrameError) :
    (l.discard e).withinBounds ∧ (l.discard e).noticesSound :=
  Link.sound_of_lists hl rfl rfl hl.1.1 hl.1.2.1 (countUp_le_max ..)

theorem Link.sound_accept {l : Link} (hl : l.withinBounds ∧ l.noticesSound) (f : Frame) :
    (l.accept f).withinBounds ∧ (l.accept f).noticesSound := by
  obtain ⟨hin, hout, herr, -⟩ := hl.1
  obtain ⟨room, e⟩ | ⟨-, room, e⟩ | ⟨-, -, e⟩ := l.accept_cases f <;> rw [e]
  · exact Link.sound_of_lists hl rfl rfl (by simpa using room) hout herr
  · exact Link.sound_of_lists hl rfl rfl hin (by simpa using room) herr
  · exact Link.sound_discard hl _

theorem Link.sound_choose {l : Link} (hl : l.withinBounds ∧ l.noticesSound) :
    l.choose.withinBounds ∧ l.choose.noticesSound := by
  obtain ⟨hin, hout, herr, hcount, hlevel⟩ := hl.1
  obtain e | ⟨r, rs, hr, -, e⟩ | ⟨id, -, -, -, e⟩ := l.choose_cases <;> rw [e]
  · exact hl
  · refine Link.sound_of_lists hl rfl rfl hin ?_ herr
    rw [hr] at hout
    exact Nat.le_of_succ_le hout
  · have hsame : Link.entry { l.setEntry id { l.entry id with pending := false, count := 0 } with
        sending := some (sendNotice id (l.entry id)) } id = { l.entry id with pending := false, count := 0 } :=
      l.entry_setEntry_same id _
    have hne : ∀ i, i ≠ id → Link.entry { l.setEntry id { l.entry id with pending := false, count := 0 } with
        sending := some (sendNotice id (l.entry id)) } i = l.entry i := fun i ne => l.entry_setEntry_ne _ ne
    refine ⟨⟨hin, hout, herr, fun i => ?_, hlevel⟩, fun i => ?_⟩ <;> by_cases ei : i = id
    · rw [ei, hsame]; exact Nat.zero_le _
    · rw [hne i ei]; exact hcount i
    · rw [ei, hsame]; simp
    · rw [hne i ei]; exact hl.2 i

/-! ### A command's effect -/

/-- What a command does: each law and the band laws are kept, and the commands that wait stay. -/
structure State.Steps (s t : State) : Prop where
  keeps : s.Keeps t
  bands : s.KeepsBands t
  pending : t.pending = s.pending

theorem State.Steps.refl (s : State) : s.Steps s := ⟨.refl s, .refl s, rfl⟩

theorem State.Steps.trans {u : State} (a : s.Steps t) (b : t.Steps u) : s.Steps u :=
  ⟨a.keeps.trans b.keeps, a.bands.trans b.bands, b.pending.trans a.pending⟩

theorem State.Serves.steps (w : s.Serves t) : s.Steps t := ⟨w.keeps, w.bands, w.pending⟩

theorem State.Works.steps {h : HeadId} (w : State.Works h s t) : s.Steps t := w.serves.steps

theorem State.Steps.setLink {l : Link}
    (hl : s.link.withinBounds ∧ s.link.noticesSound → l.withinBounds ∧ l.noticesSound) :
    s.Steps { s with link := l } where
  keeps law hs := by
    cases law with
    | link => exact hl hs
    | _ => exact hs
  bands := .refl s
  pending := rfl

theorem State.settled_steps (s : State) : s.Steps s.settled := .setLink Link.sound_choose

theorem State.handed_steps (s : State) : s.Steps s.handed :=
  .setLink fun hl => by
    obtain ⟨hin, hout, herr, -⟩ := hl.1
    exact Link.sound_of_lists hl rfl rfl (by simp only [List.length_tail]; omega) hout herr

theorem State.respond_steps (kind tag : Byte) (r : Response) (room : s.link.outbound.length < 16) :
    s.Steps (s.respond kind tag r) :=
  .setLink fun hl => by
    obtain ⟨hin, -, herr, -⟩ := hl.1
    exact Link.sound_of_lists hl rfl rfl hin (by simpa using room) herr

theorem State.outbound_lt_of_canHand (s : State) {f : Frame} (can : s.canHand f = true) : s.link.outbound.length < 16 := by
  simp only [State.canHand, Bool.and_eq_true, decide_eq_true_eq] at can
  exact can.1.1

theorem State.request_steps {α : Type} (s : State) (f : Frame) (fields : Option α) {owner : α → State → State × Response}
    (owns : ∀ a (u : State), u.Owns (owner a u).1) : s.Steps (s.request f fields owner) := by
  obtain ⟨-, e⟩ | ⟨can, -, e⟩ | ⟨a, can, -, e⟩ := s.request_cases f fields owner <;> rw [e]
  · exact .setLink fun hl => Link.sound_accept hl f
  · exact s.handed_steps.trans (State.respond_steps _ _ _ (s.outbound_lt_of_canHand can))
  · have hs := owns a s.handed
    exact (s.handed_steps.trans ⟨hs.keeps, hs.bands, hs.pending⟩).trans
      (State.respond_steps _ _ _ (by rw [hs.lists.outbound]; exact s.outbound_lt_of_canHand can))

@[simp] theorem Head.elapse_zero (x : Head) : x.elapse 0 = x := by simp [Head.elapse]

theorem State.elapse_heads (s : State) (n : Nat) (h : HeadId) :
    (s.elapse n).heads.get h = (s.heads.get h).elapse n := by
  unfold State.elapse
  split
  · next e => simp [e]
  · simp

theorem State.elapse_steps (s : State) (n : Nat) : s.Steps (s.elapse n) := by
  unfold State.elapse
  split
  · exact .refl s
  · refine ⟨fun l hl => ?_, .refl s, rfl⟩
    cases l with
    | heads => exact fun h => by simpa using Head.elapse_lawful (hl h) n
    | link =>
      obtain ⟨hin, hout, herr, -⟩ := hl.1
      exact Link.sound_of_lists hl rfl rfl hin hout herr
    | _ => exact hl

theorem State.reach_steps (s : State) (due : Nat) : s.Steps (s.reach due) := s.elapse_steps _

/-! ### Reset -/

theorem Head.reset_lawful : Head.reset.outputsLawful := by simp [Head.outputsLawful, Head.reset]

theorem Axis.reset_lawful (k : Nat) : (Axis.reset k).stateLawful := by simp [Axis.stateLawful, Axis.reset]

theorem Link.reset_entry (id : NoticeId) : Link.reset.entry id = ⟨false, 0, none⟩ := by
  simp [Link.entry, Link.reset, NoticeEntry.reset, Vector.get_eq_getElem]

theorem Link.reset_group (g : Fin 6) : Link.reset.groups.get g = ⟨0, true⟩ := by
  simp [Link.reset, Vector.get_eq_getElem]

theorem State.reset_axes (k : HeadId) : State.reset.axes.get k = Axis.reset k.val := by
  revert k; decide

/-- After reset every law holds. -/
theorem State.reset_holds (l : Law) : l.holds State.reset := by
  cases l with
  | memories =>
    exact ⟨Memory.wf_nil, fun h => by simpa [State.reset, LineBuffers.reset] using Memory.wf_nil⟩
  | link =>
    refine ⟨⟨by decide, by decide, by decide, fun id => ?_, fun g => ?_⟩, fun id => ?_⟩
    · exact (Link.reset_entry id) ▸ Nat.zero_le _
    · exact (Link.reset_group g) ▸ Nat.zero_le _
    · simp [State.reset, Link.reset_entry]
  | queues => exact ⟨fun h => by simp [State.reset, Store.reset, queueLawful, fillingCount], by decide⟩
  | heads => exact fun h => by simpa [State.reset] using Head.reset_lawful
  | axes => exact fun k => by rw [State.reset_axes]; exact Axis.reset_lawful _

theorem State.reset_bands (h : HeadId) : (State.reset.bands.get h).lawful := by
  simp [State.reset, BandSequencer.reset, BandSequencer.lawful, BandSequencer.pendingFollows, BandSequencer.heldCount]

theorem State.powerOn_steps (s : State) : s.Steps s.powerOn :=
  ⟨fun l _ => by have hl := State.reset_holds l; cases l <;> exact hl, fun g _ => State.reset_bands g, rfl⟩

/-! ### The commands -/

theorem State.done_steps (w : s.Steps t) : ∃ u, t.done = .next u ∧ s.Steps u := ⟨_, rfl, w.trans t.settled_steps⟩

/-- A request command completes, whether it is handed, listed or dropped. -/
theorem exec_request_steps {c : Instr} {f : Frame} (s : State) (hc : frameOf c = some f) :
    ∃ t, exec c s = .next t ∧ s.Steps t := by
  have asks : ∀ (f : HeadId → List Byte) (n : Nat) (u : State), u.Serves (onFitted n u fun h => (u, Response.ok (f h))).1 :=
    fun _ n u => onFitted_serves n fun _ => .refl u
  cases c
  case setMachine => exact State.done_steps (s.request_steps _ _ fun a u => (takeSetMachine_serves a u).toOwns)
  case setHead => exact State.done_steps (s.request_steps _ _ fun a u => (takeSetHead_serves a u).toOwns)
  case setAxis => exact State.done_steps (s.request_steps _ _ fun a u => (takeSetAxis_serves a u).toOwns)
  case setScreen => exact State.done_steps (s.request_steps _ _ fun a u => (takeSetScreen_serves a u).toOwns)
  case setCurve => exact State.done_steps (s.request_steps _ _ fun a u => (takeSetCurve_serves a u).toOwns)
  case setPatch => exact State.done_steps (s.request_steps _ _ fun a u => (takeSetPatch_serves a u).toOwns)
  case setMonitor => exact State.done_steps (s.request_steps _ _ fun a u => (takeSetMonitor_serves a u).toOwns)
  case setNotice => exact State.done_steps (s.request_steps _ _ fun a u => (takeSetNotice_serves a u).toOwns)
  case track => exact State.done_steps (s.request_steps _ _ fun a u => (takeTrack_serves a u).toOwns)
  case dropTracks => exact State.done_steps (s.request_steps _ _ fun a u => (takeDropTracks_serves a u).toOwns)
  case storeClear => exact State.done_steps (s.request_steps _ _ fun a u => (takeStoreClear_serves a u).toOwns)
  case engrave => exact State.done_steps (s.request_steps _ _ fun a u => (takeEngrave_serves a u).toOwns)
  case stopBand => exact State.done_steps (s.request_steps _ _ fun a u => (takeStopBand_serves a u).toOwns)
  case abortBand => exact State.done_steps (s.request_steps _ _ fun a u => (takeAbortBand_serves a u).toOwns)
  case readResult => exact State.done_steps (s.request_steps _ _ fun a u => (takeReadResult_serves a u).toOwns)
  case home => exact State.done_steps (s.request_steps _ _ fun a u => (takeHome_serves a u).toOwns)
  case seek => exact State.done_steps (s.request_steps _ _ fun a u => (takeSeek_serves a u).toOwns)
  case axisHalt => exact State.done_steps (s.request_steps _ _ fun a u => (takeAxisHalt_serves a u).toOwns)
  case headClear => exact State.done_steps (s.request_steps _ _ fun a u => (takeHeadClear_serves a u).toOwns)
  case monitorRun => exact State.done_steps (s.request_steps _ _ fun a u => (takeMonitorRun_serves a u).toOwns)
  case monitorHalt => exact State.done_steps (s.request_steps _ _ fun a u => (takeMonitorHalt_serves a u).toOwns)
  case alarmAck => exact State.done_steps (s.request_steps _ _ fun a u => (takeAlarmAck_serves a u).toOwns)
  case moduleReset => exact State.done_steps (s.request_steps _ _ takeModuleReset_owns)
  case getStatus => exact State.done_steps (s.request_steps _ _ fun a u => (takeGetStatus_serves a u).toOwns)
  case getCylinder => exact State.done_steps (s.request_steps _ _ fun _ u => (State.Serves.refl u).toOwns)
  case getStore => exact State.done_steps (s.request_steps _ _ fun _ u => (State.Serves.refl u).toOwns)
  case getMonitor => exact State.done_steps (s.request_steps _ _ fun _ u => (State.Serves.refl u).toOwns)
  case getHead => exact State.done_steps (s.request_steps _ _ fun n u => (asks _ n u).toOwns)
  case getAxis => exact State.done_steps (s.request_steps _ _ fun n u => (asks _ n u).toOwns)
  case unknownKindRequest =>
    refine State.done_steps ?_
    split
    · exact .refl s
    · exact s.request_steps _ _ fun _ u => (State.Serves.refl u).toOwns
  all_goals simp [frameOf] at hc

theorem State.served_steps (s : State) (f : Frame) : s.Steps (s.served f) := by
  unfold State.served
  rw [State.serve_eq]
  obtain ⟨g, hg⟩ := frameOf_requestOf f
  obtain ⟨t, ht, w⟩ := exec_request_steps s hg
  rw [ht]
  exact w

theorem State.handAll_steps (s : State) : s.Steps s.handAll :=
  State.handUpTo_keeps s.Steps (fun _ f hu _ => hu.trans (State.served_steps _ f)) s (.refl s) _

theorem State.discardFrame_steps (s : State) (e : FrameError) : s.Steps (s.discardFrame e) :=
  .setLink fun hl => Link.sound_discard hl e

theorem State.hold_steps (s : State) (bytes : List Byte) : s.Steps (s.hold bytes) :=
  .setLink fun hl => Link.sound_of_counts hl rfl rfl rfl rfl rfl

theorem State.freshStall_steps (s : State) : s.Steps s.freshStall :=
  .setLink fun hl => Link.sound_of_counts hl rfl rfl rfl rfl rfl

theorem State.takeFrame_steps (s : State) (f : Frame) : s.Steps (s.takeFrame f) :=
  (State.Steps.setLink fun hl => Link.sound_accept hl f).trans (State.handAll_steps _)

theorem scan_steps (fuel : Nat) (bytes : List Byte) (s : State) : s.Steps (scan fuel bytes s) :=
  scan_keeps s.Steps (fun u f hu => hu.trans (u.takeFrame_steps f)) (fun u e hu => hu.trans (u.discardFrame_steps e))
    (fun u b hu => hu.trans (u.hold_steps b)) fuel bytes s (.refl s)

theorem State.receive_steps (s : State) (bytes : List Byte) : s.Steps (s.receive bytes) := by
  unfold State.receive
  split
  · exact .refl s
  · exact s.freshStall_steps.trans (scan_steps ..)

theorem State.stalled_steps (s : State) : s.Steps s.stalled := by
  unfold State.stalled
  split
  · exact .refl s
  · exact (s.freshStall_steps.trans (State.discardFrame_steps _ _)).trans (scan_steps ..)

theorem State.lineFree_steps (s : State) (x : Sending) : s.Steps { s with link := s.link.lineFree x } :=
  .setLink fun hl => Link.sound_of_counts hl rfl rfl rfl rfl rfl

theorem State.completeConversion_steps (s : State) (c : Conversion) (value : BitVec 12) :
    s.Steps (s.completeConversion c value) :=
  ((s.reach_steps _).trans (State.judgeConversion_serves _ _ _).steps).trans (State.Serves.setMonitor _ _).steps

/-- An event of the card's own or of its lines completes. -/
theorem exec_event_steps {c : Instr} (s : State) (hc : frameOf c = none) : ∃ t, exec c s = .next t ∧ s.Steps t := by
  have setPins : ∀ p : Pins, s.Steps { s with pins := p } := fun p => (State.Serves.setBoard s ..).steps
  cases c
  case powerOn => exact State.done_steps s.powerOn_steps
  case moduleResetEffect =>
    refine State.done_steps ?_
    split
    · exact s.powerOn_steps
    · exact .refl s
  case countEvent forward =>
    have hcounted : s.Serves (s.count forward) := .setCtu s _
    exact State.done_steps ((hcounted.trans (State.judgeCount_serves _ forward)).trans
      (State.presentAll_runs _).serves).steps
  case indexEvent =>
    refine State.done_steps ?_
    split
    · exact .refl s
    · split
      · exact (State.Serves.setCtu s _).steps
      · exact s.judgeIndex_serves.steps
  case stoppedTimeout =>
    refine State.done_steps ?_
    split
    · exact .refl s
    · exact (s.elapse_steps _).trans (State.timingFault_serves ..).steps
  case readyLineChange => exact State.done_steps (State.Serves.setBoard s ..).steps
  case readyDebounceExpiry =>
    refine State.done_steps ?_
    split
    · exact .refl s
    · exact (s.elapse_steps _).trans (State.takeReady_serves _).steps
  case frameReceived bytes => exact State.done_steps (s.receive_steps bytes)
  case stallTimeout =>
    refine State.done_steps ?_
    split
    · exact .refl s
    · exact (s.elapse_steps _).trans (State.stalled_steps _)
  case frameSent =>
    refine State.done_steps ?_
    split
    · exact .refl s
    · next x _ =>
      exact (((s.elapse_steps _).trans (State.lineFree_steps _ x)).trans (State.settled_steps _)).trans
        (State.handAll_steps _)
  case rampUpdate h =>
    refine State.done_steps ?_
    split
    · exact .refl s
    · next r hr =>
      refine (s.reach_steps _).trans (State.rampStep_works ?_).steps
      simpa [State.reach, State.elapse_heads] using hr
  case settleExpiry h =>
    refine State.done_steps ?_
    split
    · exact .refl s
    · next n hn =>
      have hsettling : (s.heads.get h).state = .settling := by
        by_contra ne
        simp [Head.settleLeft, ne] at hn
      refine (s.elapse_steps n).trans ((State.Works.updHead _ h (f := Head.settleOver) fun hx => ?_).trans
        (State.onEngaged_works _ h)).steps
      exact Head.settleOver_lawful hx (by simpa [State.elapse_heads] using hsettling)
  case dwellExpiry h =>
    refine State.done_steps ?_
    split
    · exact .refl s
    · exact (s.elapse_steps _).trans (State.retractOrder_works _ h).steps
  case moveStep k =>
    refine State.done_steps ?_
    split
    · exact .refl s
    · exact (s.reach_steps _).trans (State.moveStep_works ..).steps
  case homeSensorActive k level =>
    refine State.done_steps ?_
    dsimp only
    split
    · exact (setPins _).trans (State.homeFound_works _ k).steps
    · exact setPins _
  case limitSwitchActive k level => exact State.done_steps ((setPins _).trans (State.limitCheck_works _ k).steps)
  case copyComplete =>
    refine State.done_steps ?_
    split
    · exact .refl s
    · exact (s.reach_steps _).trans (State.finishCopy_works ..).steps
  case patchFillComplete h =>
    refine State.done_steps ?_
    split
    · exact .refl s
    · exact (s.reach_steps _).trans (State.finishFill_works _ h).steps
  case conversionComplete =>
    refine State.done_steps ?_
    split
    · exact .refl s
    · exact s.completeConversion_steps ..
  all_goals simp [frameOf] at hc

/-- Every command completes, keeps each law and the band laws, and leaves the waiting commands alone. -/
theorem exec_steps (c : Instr) (s : State) : ∃ t, exec c s = .next t ∧ s.Steps t := by
  cases hc : frameOf c with
  | none => exact exec_event_steps s hc
  | some f => exact exec_request_steps s hc

theorem step_keeps (ht : step s = .next t) : s.Keeps t ∧ s.KeepsBands t := by
  have of_exec : ∀ {c : Instr} {u : State}, exec c u = .next t → u.Keeps t ∧ u.KeepsBands t := fun {c u} hc => by
    obtain ⟨v, hv, w⟩ := exec_steps c u
    obtain rfl : v = t := by simpa [hv] using hc
    exact ⟨w.keeps, w.bands⟩
  unfold step at ht
  split at ht
  · obtain ⟨hkeeps, hbands⟩ := of_exec ht
    exact ⟨fun l hl => hkeeps l (by cases l <;> exact hl), hbands⟩
  · unfold State.idle at ht
    split at ht
    · exact of_exec ht
    · obtain rfl := Host.Outcome.next.inj ht
      exact ⟨(s.elapse_steps 1).keeps, (s.elapse_steps 1).bands⟩

end Sys2Proof.Machine

open Sys2Proof.Machine

/-- Settles O6: every step keeps the law of the memories, as one of the laws of `Law`. -/
theorem memoriesStayCanonical : Obligations.MemoriesStayCanonical := fun _ _ hs ht => (step_keeps ht).1 .memories hs

/-- Settles O7: the bounds of the link and the law of its entries are kept together. -/
theorem linkStaysWithinBounds : Obligations.LinkStaysWithinBounds := fun _ _ hb hn ht => (step_keeps ht).1 .link ⟨hb, hn⟩

/-- Settles O8: every step keeps the band laws of each head. -/
theorem bandsStayLawful : Obligations.BandsStayLawful := fun _ _ hs ht h => (step_keeps ht).2 h (hs h)

/-- Settles O9: every step keeps the queue law. -/
theorem queuesStayLawful : Obligations.QueuesStayLawful := fun _ _ hs ht => (step_keeps ht).1 .queues hs

/-- Settles O11: every step keeps each head's outputs lawful. -/
theorem headOutputsStayLawful : Obligations.HeadOutputsStayLawful := fun _ _ hs ht => (step_keeps ht).1 .heads hs

/-- Settles O12: every step keeps each axis as its state says. -/
theorem axisStatesStayLawful : Obligations.AxisStatesStayLawful := fun _ _ hs ht => (step_keeps ht).1 .axes hs

/-- Settles O3: a command is a request that a frame carries or an event, and each kind completes. -/
theorem everyCommandCompletes : Obligations.EveryCommandCompletes := fun c s => by
  obtain ⟨t, ht, w⟩ := exec_steps c s
  exact ⟨t, ht, w.pending⟩
end

section
/-! The step, reset, and the link's own requests. A request that is handed and whose owner leaves the link alone changes the
link by its answer alone (`State.done_answered`). -/

namespace Sys2Proof.Machine

variable {s t : State}

/-! ### Answers -/

/-- The request at hand is answered, and nothing else changes (R165). -/
theorem State.request_refused {α : Type} {f : Frame} {fields : Option α} {owner : α → State → State × Response} {a : α}
    {r : Response} (can : s.canHand f = true) (hf : fields = some a) (ho : owner a s.handed = (s.handed, r)) :
    (s.request f fields owner).done = .next { s with link := s.answered f.kind f.tag r } := by
  subst hf
  rw [State.request_taken s f a owner can, ho]
  rfl

/-- A payload whose length does not fit its kind (R165). -/
theorem State.request_badLength {α : Type} {f : Frame} {fields : Option α} {owner : α → State → State × Response}
    (can : s.canHand f = true) (hf : fields = none) :
    (s.request f fields owner).done = .next { s with link := s.answered f.kind f.tag ⟨.badLength, none, []⟩ } := by
  subst hf
  simp only [State.request, can]
  rfl

/-- The request at hand is taken: the owner's card with its answer. -/
theorem State.request_done {α : Type} {f : Frame} {fields : Option α} {owner : α → State → State × Response} {a : α}
    {r : Response} (can : s.canHand f = true) (hf : fields = some a) (ho : owner a s.handed = (t, r)) :
    (s.request f fields owner).done = (t.respond f.kind f.tag r).done := by
  subst hf
  rw [State.request_taken s f a owner can, ho]

theorem flagCode_eq (b : Bool) : flagCode b = if b then 1 else 0 := by cases b <;> rfl

/-! ### The dispatch order of notices -/

/-- Entry i stands before entry j in the table of R168: in a lower group, or with a lower source in the same one. -/
def NoticeId.before (i j : NoticeId) : Prop :=
  (noticeGroup i).val < (noticeGroup j).val ∨ (noticeGroup i = noticeGroup j ∧ noticeSource i < noticeSource j)

theorem noticeIds_ordered : noticeIds.Pairwise NoticeId.before := by
  unfold NoticeId.before
  decide

theorem mem_noticeIds (id : NoticeId) : id ∈ noticeIds := List.mem_of_getElem? (noticeIds_noticeIndex id)

/-- The best of the entries looked at so far: none of them is eligible, or it is, and each other eligible one has a lower
level or stands behind it at the same level (R169). -/
def Link.bestOf (l : Link) (seen : List NoticeId) : Option NoticeId → Prop
  | none => ∀ j ∈ seen, l.eligible j = false
  | some b => b ∈ seen ∧ l.eligible b = true ∧ ∀ j ∈ seen, l.eligible j = true → j ≠ b →
      l.levelOf j < l.levelOf b ∨ (l.levelOf j = l.levelOf b ∧ b.before j)

theorem Link.bestOf_better (l : Link) {seen : List NoticeId} {best : Option NoticeId} (id : NoticeId)
    (hb : l.bestOf seen best) (later : ∀ j ∈ seen, j.before id) : l.bestOf (seen ++ [id]) (l.better best id) := by
  have hmem : ∀ j, j ∈ seen ++ [id] ↔ j ∈ seen ∨ j = id := fun j => by simp
  unfold Link.better
  split
  · next hid =>
    split
    · refine ⟨by simp, hid, fun j hj he ne => ?_⟩
      obtain hj | rfl := (hmem j).mp hj
      · simp [hb j hj] at he
      · exact absurd rfl ne
    · next b =>
      obtain ⟨hbm, hbe, hbest⟩ := hb
      split
      · next lower =>
        refine ⟨by simp, hid, fun j hj he ne => .inl ?_⟩
        obtain hj | rfl := (hmem j).mp hj
        · by_cases e : j = b
          · exact e ▸ lower
          · obtain h | ⟨h, -⟩ := hbest j hj he e
            · exact h.trans lower
            · exact h ▸ lower
        · exact absurd rfl ne
      · next higher =>
        refine ⟨by simp [hbm], hbe, fun j hj he ne => ?_⟩
        obtain hj | rfl := (hmem j).mp hj
        · exact hbest j hj he ne
        · obtain h | h := Nat.lt_or_eq_of_le (Nat.le_of_not_lt higher)
          · exact .inl h
          · exact .inr ⟨h, later b hbm⟩
  · next hid =>
    cases best with
    | none =>
      intro j hj
      obtain hj | rfl := (hmem j).mp hj
      · exact hb j hj
      · simpa using hid
    | some b =>
      obtain ⟨hbm, hbe, hbest⟩ := hb
      refine ⟨by simp [hbm], hbe, fun j hj he ne => ?_⟩
      obtain hj | rfl := (hmem j).mp hj
      · exact hbest j hj he ne
      · exact absurd he hid

theorem Link.bestOf_foldl (l : Link) (ids : List NoticeId) {seen : List NoticeId} {best : Option NoticeId}
    (hb : l.bestOf seen best) (ordered : (seen ++ ids).Pairwise NoticeId.before) :
    l.bestOf (seen ++ ids) (ids.foldl l.better best) := by
  induction ids generalizing seen best with
  | nil => simpa using hb
  | cons id ids ih =>
    obtain ⟨-, -, later⟩ := List.pairwise_append.mp ordered
    have hnext := ih (l.bestOf_better id hb fun j hj => later j hj id (by simp)) (by simpa using ordered)
    simpa using hnext

theorem Link.bestOf_firstNotice (l : Link) : l.bestOf noticeIds l.firstNotice :=
  l.bestOf_foldl noticeIds (seen := []) (best := none) (by simp [Link.bestOf]) noticeIds_ordered

/-! ### Reset -/

theorem State.reset_span (k : HeadId) : State.reset.span k = none := by
  simp [State.span, State.reset_axes, Axis.reset]

theorem State.reset_separated : State.reset.separated := by
  simp [State.separated, State.lawHolds, State.spanAt, State.reset_span, apart, headOf]

theorem State.reset_screen (i : Nat) : State.reset.screen i = Screen.reset := by
  simp only [State.screen, State.reset, Vector.getElem?_replicate]
  split <;> rfl

theorem State.reset_active (h : HeadId) : State.reset.active h = none := by
  simp [State.active, State.reset, BandSequencer.reset]

theorem State.reset_held (h : HeadId) : State.reset.held h = [] := by
  simp [State.held, State.reset, BandSequencer.reset]

theorem State.reset_carriageSound (h : HeadId) : State.reset.CarriageSound h where
  lawful := State.reset_axes h ▸ Axis.reset_lawful _
  tracked := by
    rw [State.reset_axes]
    exact ⟨by simp [Axis.reset, Axis.homed], by simp [Axis.reset], by simp [Axis.reset], by simp [Axis.reset]⟩
  follows := (State.reset_bands h).1
  feeding := by simp [State.reset_active, State.reset_axes, Axis.reset]
  fits := by simp [State.reset_held]
  empty _ := by simp [State.reset, LineBuffers.reset, LineBuffers.standby]
  loads b hb := by simp [State.reset_active] at hb
  carries b hb := by simp [State.reset_active] at hb

theorem State.reset_carriagesSound : State.reset.carriagesSound := by
  refine ⟨State.reset_separated, ⟨le_rfl, fun k _ => by simp [State.reset_axes, Axis.reset]⟩,
    fun c hc => by simp [State.reset, FetchEngine.reset] at hc, fun i hi => ?_, State.reset_carriageSound⟩
  simp [State.reset_screen, Screen.reset] at hi

end Sys2Proof.Machine

open Sys2Proof.Machine

/-- Settles O1: the front command is the first case of the step. -/
theorem stepRunsFrontCommand : Obligations.StepRunsFrontCommand := fun c rest s hp => by
  simp only [step, hp]

/-- Settles O2: the second case of the step, by what is due. -/
theorem idleStepRunsDueEvent : Obligations.IdleStepRunsDueEvent := fun s hp => by
  have hidle : step s = s.idle := by simp only [step, hp]
  exact ⟨fun c hc => by simp only [hidle, State.idle, hc], fun hn => by simp only [hidle, State.idle, hn]⟩

/-- Settles O4: part by part, as the reset of each block reads. -/
theorem resetState : Obligations.ResetState := by
  refine ⟨rfl, rfl, rfl, fun i => ?_, fun i => ?_, fun h => ?_, FreePages.reset_toList, rfl, fun h => ?_, fun h => ?_, rfl,
    fun h => ?_, fun h => ?_, fun k => ?_, fun h => ?_, fun i => ?_, rfl, rfl, rfl, rfl, rfl, rfl, rfl, rfl, rfl,
    Link.reset_entry, Link.reset_group, rfl, rfl⟩
  · simp [State.reset, Screen.reset, Vector.get_eq_getElem]
  · simp only [State.reset, Vector.get_eq_getElem, Vector.getElem_replicate]
    decide
  · simp [State.reset, patchReset]
  · simp [State.reset, Store.reset]
  · simp [State.reset, LineBuffers.reset]
  · simp [State.reset, FetchEngine.reset]
  · simp [State.reset, Head.reset, HeadSettings.reset, Calibration.reset]
  · rw [State.reset_axes]; rfl
  · simp [State.reset, BandSequencer.reset]
  · simp [State.reset, Monitor.reset, Slot.reset, Vector.get_eq_getElem]

/-- Settles O5: the laws of `Law` and of the pages hold at reset, and no axis of it has a span or a band. -/
theorem resetIsSound : Obligations.ResetIsSound := by
  obtain ⟨hpages, hcopy, -⟩ := State.pagesSound.reset
  obtain ⟨hbounds, hsound⟩ := State.reset_holds .link
  exact ⟨State.reset_holds .memories, hbounds, hsound, State.reset_bands, State.reset_held, State.reset_holds .queues, hpages,
    hcopy, State.reset_holds .heads, State.reset_holds .axes, State.reset_separated, State.reset_carriagesSound⟩

/-- Settles O19: the search keeps the best of the entries looked at (`Link.bestOf`), and the table lists them in the order
of group and source. -/
theorem noticesLeaveInDispatchOrder : Obligations.NoticesLeaveInDispatchOrder := fun l => by
  have hbest := l.bestOf_firstNotice
  refine ⟨fun id hid => ?_, fun hn j => ?_⟩
  · rw [hid] at hbest
    obtain ⟨-, eligible, best⟩ := hbest
    exact ⟨eligible, fun j hj ne => best j (mem_noticeIds j) hj ne⟩
  · rw [hn] at hbest
    exact hbest j (mem_noticeIds j)

/-- Settles O21: the owner's card is that of the statement, and it joins the answer. -/
theorem setNoticeWritesItsGroup : Obligations.SetNoticeWritesItsGroup := by
  intro tag payload g level e enabled s hg hp he can
  have taken : takeSetNotice (g, level, e) s.handed = ({ s.handed with
      link := { s.handed.link with groups := s.link.groups.set g ⟨min 3 level, enabled⟩ hg } },
      ⟨if 3 < level then .clamped else .ok, none, (s.link.groups.set g ⟨min 3 level, enabled⟩ hg).toList.flatMap fun x =>
        u8 x.level ++ u8 (if x.enabled then 1 else 0)⟩) := by
    simp only [takeSetNotice, hg, dif_pos, he]
    simp [Response.taken, outside, groupBytes, flagCode_eq, State.handed]
  exact State.request_done (fields := threeBytes payload) can hp taken

/-- Settles O22: the reply of a MODULE_RESET, the refusal to hand another request, and the three ways a reset comes or does not. -/
theorem powerOnAndModuleReset : Obligations.PowerOnAndModuleReset := by
  refine ⟨fun tag s can => ?_, fun f s taken => by simp [State.canHand, taken], fun s => ?_, fun s sent => ?_, fun s hs hx => ?_⟩
  · exact State.request_done (fields := noBytes []) (owner := takeModuleReset) can rfl rfl
  · exact congrArg Host.Outcome.next (by rfl)
  · simp only [exec, execModuleResetEffect, sent, Bool.true_or, if_true]
    rfl
  · simp only [exec, execModuleResetEffect, hs, hx, Bool.or_self]
    rfl

/-- Settles O23: the owner of a query answers with the card it is handed. -/
theorem queriesReportWithoutChange : Obligations.QueriesReportWithoutChange := by
  refine ⟨fun tag s can => ?_, fun tag s can => ?_, fun tag h s can hfit => ?_, fun tag k s can hfit => ?_,
    fun tag s can => ?_, fun tag s can => ?_, fun tag s can => ?_⟩
  · exact State.request_refused (fields := noBytes []) can rfl rfl
  · exact State.request_refused (fields := noBytes []) can rfl rfl
  · exact State.request_refused can (oneByte_u8_head h) (onFitted_of_fitted (s := s.handed) hfit _)
  · exact State.request_refused can (oneByte_u8_head k) (onFitted_of_fitted (s := s.handed) hfit _)
  · exact State.request_refused (fields := noBytes []) can rfl rfl
  · exact State.request_refused (fields := oneByte [0]) can rfl rfl
  · exact State.request_done (fields := oneByte [1]) (owner := takeGetStatus) can rfl rfl
end

section
/-! Payload lengths (R165) and the round trips of section 11.5. -/

namespace Sys2Proof.Machine

variable {s t : State}

/-! ### Reading what was written -/

theorem bytes16 {n : Nat} (hn : n < 65536) : n % 256 + 256 * (n / 256 % 256) = n := by omega

theorem bytes32 {n : Nat} (hn : n < 4294967296) :
    n % 256 + 256 * (n / 256 % 256) + 65536 * (n / 65536 % 256 + 256 * (n / 16777216 % 256)) = n := by omega

/-- The j-th 16-bit value of a run of them. -/
theorem rd16_flatMap_u16 {l : List Nat} {j : Nat} (hj : j < l.length) (hl : ∀ k ∈ l, k < 65536) :
    rd16 (l.flatMap u16) (2 * j) = l[j] := by
  induction l generalizing j with
  | nil => simp at hj
  | cons k l ih =>
    cases j with
    | zero =>
      have hk := hl k (by simp)
      simp [u16, rd16, rd8, bytes16 hk]
    | succ j =>
      have hnext := ih (j := j) (by simpa using hj) fun k hk => hl k (by simp [hk])
      simpa [u16, rd16, rd8, Nat.mul_succ] using hnext

/-- The j-th pair of a run of them. -/
theorem pair_flatMap {l : List PatchPair} {j : Nat} (hj : j < l.length) (hl : ∀ q ∈ l, q.run < 65536) :
    (⟨(l.flatMap fun q => q.tone :: u16 q.run).getD (3 * j) 0,
      rd16 (l.flatMap fun q => q.tone :: u16 q.run) (3 * j + 1)⟩ : PatchPair) = l[j] := by
  induction l generalizing j with
  | nil => simp at hj
  | cons q l ih =>
    cases j with
    | zero =>
      have hq := hl q (by simp)
      simp [u16, rd16, rd8, bytes16 hq]
    | succ j =>
      have hnext := ih (j := j) (by simpa using hj) fun k hk => hl k (by simp [hk])
      simpa [u16, rd16, rd8, Nat.mul_succ] using hnext

theorem signed16_i16 {n : Int} (lo : -32768 ≤ n) (hi : n < 32768) : signed16 (n % 65536).toNat = n := by
  unfold signed16
  split <;> omega

theorem signed32_i32 {n : Int} (lo : -2147483648 ≤ n) (hi : n < 2147483648) : signed32 (n % 4294967296).toNat = n := by
  unfold signed32
  split <;> omega

end Sys2Proof.Machine

open Sys2Proof.Machine

/-- Settles O20: a payload of another length has no fields, whatever its kind. -/
theorem linkAnswersWrongRequests : Obligations.LinkAnswersWrongRequests := by
  refine ⟨fun kind tag payload s unknown can => ?_, fun f n s hmem hlen can => ?_, fun tag payload s hlen can => ?_,
    fun tag payload s hlen can => ?_, fun kind tag r s busy => ?_, fun kind tag r s free none_waits unsent => ?_⟩
  · simp only [exec, execUnknownKindRequest, unknown]
    exact State.request_refused (fields := some ()) (a := ()) (owner := fun _ t => (t, ⟨.unknownKind, none, []⟩)) can rfl rfl
  · obtain ⟨kind, tag, payload⟩ := f
    simp only [List.mem_cons, Prod.mk.injEq, List.not_mem_nil, or_false] at hmem
    rcases hmem with h | h | h | h | h | h | h | h | h | h | h | h | h | h | h | h | h | h | h | h | h | h | h | h | h | h | h <;>
      obtain ⟨rfl, rfl⟩ := h <;>
      exact State.request_badLength can (if_neg hlen)
  · exact State.request_badLength can (if_neg (by omega))
  · exact State.request_badLength can (if_neg (by simp only [rd8]; omega))
  · simp [State.answered, Link.choose, busy, State.respond, State.handed]
  · simp [State.answered, Link.choose, free, none_waits, unsent, State.respond, State.handed]

/-- Settles O16: each field is read at the offset where it was written. -/
theorem requestFieldsRoundTrip : Obligations.RequestFieldsRoundTrip := by
  refine ⟨fun f h1 h2 h3 h4 h5 h6 h7 => ?_, fun f h1 h2 h3 h4 h5 h6 => ?_, fun f h1 h2 h3 h4 h5 => ?_, fun f h1 h2 h3 h4 => ?_,
    fun f h1 h2 h3 h4 h5 h6 => ?_, fun f h1 h2 h3 => ?_,
    fun f h1 h2 h3 h4 h5 h6 h7 h8 h9 h10 h11 h12 h13 h14 h15 h16 h17 h18 => ?_, fun f h1 h2 h3 h4 h5 => ?_, fun f h1 h2 h3 => ?_,
    fun f h1 h2 h3 h4 h5 h6 h7 h8 h9 => ?_, fun f h1 h2 h3 h4 h5 => ?_, fun a b c h1 h2 h3 => ?_, fun a b h1 h2 => ?_,
    fun a => oneByte_u8⟩
  · simp [machineFields, machinePayload, u8, u16, u32, rd32, rd16, rd8, bytes16, bytes32, Nat.mod_eq_of_lt, *]
  · simp [screenFields, screenPayload, u8, u16, u32, rd32, rd16, rd8, bytes16, bytes32, Nat.mod_eq_of_lt, *]
  · have hlen : (curvePayload f).length = 37 := by simp [curvePayload, u8, u16, h4]
    have hknots : ((List.range 17).map fun j => rd16 (curvePayload f) (3 + 2 * j)) = f.knots := by
      refine List.ext_getElem (by simp [h4]) fun j _ hj => ?_
      rw [← rd16_flatMap_u16 hj h5]
      simp [curvePayload, u8, rd16, rd8, Nat.add_comm 3]
    simp only [curveFields, hlen, if_true, hknots]
    simp [curvePayload, u8, rd8, Nat.mod_eq_of_lt, *]
  · have hcount : rd8 (patchPayload f) 2 = f.pairs.length := by simp [patchPayload, u8, rd8, Nat.mod_eq_of_lt h3]
    have hlen : (patchPayload f).length = 3 + 3 * f.pairs.length := by
      simp [patchPayload, u8, u16, Nat.mul_comm]; omega
    have hpairs : ((List.range f.pairs.length).map fun j =>
        (⟨(patchPayload f).getD (3 + 3 * j) 0, rd16 (patchPayload f) (4 + 3 * j)⟩ : PatchPair)) = f.pairs := by
      refine List.ext_getElem (by simp) fun j _ hj => ?_
      rw [← pair_flatMap hj h4]
      simp [patchPayload, u8, rd16, rd8, Nat.add_comm 3, Nat.add_comm 4]
    simp only [patchFields, hcount, hlen, hpairs]
    simp [patchPayload, u8, rd8, Nat.mod_eq_of_lt, *]
  · have hlen : f.tones.length < 4097 := by omega
    simp [trackFields, trackPayload, u8, u16, rd16, rd8, bytes16, Nat.mod_eq_of_lt, *]
  · simp [dropFields, dropPayload, u8, u16, rd16, rd8, bytes16, Nat.mod_eq_of_lt, *]
  · have hg : (f.gain % 65536).toNat < 65536 := by omega
    have ho : (f.offset % 65536).toNat < 65536 := by omega
    simp [headFields, headPayload, u8, u16, i16, rd16, rd8, bytes16, signed16_i16, Nat.mod_eq_of_lt, *]
  · simp [axisFields, axisPayload, u8, u32, rd32, rd16, rd8, bytes32, Nat.mod_eq_of_lt, *]
  · have ht : (f.target % 4294967296).toNat < 4294967296 := by omega
    simp [seekFields, seekPayload, u8, u32, i32, rd32, rd16, rd8, bytes32, signed32_i32, Nat.mod_eq_of_lt, *]
  · simp [engraveFields, engravePayload, u8, u16, u32, rd32, rd16, rd8, bytes16, bytes32, Nat.mod_eq_of_lt, *]
  · simp [monitorFields, monitorPayload, u8, u16, rd16, rd8, bytes16, Nat.mod_eq_of_lt, *]
  · simp [threeBytes, u8, rd8, Nat.mod_eq_of_lt, *]
  · simp [twoBytes, u8, rd8, Nat.mod_eq_of_lt, *]
end

section
/-! The lists of the link (R163 to R167). A request is its owner's doing with one answer: an owner leaves the lists alone, and
an owner that refuses leaves the card alone (`Quiet`). -/

namespace Sys2Proof.Machine

variable {s t : State} {r : Response} {h : HeadId}

/-! ### Owners that refuse -/

/-- What an owner of a request on `s` does and answers: with a status other than OK and CLAMPED it has done nothing. -/
def Quiet (s : State) (p : State × Response) : Prop := p.2.status ≠ .ok → p.2.status ≠ .clamped → p.1 = s

@[simp] theorem Quiet.same : Quiet s (s, r) := fun _ _ => rfl

@[simp] theorem Quiet.ok (content : List Byte) : Quiet s (t, Response.ok content) := fun h _ => absurd rfl h

@[simp] theorem Quiet.taken (saturated : Bool) (content : List Byte) : Quiet s (t, Response.taken saturated content) :=
  fun h h' => by cases saturated with
    | false => exact absurd rfl h
    | true => exact absurd rfl h'

theorem onFitted_quiet {f : HeadId → State × Response} (n : Nat) (hf : ∀ h, Quiet s (f h)) : Quiet s (onFitted n s f) := by
  obtain ⟨-, hr⟩ | ⟨h, -, -, hr⟩ | ⟨h, -, -, hr⟩ := onFitted_cases n s f <;> rw [hr]
  · exact .same
  · exact .same
  · exact hf h

theorem takeSetMachine_quiet (f : MachineFields) (s : State) : Quiet s (takeSetMachine f s) := by
  unfold takeSetMachine
  repeat' split
  all_goals simp

theorem takeSetHead_quiet (f : HeadFields) (s : State) : Quiet s (takeSetHead f s) := by
  unfold takeSetHead
  dsimp only
  repeat' split
  all_goals simp

theorem takeSetAxis_quiet (f : AxisFields) (s : State) : Quiet s (takeSetAxis f s) :=
  onFitted_quiet _ fun k => by
    dsimp only
    repeat' split
    all_goals simp

theorem takeSetScreen_quiet (f : ScreenFields) (s : State) : Quiet s (takeSetScreen f s) := by
  unfold takeSetScreen writeScreen
  repeat' split
  all_goals simp

theorem takeSetCurve_quiet (f : CurveFields) (s : State) : Quiet s (takeSetCurve f s) := by
  unfold takeSetCurve writeCurve previewCurve
  dsimp only
  repeat' split
  all_goals simp

theorem takeSetPatch_quiet (f : PatchFields) (s : State) : Quiet s (takeSetPatch f s) := by
  unfold takeSetPatch writePatch
  dsimp only
  repeat' split
  all_goals simp

theorem takeSetMonitor_quiet (f : MonitorFields) (s : State) : Quiet s (takeSetMonitor f s) := by
  unfold takeSetMonitor
  dsimp only
  repeat' split
  all_goals simp

theorem takeSetNotice_quiet (f : Nat × Nat × Nat) (s : State) : Quiet s (takeSetNotice f s) := by
  unfold takeSetNotice
  repeat' split
  all_goals simp

theorem chunkOutcome_quiet (h : HeadId) (n : Nat) (s : State) (x : Option ChunkRefusal) (t : State) :
    Quiet s (chunkOutcome h n s x t) := by
  cases x with
  | none => exact .ok _
  | some x => exact .same

theorem takeTrack_quiet (f : TrackFields) (s : State) : Quiet s (takeTrack f s) :=
  onFitted_quiet _ fun h => by
    unfold takeChunk
    repeat' split
    all_goals simp [chunkOutcome_quiet]

theorem takeDropTracks_quiet (f : DropFields) (s : State) : Quiet s (takeDropTracks f s) :=
  onFitted_quiet _ fun _ => .ok _

theorem takeStoreClear_quiet (f : Unit) (s : State) : Quiet s (takeStoreClear f s) := by
  unfold takeStoreClear
  split
  · exact .same
  · exact .ok _

theorem takeEngrave_quiet (f : EngraveFields) (s : State) : Quiet s (takeEngrave f s) :=
  onFitted_quiet _ fun h => by
    unfold engraveActive engravePending
    repeat' split
    all_goals simp

theorem takeStopBand_quiet (f : Nat × Nat) (s : State) : Quiet s (takeStopBand f s) := by
  unfold takeStopBand
  split
  · exact .same
  · refine onFitted_quiet _ fun h => ?_
    unfold stopActive stopPending
    repeat' split
    all_goals simp

theorem takeAbortBand_quiet (f : Nat × Nat) (s : State) : Quiet s (takeAbortBand f s) := by
  unfold takeAbortBand
  split
  · exact .same
  · refine onFitted_quiet _ fun h => ?_
    split
    · exact .same
    · exact .ok _

theorem takeReadResult_quiet (n : Nat) (s : State) : Quiet s (takeReadResult n s) :=
  onFitted_quiet _ fun h => by
    split
    · exact .same
    · exact .ok _

theorem takeHome_quiet (n : Nat) (s : State) : Quiet s (takeHome n s) :=
  onFitted_quiet _ fun k => by
    split
    · exact .same
    · split <;> exact .ok _

theorem takeSeek_quiet (f : SeekFields) (s : State) : Quiet s (takeSeek f s) := by
  unfold takeSeek
  dsimp only
  repeat' split
  all_goals simp

theorem takeAxisHalt_quiet (n : Nat) (s : State) : Quiet s (takeAxisHalt n s) :=
  onFitted_quiet _ fun k => by split <;> simp

theorem takeHeadClear_quiet (n : Nat) (s : State) : Quiet s (takeHeadClear n s) :=
  onFitted_quiet _ fun h => by split <;> simp

theorem takeMonitorRun_quiet (f : Nat × Nat × Nat) (s : State) : Quiet s (takeMonitorRun f s) := by
  unfold takeMonitorRun
  repeat' split
  all_goals simp

theorem takeAlarmAck_quiet (n : Nat) (s : State) : Quiet s (takeAlarmAck n s) := by
  unfold takeAlarmAck
  dsimp only
  repeat' split
  all_goals simp

theorem takeGetStatus_quiet (n : Nat) (s : State) : Quiet s (takeGetStatus n s) := by
  unfold takeGetStatus
  split <;> simp

/-! ### A frame and its command -/

/-- The command of a listed request is carried by that request's frame. -/
theorem frameOf_requestOf_eq (f : Frame) : frameOf (requestOf f) = some f := by
  obtain ⟨kind, tag, payload⟩ := f
  unfold requestOf
  dsimp only
  split
  case h_30 => rfl
  all_goals next e => exact congrArg (fun k => some (Frame.mk k tag payload)) (BitVec.eq_of_toNat_eq e).symm

/-- The kinds of requests all have commands of their own. -/
theorem known_of_mem_requestKinds {kind : Byte} (hk : kind ∈ requestKinds) (tag : Byte) (payload : List Byte)
    (k tag' : Byte) (payload' : List Byte) : requestOf ⟨kind, tag, payload⟩ ≠ .unknownKindRequest k tag' payload' := by
  revert kind
  simp only [requestKinds, List.forall_mem_cons, List.not_mem_nil, false_implies, implies_true, and_true]
  refine ⟨?_, ?_, ?_, ?_, ?_, ?_, ?_, ?_, ?_, ?_, ?_, ?_, ?_, ?_, ?_, ?_, ?_, ?_, ?_, ?_, ?_, ?_, ?_, ?_, ?_, ?_, ?_, ?_, ?_⟩ <;>
    exact nofun

/-- A command that names no request carries a kind that is none of the requests'. -/
theorem unknown_of_requestOf {f : Frame} {k tag : Byte} {p : List Byte} (e : requestOf f = .unknownKindRequest k tag p) :
    requestKinds.contains k = false := by
  have hf : f = ⟨k, tag, p⟩ := by
    have hframe := frameOf_requestOf_eq f
    rw [e] at hframe
    exact (Option.some.inj hframe).symm
  by_contra hk
  exact known_of_mem_requestKinds (by simpa using hk) f.tag f.payload k tag p (by rw [← e, hf])

/-- What an owner of a request of some kind may do: it leaves the link's lists alone; unless the request is a
MODULE_RESET it takes no reset; and when it refuses it leaves the card alone. -/
def Owned (kind : Byte) (u : State) (p : State × Response) : Prop :=
  u.Owns p.1 ∧ (kind ≠ 0x2A → p.1.link.resetTaken = u.link.resetTaken) ∧ Quiet u p

theorem State.Serves.owned {kind : Byte} {u : State} {p : State × Response} (w : u.Serves p.1) (q : Quiet u p) :
    Owned kind u p := ⟨w.toOwns, fun _ => w.taken, q⟩

/-- A request command is what some owner does with its fields (R165). -/
theorem exec_request_owned {c : Instr} {f : Frame} (hc : frameOf c = some f)
    (known : ∀ k tag p, c = .unknownKindRequest k tag p → requestKinds.contains k = false) :
    ∃ (α : Type) (fields : Option α) (owner : α → State → State × Response),
      (∀ s, exec c s = (s.request f fields owner).done) ∧ ∀ a u, Owned f.kind u (owner a u) := by
  have asks : ∀ (f : HeadId → List Byte) (n : Nat) (kind : Byte) (u : State),
      Owned kind u (onFitted n u fun h => (u, Response.ok (f h))) :=
    fun _ n _ u => (onFitted_serves n fun _ => .refl u).owned (onFitted_quiet n fun _ => .same)
  cases c <;> simp only [frameOf, Option.some.injEq, reduceCtorEq] at hc <;> subst hc
  case setMachine => exact ⟨_, _, _, fun _ => rfl, fun a u => (takeSetMachine_serves a u).owned (takeSetMachine_quiet a u)⟩
  case setHead => exact ⟨_, _, _, fun _ => rfl, fun a u => (takeSetHead_serves a u).owned (takeSetHead_quiet a u)⟩
  case setAxis => exact ⟨_, _, _, fun _ => rfl, fun a u => (takeSetAxis_serves a u).owned (takeSetAxis_quiet a u)⟩
  case setScreen => exact ⟨_, _, _, fun _ => rfl, fun a u => (takeSetScreen_serves a u).owned (takeSetScreen_quiet a u)⟩
  case setCurve => exact ⟨_, _, _, fun _ => rfl, fun a u => (takeSetCurve_serves a u).owned (takeSetCurve_quiet a u)⟩
  case setPatch => exact ⟨_, _, _, fun _ => rfl, fun a u => (takeSetPatch_serves a u).owned (takeSetPatch_quiet a u)⟩
  case setMonitor => exact ⟨_, _, _, fun _ => rfl, fun a u => (takeSetMonitor_serves a u).owned (takeSetMonitor_quiet a u)⟩
  case setNotice => exact ⟨_, _, _, fun _ => rfl, fun a u => (takeSetNotice_serves a u).owned (takeSetNotice_quiet a u)⟩
  case track => exact ⟨_, _, _, fun _ => rfl, fun a u => (takeTrack_serves a u).owned (takeTrack_quiet a u)⟩
  case dropTracks => exact ⟨_, _, _, fun _ => rfl, fun a u => (takeDropTracks_serves a u).owned (takeDropTracks_quiet a u)⟩
  case storeClear => exact ⟨_, _, _, fun _ => rfl, fun a u => (takeStoreClear_serves a u).owned (takeStoreClear_quiet a u)⟩
  case engrave => exact ⟨_, _, _, fun _ => rfl, fun a u => (takeEngrave_serves a u).owned (takeEngrave_quiet a u)⟩
  case stopBand => exact ⟨_, _, _, fun _ => rfl, fun a u => (takeStopBand_serves a u).owned (takeStopBand_quiet a u)⟩
  case abortBand => exact ⟨_, _, _, fun _ => rfl, fun a u => (takeAbortBand_serves a u).owned (takeAbortBand_quiet a u)⟩
  case readResult => exact ⟨_, _, _, fun _ => rfl, fun a u => (takeReadResult_serves a u).owned (takeReadResult_quiet a u)⟩
  case home => exact ⟨_, _, _, fun _ => rfl, fun a u => (takeHome_serves a u).owned (takeHome_quiet a u)⟩
  case seek => exact ⟨_, _, _, fun _ => rfl, fun a u => (takeSeek_serves a u).owned (takeSeek_quiet a u)⟩
  case axisHalt => exact ⟨_, _, _, fun _ => rfl, fun a u => (takeAxisHalt_serves a u).owned (takeAxisHalt_quiet a u)⟩
  case headClear => exact ⟨_, _, _, fun _ => rfl, fun a u => (takeHeadClear_serves a u).owned (takeHeadClear_quiet a u)⟩
  case monitorRun => exact ⟨_, _, _, fun _ => rfl, fun a u => (takeMonitorRun_serves a u).owned (takeMonitorRun_quiet a u)⟩
  case monitorHalt => exact ⟨_, _, _, fun _ => rfl, fun a u => (takeMonitorHalt_serves a u).owned (.ok _)⟩
  case alarmAck => exact ⟨_, _, _, fun _ => rfl, fun a u => (takeAlarmAck_serves a u).owned (takeAlarmAck_quiet a u)⟩
  case moduleReset => exact ⟨_, _, _, fun _ => rfl, fun a u => ⟨takeModuleReset_owns a u, fun ne => absurd rfl ne, .ok _⟩⟩
  case getStatus => exact ⟨_, _, _, fun _ => rfl, fun a u => (takeGetStatus_serves a u).owned (takeGetStatus_quiet a u)⟩
  case getCylinder => exact ⟨_, _, _, fun _ => rfl, fun _ u => (State.Serves.refl u).owned .same⟩
  case getStore => exact ⟨_, _, _, fun _ => rfl, fun _ u => (State.Serves.refl u).owned .same⟩
  case getMonitor => exact ⟨_, _, _, fun _ => rfl, fun _ u => (State.Serves.refl u).owned .same⟩
  case getHead => exact ⟨_, _, _, fun _ => rfl, fun n u => asks _ n _ u⟩
  case getAxis => exact ⟨_, _, _, fun _ => rfl, fun n u => asks _ n _ u⟩
  case unknownKindRequest k tag p =>
    have unknown := known k tag p rfl
    refine ⟨Unit, some (), fun _ u => (u, ⟨.unknownKind, none, []⟩), fun s => ?_, fun _ u => (State.Serves.refl u).owned .same⟩
    simp only [exec, execUnknownKindRequest, unknown]
    rfl

/-- A request that is handed adds one reply, of its kind and tag, behind what its owner does; what the owner does depends on
the card that the request has left alone (R160, R165). -/
theorem exec_handed {c : Instr} {f : Frame} (hc : frameOf c = some f)
    (known : ∀ k tag p, c = .unknownKindRequest k tag p → requestKinds.contains k = false) :
    ∃ owner : State → State × Response, (∀ u, Owned f.kind u (owner u)) ∧ ∀ s : State, s.canHand f = true →
      exec c s = ((owner s.handed).1.respond f.kind f.tag (owner s.handed).2).done := by
  obtain ⟨α, fields, owner, e, owned⟩ := exec_request_owned hc known
  cases fields with
  | none =>
    refine ⟨fun u => (u, Response.badLength []), fun u => (State.Serves.refl u).owned .same, fun s can => ?_⟩
    rw [e, State.request, if_pos can]
  | some a => exact ⟨owner a, owned a, fun s can => by rw [e, State.request_taken s f a owner can]⟩

/-! ### The transmitter -/

theorem Link.choose_busy {l : Link} (busy : l.sending.isSome = true) : l.choose = l := by simp [Link.choose, busy]

end Sys2Proof.Machine

open Sys2Proof.Machine

/-- Settles O37: the owner leaves the lists alone, and the card when it refuses; the reply joins behind it. -/
theorem refusedRequestsChangeNothing : Obligations.RefusedRequestsChangeNothing := fun f s can busy => by
  obtain ⟨owner, owned, e⟩ := exec_handed (frameOf_requestOf_eq f) fun _ _ _ e => unknown_of_requestOf e
  have e := e s can
  obtain ⟨owns, -, quiet⟩ := owned s.handed
  obtain ⟨inbound, outbound, sending, -, -⟩ := owns.lists
  generalize owner s.handed = p at e owns quiet inbound outbound sending
  obtain ⟨u, r⟩ := p
  have hbusy : (u.respond f.kind f.tag r).link.sending.isSome = true := by
    change u.link.sending.isSome = true
    rw [sending]; exact busy
  have hnext : exec (requestOf f) s = .next (u.respond f.kind f.tag r) := by
    rw [e, State.done, State.settled, Link.choose_busy hbusy]
  refine ⟨_, ⟨f.kind + 0x80, f.tag, r.status, r.reason, r.content⟩, hnext, ?_, inbound, rfl, rfl, fun hok hclamped => ?_⟩
  · change u.link.outbound ++ _ = _
    rw [outbound]; rfl
  · have hsame : u = s.handed := quiet hok hclamped
    subst hsame
    rfl
end

section
/-! The receiver on whole frames, noise and bad frames (R162 to R165). -/

namespace Sys2Proof.Machine

variable {s t : State} {r : Response} {h : HeadId}

/-! ### The link as time passes -/

theorem State.elapse_received (s : State) (n : Nat) : (s.elapse n).link.received = s.link.received := by
  unfold State.elapse; split <;> rfl

theorem State.elapse_errors (s : State) (n : Nat) : (s.elapse n).link.errors = s.link.errors := by
  unfold State.elapse; split <;> rfl

theorem State.elapse_inbound (s : State) (n : Nat) : (s.elapse n).link.inbound = s.link.inbound := by
  unfold State.elapse; split <;> rfl

theorem State.elapse_outbound (s : State) (n : Nat) : (s.elapse n).link.outbound = s.link.outbound := by
  unfold State.elapse; split <;> rfl

theorem State.elapse_notices (s : State) (n : Nat) : (s.elapse n).link.notices = s.link.notices := by
  unfold State.elapse; split <;> rfl

theorem State.elapse_groups (s : State) (n : Nat) : (s.elapse n).link.groups = s.link.groups := by
  unfold State.elapse; split <;> rfl

theorem State.elapse_resetTaken (s : State) (n : Nat) : (s.elapse n).link.resetTaken = s.link.resetTaken := by
  unfold State.elapse; split <;> rfl

theorem State.elapse_resetSent (s : State) (n : Nat) : (s.elapse n).link.resetSent = s.link.resetSent := by
  unfold State.elapse; split <;> rfl

/-! ### One search of the receiver -/

/-- The number that a 16-bit value's two bytes carry, wherever they stand. -/
theorem rd16_u16_append {n : Nat} (hn : n < 65536) (p q : List Byte) : rd16 (p ++ (u16 n ++ q)) p.length = n := by
  have lo : (p ++ (u16 n ++ q)).getD p.length 0 = BitVec.ofNat 8 n := by simp [u16, List.getD]
  have hi : (p ++ (u16 n ++ q)).getD (p.length + 1) 0 = BitVec.ofNat 8 (n / 256) := by simp [u16, List.getD]
  simp only [rd16, rd8, lo, hi, BitVec.toNat_ofNat]
  omega

theorem frameBody_length (kind tag : Byte) (payload : List Byte) : (frameBody kind tag payload).length = payload.length + 4 := by
  simp [frameBody, u16]

/-- What the receiver reads of a frame that is followed by other bytes: its LEN, its KIND and TAG, its body and its
CHECK. -/
theorem frame_reads (kind tag : Byte) (payload : List Byte) (fits : payload.length ≤ 4106) {check : Nat}
    (hcheck : check < 65536) (rest : List Byte) :
    let p := frameBody kind tag payload ++ (u16 check ++ rest)
    rd16 p 0 = payload.length + 2 ∧ p.getD 2 0 = kind ∧ p.getD 3 0 = tag ∧
      p.take (payload.length + 4) = frameBody kind tag payload ∧ rd16 p (payload.length + 4) = check ∧
      p.drop (payload.length + 6) = rest := by
  have hlen := frameBody_length kind tag payload
  intro p
  refine ⟨?_, by simp [p, frameBody, u16], by simp [p, frameBody, u16], ?_, ?_, ?_⟩
  · exact (by simp [p, frameBody] : p = [] ++ (u16 (payload.length + 2) ++ ([kind, tag] ++ payload ++ (u16 check ++ rest)))) ▸
      rd16_u16_append (by omega) [] _
  · exact hlen ▸ List.take_left
  · exact hlen ▸ rd16_u16_append hcheck _ _
  · have hp : p = (frameBody kind tag payload ++ u16 check) ++ rest := by simp [p]
    rw [hp]
    exact List.drop_left' (by simp [hlen, u16])

/-- A good frame is taken whole (R162 to R164). -/
theorem scan_frame (fuel : Nat) (kind tag : Byte) (payload rest : List Byte) (fits : payload.length ≤ 4106) (s : State) :
    scan (fuel + 1) (encodeFrame kind tag payload ++ rest) s = scan fuel rest (s.takeFrame ⟨kind, tag, payload⟩) := by
  have hlen := frameBody_length kind tag payload
  have hcrc : (crc (frameBody kind tag payload)).toNat < 65536 := (crc _).isLt
  obtain ⟨hl, hk, ht, hbody, hc, hrest⟩ := frame_reads kind tag payload fits hcrc rest
  have hsize : (frameBody kind tag payload ++ (u16 (crc (frameBody kind tag payload)).toNat ++ rest)).length =
      payload.length + 6 + rest.length := by simp [hlen, u16]; omega
  have hpayload : (frameBody kind tag payload).drop 4 = payload := by simp [frameBody, u16]
  have hframe : encodeFrame kind tag payload ++ rest =
      sync :: (frameBody kind tag payload ++ (u16 (crc (frameBody kind tag payload)).toNat ++ rest)) := by
    simp [encodeFrame]
  rw [hframe]
  generalize frameBody kind tag payload ++ (u16 (crc (frameBody kind tag payload)).toNat ++ rest) = p at *
  have hbad : ¬(rd16 p 0 < lenMin ∨ lenMax < rd16 p 0) := by simp only [hl, lenMin, lenMax]; omega
  rw [scan, if_neg (by simp), if_neg (by omega), if_neg hbad, if_neg (by omega), hl, if_pos (by rw [hc, hbody]), hk, ht, hbody,
    hpayload, hrest]

/-- Bytes with no SYNC are dropped (R162). -/
theorem scan_noise {bytes : List Byte} (noise : sync ∉ bytes) {fuel : Nat} (enough : bytes.length < fuel) (s : State) :
    scan fuel bytes s = s.hold [] := by
  induction bytes generalizing fuel with
  | nil => cases fuel <;> rfl
  | cons b rest ih =>
    obtain ⟨fuel, rfl⟩ : ∃ n, fuel = n + 1 := ⟨fuel - 1, by simp at enough; omega⟩
    simp only [List.mem_cons, not_or] at noise
    rw [scan, if_pos (Ne.symm noise.1)]
    exact ih noise.2 (by simp at enough; omega)

theorem scan_badLen {fuel : Nat} {rest : List Byte} (long : 2 ≤ rest.length)
    (bad : rd16 rest 0 < 2 ∨ 4108 < rd16 rest 0) (s : State) :
    scan (fuel + 1) (sync :: rest) s = scan fuel rest (s.discardFrame .badLen) := by
  rw [scan, if_neg (by simp), if_neg (by omega), if_pos (by simpa only [lenMin, lenMax] using bad)]

theorem scan_badCheck {fuel : Nat} {kind tag : Byte} {payload : List Byte} (fits : payload.length ≤ 4106) {check : Nat}
    (hcheck : check < 65536) (bad : check ≠ (crc (frameBody kind tag payload)).toNat) (s : State) :
    scan (fuel + 1) (sync :: frameBody kind tag payload ++ u16 check) s =
      scan fuel (frameBody kind tag payload ++ u16 check) (s.discardFrame .badCheck) := by
  obtain ⟨hl, -, -, hbody, hc, -⟩ := frame_reads kind tag payload fits hcheck []
  rw [List.append_nil] at hl hbody hc
  have hsize : (frameBody kind tag payload ++ u16 check).length = payload.length + 6 := by
    simp [frameBody_length, u16]
  rw [List.cons_append]
  generalize frameBody kind tag payload ++ u16 check = p at *
  have hbad : ¬(rd16 p 0 < lenMin ∨ lenMax < rd16 p 0) := by simp only [hl, lenMin, lenMax]; omega
  rw [scan, if_neg (by simp), if_neg (by omega), if_neg hbad, if_neg (by omega), hl, if_neg (by rw [hc, hbody]; exact bad)]

/-! ### What a frame meets -/

theorem State.hold_nil (hs : s.link.received = []) : s.hold [] = s := by
  have : ({ s.link with received := [] } : Link) = s.link := by rw [← hs]
  simp [State.hold, this]

theorem Link.accept_received (l : Link) (f : Frame) : (l.accept f).received = l.received := by
  obtain ⟨-, e⟩ | ⟨-, -, e⟩ | ⟨-, -, e⟩ := l.accept_cases f <;> simp [e, Link.discard]

/-- Nothing is handed once a MODULE_RESET has been taken or 16 replies wait. -/
theorem State.canHand_of_blocked (s : State) (blocked : 16 ≤ s.link.outbound.length ∨ s.link.resetTaken = true) (f : Frame) :
    s.canHand f = false := by
  obtain full | taken := blocked
  · simp [State.canHand, Config.outboundLimit, Nat.not_lt.mpr full]
  · simp [State.canHand, taken]

theorem State.takeFrame_blocked {f : Frame}
    (blocked : 16 ≤ (s.link.accept f).outbound.length ∨ (s.link.accept f).resetTaken = true) :
    s.takeFrame f = { s with link := s.link.accept f } :=
  State.handUpTo_blocked _ _ fun g _ => State.canHand_of_blocked _ blocked g

/-- Bytes taken in HUNT (R162). -/
theorem State.receive_hunt (hunt : s.link.received = []) {bytes : List Byte} (ne : bytes ≠ []) :
    s.receive bytes = scan (bytes.length + 1) bytes s.freshStall := by
  cases bytes with
  | nil => exact absurd rfl ne
  | cons b rest => simp [State.receive, hunt]

/-- A whole frame taken in HUNT. -/
theorem State.receive_frame (hunt : s.link.received = []) (kind tag : Byte) (payload : List Byte)
    (fits : payload.length ≤ 4106) :
    s.receive (encodeFrame kind tag payload) = (s.freshStall.takeFrame ⟨kind, tag, payload⟩).hold [] := by
  rw [State.receive_hunt hunt (by simp [encodeFrame]), ← List.append_nil (encodeFrame kind tag payload),
    scan_frame _ _ _ _ _ fits]
  simp [encodeFrame, scan]

/-- A frame that finds no room to be handed is listed, answered QUEUE_FULL, or dropped (R164). -/
theorem exec_frameReceived_blocked (hunt : s.link.received = []) (kind tag : Byte) (payload : List Byte)
    (fits : payload.length ≤ 4106) {l : Link} (hl : s.freshStall.link.accept ⟨kind, tag, payload⟩ = l)
    (blocked : 16 ≤ l.outbound.length ∨ l.resetTaken = true) :
    exec (.frameReceived (encodeFrame kind tag payload)) s = .next { s with link := l.choose } := by
  subst hl
  have hnext : s.receive (encodeFrame kind tag payload) =
      { s with link := s.freshStall.link.accept ⟨kind, tag, payload⟩ } := by
    rw [State.receive_frame hunt kind tag payload fits, State.takeFrame_blocked blocked,
      State.hold_nil ((Link.accept_received s.freshStall.link _).trans hunt)]
    rfl
  change (s.receive _).done = _
  rw [hnext]
  rfl

/-- An effect that the receiver has on the link alone. -/
theorem exec_frameReceived_link {bytes : List Byte} {l : Link} (hl : s.receive bytes = { s with link := l }) :
    exec (.frameReceived bytes) s = .next { s with link := l.choose } := by
  change (s.receive bytes).done = _
  rw [hl]
  rfl

theorem State.receive_noise (hunt : s.link.received = []) {bytes : List Byte} (ne : bytes ≠ []) (noise : sync ∉ bytes) :
    s.receive bytes = { s with link := { s.link with stall := 0 } } := by
  rw [State.receive_hunt hunt ne, scan_noise noise (by omega), State.hold_nil (s := s.freshStall) hunt]
  rfl

theorem State.receive_badLen (hunt : s.link.received = []) {lo hi : Byte} (hlo : lo ≠ sync) (hhi : hi ≠ sync)
    (bad : lo.toNat + 256 * hi.toNat < 2 ∨ 4108 < lo.toNat + 256 * hi.toNat) :
    s.receive [sync, lo, hi] = { s with link := { s.link with
      errors := min 65535 (s.link.errors + 1), lastError := some .badLen, stall := 0 } } := by
  rw [State.receive_hunt hunt (by simp), scan_badLen (rest := [lo, hi]) (by simp) bad,
    scan_noise (by simp [Ne.symm hlo, Ne.symm hhi]) (by simp),
    State.hold_nil (s := s.freshStall.discardFrame .badLen) hunt]
  rfl

theorem State.receive_badCheck (hunt : s.link.received = []) {kind tag : Byte} {payload : List Byte}
    (fits : payload.length ≤ 4106) {check : Nat} (hcheck : check < 65536)
    (bad : check ≠ (crc (frameBody kind tag payload)).toNat) (noise : sync ∉ frameBody kind tag payload)
    (noise' : sync ∉ u16 check) :
    s.receive (sync :: frameBody kind tag payload ++ u16 check) = { s with link := { s.link with
      errors := min 65535 (s.link.errors + 1), lastError := some .badCheck, stall := 0 } } := by
  rw [State.receive_hunt hunt (by simp), scan_badCheck fits hcheck bad,
    scan_noise (by simp [noise, noise']) (by simp), State.hold_nil (s := s.freshStall.discardFrame .badCheck) hunt]
  rfl

/-! ### Frames that are handed -/

/-- A request arrives with none listed and is handed (R165). -/
theorem State.canHand_of_room {f : Frame} (room : s.link.outbound.length < 16) (untaken : s.link.resetTaken = false)
    (first : s.link.inbound = [] ∨ ∃ rest, s.link.inbound = f :: rest) : s.canHand f = true := by
  obtain none_listed | ⟨rest, listed⟩ := first
  · simp [State.canHand, Config.outboundLimit, room, untaken, none_listed]
  · simp [State.canHand, Config.outboundLimit, room, untaken, listed]

/-- What a request that is handed leaves of the link's lists: its reply joins, as far as the transmitter does not take it at
once. -/
theorem handed_lists {owner : State → State × Response} {f : Frame} (owned : ∀ u, Owned f.kind u (owner u)) {t : State}
    (ht : ((owner s.handed).1.respond f.kind f.tag (owner s.handed).2).settled = t) :
    t.link.inbound = s.link.inbound.tail ∧ t.link.received = s.link.received ∧
      (f.kind ≠ 0x2A → t.link.resetTaken = s.link.resetTaken) ∧
      (s.link.sending.isSome = true → t.link.sending.isSome = true ∧
        ∃ r : Reply, r.kind = f.kind + 0x80 ∧ r.tag = f.tag ∧ t.link.outbound = s.link.outbound ++ [r]) := by
  subst ht
  obtain ⟨owns, untaken, -⟩ := owned s.handed
  obtain ⟨inbound, outbound, sending, received, -⟩ := owns.lists
  obtain ⟨hin, hreceived, -, -, -, -, htaken, -⟩ :=
    Link.choose_frame ((owner s.handed).1.respond f.kind f.tag (owner s.handed).2).link
  refine ⟨hin.trans inbound, hreceived.trans received, fun ne => htaken.trans (untaken ne), fun busy => ?_⟩
  have hbusy : ((owner s.handed).1.respond f.kind f.tag (owner s.handed).2).link.sending.isSome = true := by
    change (owner s.handed).1.link.sending.isSome = true
    rw [sending]; exact busy
  refine ⟨by rw [State.settled, Link.choose_busy hbusy]; exact hbusy,
    ⟨f.kind + 0x80, f.tag, (owner s.handed).2.status, (owner s.handed).2.reason, (owner s.handed).2.content⟩, rfl, rfl, ?_⟩
  rw [State.settled, Link.choose_busy hbusy]
  change (owner s.handed).1.link.outbound ++ _ = _
  rw [outbound]; rfl

/-- A kind that names no request is that of the command for such kinds. -/
theorem requestOf_unknown {k : Byte} (unknown : requestKinds.contains k = false) (tag : Byte) (p : List Byte) :
    requestOf ⟨k, tag, p⟩ = .unknownKindRequest k tag p := by
  unfold requestOf
  dsimp only
  split
  case h_30 => rfl
  all_goals next e => simp [requestKinds, ← BitVec.toNat_inj, e] at unknown

/-- A frame that arrives with none listed and finds room is handed as the command it carries (R165). -/
theorem takeFrame_handed {c : Instr} {f : Frame} (hc : frameOf c = some f)
    (known : ∀ k tag p, c = .unknownKindRequest k tag p → requestKinds.contains k = false) :
    ∃ owner : State → State × Response, (∀ u, Owned f.kind u (owner u)) ∧ ∀ s : State, s.link.inbound = [] →
      s.link.outbound.length < 16 → s.link.resetTaken = false →
      exec c s = ((owner s.handed).1.respond f.kind f.tag (owner s.handed).2).done ∧
        s.takeFrame f = ((owner s.handed).1.respond f.kind f.tag (owner s.handed).2).settled := by
  have hcommand : c = requestOf f := by
    obtain e | ⟨k, tag, p, e⟩ := requestOf_frameOf c f hc
    · exact e
    · subst e
      obtain rfl := Option.some.inj hc
      exact (requestOf_unknown (known k tag p rfl) tag p).symm
  obtain ⟨owner, owned, e⟩ := exec_handed hc known
  refine ⟨owner, owned, fun s unlisted room untaken => ⟨e s (State.canHand_of_room room untaken (.inl unlisted)), ?_⟩⟩
  have haccept : s.link.accept f = { s.link with inbound := [f] } := by
    obtain ⟨-, h⟩ | ⟨full, -⟩ | ⟨full, -⟩ := s.link.accept_cases f
    · rw [h, unlisted]; rfl
    · simp [unlisted] at full
    · simp [unlisted] at full
  have hsame : State.handed { s with link := s.link.accept f } = s.handed := by
    simp [State.handed, haccept, unlisted]
  have hcan : State.canHand { s with link := s.link.accept f } f = true :=
    State.canHand_of_room (by simpa [haccept] using room) (by simpa [haccept] using untaken)
      (.inr ⟨[], by simp [haccept]⟩)
  have hserved : State.served { s with link := s.link.accept f } f =
      ((owner s.handed).1.respond f.kind f.tag (owner s.handed).2).settled := by
    rw [State.served, State.serve_eq, ← hcommand, e _ hcan, hsame]
    rfl
  have hall : s.takeFrame f = (State.served { s with link := s.link.accept f } f).handUpTo 0 := by
    rw [← State.handUpTo_succ _ 0 f [] (by simp [haccept]) hcan]
    simp [State.takeFrame, State.handAll, haccept]
  rw [hall, hserved]
  rfl

/-- Frames back to back are handed in the order of their arrival, and each adds its reply (R162, R165). -/
theorem scan_frames (fs : List Frame) (hfs : ∀ f ∈ fs, f.payload.length ≤ 4106 ∧ f.kind ≠ 0x2A) (s : State)
    (hunt : s.link.received = []) (unlisted : s.link.inbound = []) (busy : s.link.sending.isSome = true)
    (untaken : s.link.resetTaken = false) (room : s.link.outbound.length + fs.length ≤ 16) {fuel : Nat}
    (enough : fs.length < fuel) : ∃ t rs, scan fuel (fs.flatMap fun f => encodeFrame f.kind f.tag f.payload) s = t ∧
      t.link.inbound = [] ∧ t.link.received = [] ∧ t.link.sending.isSome = true ∧
      t.link.outbound = s.link.outbound ++ rs ∧
      rs.map (fun r => (r.kind, r.tag)) = fs.map fun f => (f.kind + 0x80, f.tag) := by
  induction fs generalizing s fuel with
  | nil =>
    obtain ⟨fuel, rfl⟩ : ∃ n, fuel = n + 1 := ⟨fuel - 1, by simp at enough; omega⟩
    exact ⟨s, [], State.hold_nil hunt, unlisted, hunt, busy, by simp, rfl⟩
  | cons f fs ih =>
    obtain ⟨fuel, rfl⟩ : ∃ n, fuel = n + 1 := ⟨fuel - 1, by omega⟩
    obtain ⟨⟨fits, kind⟩, hfs⟩ := List.forall_mem_cons.mp hfs
    simp only [List.length_cons] at room enough
    obtain ⟨owner, owned, hand⟩ := takeFrame_handed (frameOf_requestOf_eq f) fun _ _ _ e => unknown_of_requestOf e
    obtain ⟨-, ht⟩ := hand s unlisted (by omega) untaken
    obtain ⟨hin, hreceived, htaken, hbusy⟩ := handed_lists owned ht.symm
    obtain ⟨hsending, r, hkind, htag, hout⟩ := hbusy busy
    obtain ⟨u, rs, hscan, h1, h2, h3, hrs, hmap⟩ := ih hfs (s.takeFrame f) (hreceived.trans hunt) (by rw [hin, unlisted]; rfl)
      hsending ((htaken kind).trans untaken) (by rw [hout, List.length_append, List.length_singleton]; omega)
      (fuel := fuel) (by omega)
    refine ⟨u, r :: rs, ?_, h1, h2, h3, by rw [hrs, hout]; simp, by simp [hmap, hkind, htag]⟩
    rw [List.flatMap_cons, scan_frame _ _ _ _ _ fits]
    exact hscan

theorem length_le_frames (fs : List Frame) :
    fs.length ≤ (fs.flatMap fun f => encodeFrame f.kind f.tag f.payload).length := by
  induction fs with
  | nil => simp
  | cons f fs ih => simp [encodeFrame]; omega

theorem le_of_payloadFits {p : List Byte} (h : payloadFits p = true) : p.length ≤ 4106 := of_decide_eq_true h

/-- A well-formed request command has a payload that a frame can carry. -/
theorem payload_fits {c : Instr} {f : Frame} (hc : frameOf c = some f) (wf : c.wellFormed = true) :
    f.payload.length ≤ 4106 := by
  cases c <;> simp only [frameOf, Option.some.injEq, reduceCtorEq] at hc <;> subst hc
  case unknownKindRequest => exact le_of_payloadFits (Bool.and_eq_true_iff.mp wf).2
  all_goals exact le_of_payloadFits wf

theorem known_of_wellFormed {c : Instr} (wf : c.wellFormed = true) {k tag : Byte} {p : List Byte}
    (e : c = .unknownKindRequest k tag p) : requestKinds.contains k = false := by
  subst e
  simp only [Instr.wellFormed, Bool.and_eq_true, Bool.not_eq_true'] at wf
  exact wf.1

end Sys2Proof.Machine

open Sys2Proof.Machine

/-- Settles O15: a frame that is blocked is listed as it was encoded (`exec_frameReceived_blocked`); one that is not is
handed as its command (`takeFrame_handed`), and so are several (`scan_frames`). -/
theorem frameIsListedAndHanded : Obligations.FrameIsListedAndHanded := by
  refine ⟨fun kind tag payload s fits hunt room blocked => ?_, fun c f s wf hc hunt unlisted room untaken => ?_,
    fun fs s hfs hunt unlisted busy untaken room => ?_⟩
  · obtain ⟨-, h⟩ | ⟨full, -⟩ | ⟨full, -⟩ := s.freshStall.link.accept_cases ⟨kind, tag, payload⟩
    · exact exec_frameReceived_blocked hunt kind tag payload fits h blocked
    · exact absurd full (Nat.not_le.mpr room)
    · exact absurd full (Nat.not_le.mpr room)
  · obtain ⟨owner, owned, hand⟩ := takeFrame_handed hc fun _ _ _ => known_of_wellFormed wf
    obtain ⟨hexec, htake⟩ := hand s.freshStall unlisted room untaken
    have hreceived := (handed_lists owned htake.symm).2.1
    have hnext : s.receive (encodeFrame f.kind f.tag f.payload) = s.freshStall.takeFrame f := by
      rw [State.receive_frame hunt _ _ _ (payload_fits hc wf)]
      exact State.hold_nil (hreceived.trans hunt)
    change (s.receive _).done = exec c s.freshStall
    rw [hexec, hnext, htake, State.done, State.settled_settled]
    rfl
  · cases fs with
    | nil =>
      refine ⟨s, [], ?_, unlisted, hunt, by simp, rfl⟩
      exact congrArg Host.Outcome.next (congrArg (fun l => { s with link := l }) (Link.choose_busy busy))
    | cons f fs =>
      obtain ⟨t, rs, hscan, h1, h2, h3, h4, h5⟩ := scan_frames (f :: fs) hfs s.freshStall hunt unlisted busy untaken room
        (Nat.lt_succ_of_le (length_le_frames _))
      refine ⟨t, rs, ?_, h1, h2, h4, h5⟩
      change (s.receive _).done = _
      rw [State.receive_hunt hunt (by simp [encodeFrame]), hscan]
      exact congrArg Host.Outcome.next (congrArg (fun l => { t with link := l }) (Link.choose_busy h3))

/-- Settles O17: each way the receiver can drop what it reads, or the list refuse it. -/
theorem unlistedFramesAreAnsweredOrDropped : Obligations.UnlistedFramesAreAnsweredOrDropped := by
  refine ⟨fun s hunt => ⟨fun kind tag payload fits full => ⟨fun room taken => ?_, fun waiting => ?_⟩,
    fun bytes ne noise => exec_frameReceived_link (State.receive_noise hunt ne noise),
    fun lo hi hlo hhi bad => exec_frameReceived_link (State.receive_badLen hunt hlo hhi bad),
    fun kind tag payload check fits hcheck bad noise noise' =>
      exec_frameReceived_link (State.receive_badCheck hunt fits hcheck bad noise noise')⟩,
    fun b rest s hreceived noise => ?_, fun s hunt => ?_⟩
  · obtain ⟨free, -⟩ | ⟨-, -, h⟩ | ⟨-, none_left, -⟩ := s.freshStall.link.accept_cases ⟨kind, tag, payload⟩
    · exact absurd free (by simp [State.freshStall, full])
    · exact exec_frameReceived_blocked hunt kind tag payload fits h (.inr taken)
    · exact absurd room (Nat.not_lt.mpr none_left)
  · obtain ⟨free, -⟩ | ⟨-, free, -⟩ | ⟨-, -, h⟩ := s.freshStall.link.accept_cases ⟨kind, tag, payload⟩
    · exact absurd free (by simp [State.freshStall, full])
    · exact absurd free (by simp [State.freshStall, waiting])
    · exact exec_frameReceived_blocked hunt kind tag payload fits h (.inl waiting.ge)
  · have hne : s.link.received ≠ [] := by simp [hreceived]
    have hstalled : (s.elapse (5000 - s.link.stall)).stalled = { s.elapse (5000 - s.link.stall) with
        link := { (s.elapse (5000 - s.link.stall)).link with
          received := [], stall := 0, errors := min 65535 (s.link.errors + 1), lastError := some .stall } } := by
      simp only [State.stalled, State.elapse_received, hreceived]
      rw [scan_noise noise (Nat.lt_succ_self _), ← State.elapse_errors s (5000 - s.link.stall)]
      rfl
    simp only [exec, execStallTimeout, if_neg hne, stallLimit, hstalled]
    rfl
  · simp only [exec, execStallTimeout, hunt, if_true]
    rfl
end

section
/-! The end of a frame on the line (R165, R167). -/

namespace Sys2Proof.Machine

variable {s t : State}

/-! ### The choice of a transmitter that has just become free -/

theorem Link.lineFree_of_not_resets {l : Link} {x : Sending} (hx : x.resets = false) :
    l.lineFree x = { l with sending := none } := by simp [Link.lineFree, hx]

theorem Link.choose_reply {l : Link} {r : Reply} {rs : List Reply} (free : l.sending = none) (unsent : l.resetSent = false)
    (waiting : l.outbound = r :: rs) : l.choose = { l with outbound := rs, sending := some (sendReply r) } := by
  simp [Link.choose, free, unsent, waiting]

theorem Link.choose_notice {l : Link} {id : NoticeId} (free : l.sending = none) (unsent : l.resetSent = false)
    (none_waits : l.outbound = []) (first : l.firstNotice = some id) :
    l.choose = { l.setEntry id { l.entry id with pending := false, count := 0 } with
      sending := some (sendNotice id (l.entry id)) } := by
  simp [Link.choose, free, unsent, none_waits, first]

theorem Link.choose_idle {l : Link} (none_waits : l.outbound = []) (none_eligible : l.firstNotice = none) :
    l.choose = l := by
  simp [Link.choose, none_waits, none_eligible]

/-- Which notice is first depends on the table and the groups alone. -/
theorem Link.firstNotice_congr {l m : Link} (notices : m.notices = l.notices) (groups : m.groups = l.groups) :
    m.firstNotice = l.firstNotice := by
  have hbetter : m.better = l.better := by
    funext best id
    simp only [Link.better, Link.eligible, Link.levelOf, Link.entry, notices, groups]
    rfl
  simp [Link.firstNotice, hbetter]

/-- The end of a frame, as far as the transmitter's choice. -/
theorem exec_frameSent {x : Sending} (hx : s.link.sending = some x) {l : Link}
    (hl : ((s.elapse (ceilDiv x.left 5)).link.lineFree x).choose = l) :
    exec .frameSent s = (State.handAll { s.elapse (ceilDiv x.left 5) with link := l }).done := by
  subst hl
  simp only [exec, execFrameSent, hx]
  rfl

theorem exec_frameSent_unlisted {x : Sending} (hx : s.link.sending = some x) (unlisted : s.link.inbound = []) {l : Link}
    (hl : ((s.elapse (ceilDiv x.left 5)).link.lineFree x).choose = l) :
    exec .frameSent s = .next { s.elapse (ceilDiv x.left 5) with link := l } := by
  have hin : l.inbound = [] := by
    rw [← hl, (Link.choose_frame _).1]
    exact (s.elapse_inbound _).trans unlisted
  have hchosen : l.choose = l := by rw [← hl, Link.choose_choose]
  rw [exec_frameSent hx hl, State.handAll_nil _ hin, State.done, State.settled]
  simp only [hchosen]

/-- With room for one reply, one listed request is handed, and its reply takes the room. -/
theorem State.handAll_one {f : Frame} {rest : List Frame} (listed : s.link.inbound = f :: rest)
    (room : s.link.outbound.length = 15) (busy : s.link.sending.isSome = true) (untaken : s.link.resetTaken = false) :
    s.handAll.done = exec (requestOf f) s := by
  obtain ⟨owner, owned, e⟩ := exec_handed (frameOf_requestOf_eq f) fun _ _ _ e => unknown_of_requestOf e
  have can : s.canHand f = true := State.canHand_of_room (by omega) untaken (.inr ⟨rest, listed⟩)
  have hserved : s.served f = ((owner s.handed).1.respond f.kind f.tag (owner s.handed).2).settled := by
    rw [State.served, State.serve_eq, e s can]
    rfl
  obtain ⟨-, -, -, hbusy⟩ := handed_lists owned hserved.symm
  obtain ⟨-, r, -, -, hout⟩ := hbusy busy
  have hall : s.handAll = s.served f := by
    rw [State.handAll, listed, List.length_cons, State.handUpTo_succ _ _ f rest listed can]
    exact State.handUpTo_blocked _ _ fun g _ => State.canHand_of_blocked _ (.inl (by rw [hout]; simp [room])) g
  rw [hall, hserved, e s can, State.done, State.settled_settled]
  rfl

end Sys2Proof.Machine

open Sys2Proof Sys2Proof.Machine

/-- Settles O18: what the freed transmitter chooses, case by case; with one reply gone from a full list one listed request is
handed (`State.handAll_one`). -/
theorem frameSentChoosesNext : Obligations.FrameSentChoosesNext := by
  intro x s hx unsent
  have hunsent := (s.elapse_resetSent (ceilDiv x.left 5)).trans unsent
  have hfirst := Link.firstNotice_congr (m := { (s.elapse (ceilDiv x.left 5)).link with sending := none }) (l := s.link)
    (s.elapse_notices _) (s.elapse_groups _)
  refine ⟨fun unlisted hr => ⟨fun r rs waiting => ?_, fun id none_waits first => ?_, fun none_waits none_eligible => ?_⟩,
    fun unlisted hr => ?_, fun f rest r rs listed waiting room untaken hr => ?_⟩
  · refine exec_frameSent_unlisted hx unlisted ?_
    rw [Link.lineFree_of_not_resets hr]
    exact Link.choose_reply rfl hunsent ((s.elapse_outbound _).trans waiting)
  · refine exec_frameSent_unlisted hx unlisted ?_
    have hchoice := Link.choose_notice (l := { (s.elapse (ceilDiv x.left 5)).link with sending := none }) rfl hunsent
      ((s.elapse_outbound _).trans none_waits) (hfirst.trans first)
    rw [Link.lineFree_of_not_resets hr, hchoice]
    have hentry : Link.entry { (s.elapse (ceilDiv x.left 5)).link with sending := none } id = s.link.entry id := by
      simp [Link.entry, State.elapse_notices]
    rw [hentry]
    rfl
  · refine exec_frameSent_unlisted hx unlisted ?_
    rw [Link.lineFree_of_not_resets hr]
    exact Link.choose_idle ((s.elapse_outbound _).trans none_waits) (hfirst.trans none_eligible)
  · refine exec_frameSent_unlisted hx unlisted ?_
    simp [Link.lineFree, Link.choose, hr]
  · have hchoice := Link.choose_reply (l := { (s.elapse (ceilDiv x.left 5)).link with sending := none }) rfl hunsent
      ((s.elapse_outbound _).trans waiting)
    have hl : ((s.elapse (ceilDiv x.left 5)).link.lineFree x).choose = { (s.elapse (ceilDiv x.left 5)).link with
        outbound := rs, sending := some (sendReply r) } := by
      rw [Link.lineFree_of_not_resets hr]; exact hchoice
    rw [exec_frameSent hx hl]
    exact State.handAll_one (s := { s.elapse (ceilDiv x.left 5) with link := { (s.elapse (ceilDiv x.left 5)).link with
      outbound := rs, sending := some (sendReply r) } }) ((s.elapse_inbound _).trans listed) room rfl
      ((s.elapse_resetTaken _).trans untaken)
end

section
/-! The requests that write settings and tables. -/

namespace Sys2Proof.Machine

variable {s t : State} {h : HeadId}

/-! ### Answers of requests that saturate -/

theorem Response.taken_eq {b : Bool} {p : Prop} [Decidable p] (hp : b = true ↔ p) (content : List Byte) :
    Response.taken b content = ⟨if p then .clamped else .ok, none, content⟩ := by
  simp only [Response.taken, hp]

@[simp] theorem outside_iff {lo hi n : Nat} : outside lo hi n = true ↔ n < lo ∨ hi < n := by simp [outside]

@[simp] theorem outsideInt_iff {lo hi n : Int} : outsideInt lo hi n = true ↔ n < lo ∨ hi < n := by simp [outsideInt]

/-! ### SET_SCREEN (R19 to R22) -/

theorem State.screen_val (s : State) (i : Fin 16) : s.screen i.val = s.screens.get i := by
  simp [State.screen, Vector.get_eq_getElem]

theorem State.curve_val (s : State) (i : Fin 8) : s.curve i.val = s.curves.get i := by
  simp [State.curve, Vector.get_eq_getElem]

section
variable {f : ScreenFields} {i : Fin 16} (hf : f.screen = i.val)
include hf

theorem takeSetScreen_write (hm : f.mode = 0) : takeSetScreen f s = writeScreen i f s := by
  simp [takeSetScreen, hm, tableModeOf, hf]

theorem takeSetScreen_read (hm : f.mode = 1) :
    takeSetScreen f s = (s, Response.ok (screenContent i.val (s.screens.get i))) := by
  simp [takeSetScreen, hm, tableModeOf, hf, State.screen_val]

theorem takeSetScreen_badMode (hm : 1 < f.mode) :
    takeSetScreen f s = (s, Response.badField (screenContent i.val (s.screens.get i))) := by
  have hnone : tableModeOf f.mode = none := by
    unfold tableModeOf
    split
    · omega
    · omega
    · rfl
  simp [takeSetScreen, hnone, hf, State.screen_val]

end

section
variable {f : ScreenFields} {i : Fin 16}

theorem writeScreen_busy (used : s.screenInUse i.val = true) :
    writeScreen i f s = (s, Response.busy (screenContent i.val (s.screens.get i))) := by
  simp [writeScreen, used, State.screen_val]

theorem writeScreen_clear (free : s.screenInUse i.val = false) (hn : f.n = 0) :
    writeScreen i f s = (s.setScreen i Screen.reset, Response.ok (screenContent i.val Screen.reset)) := by
  simp [writeScreen, free, hn]

theorem writeScreen_bad (free : s.screenInUse i.val = false) (hn : f.n ≠ 0)
    (bad : f.n < 64 ∨ 16384 < f.n ∨ f.pitch = 0 ∨ 4095 < f.pitch) :
    writeScreen i f s = (s, Response.badField (screenContent i.val (s.screens.get i))) := by
  have : (outside 64 16384 f.n || outside 1 4095 f.pitch) = true := by simp; omega
  simp [writeScreen, free, hn, this, State.screen_val]

theorem writeScreen_taken (free : s.screenInUse i.val = false) (h1 : 64 ≤ f.n) (h2 : f.n ≤ 16384) (h3 : 1 ≤ f.pitch)
    (h4 : f.pitch ≤ 4095) : writeScreen i f s = (s.setScreen i f.entry,
      ⟨if 8191 < f.gap ∨ 65535 < f.stagger then .clamped else .ok, none, screenContent i.val f.entry⟩) := by
  have hn : f.n ≠ 0 := by omega
  have inside : (outside 64 16384 f.n || outside 1 4095 f.pitch) = false := by
    rw [Bool.eq_false_iff]; simp; omega
  simp only [writeScreen, free, hn, inside]
  simp [Response.taken_eq (p := 8191 < f.gap ∨ 65535 < f.stagger)]

end

theorem State.screenInUse_iff (s : State) (i : Nat) : s.screenInUse i = true ↔ ∃ h, ∃ b ∈ s.held h, b.screen = i := by
  simp [State.screenInUse, heads4, Fin.exists_fin_succ]

/-! ### SET_CURVE and SET_PATCH (R34 to R37, R82) -/

section
variable {f : CurveFields} {i : Fin 8} (hf : f.curve = i.val)
include hf

theorem takeSetCurve_write (hm : f.mode = 0) : takeSetCurve f s = writeCurve i f s := by
  simp [takeSetCurve, hm, curveModeOf, hf]

theorem takeSetCurve_read (hm : f.mode = 1) :
    takeSetCurve f s = (s, Response.ok (curveContent i.val (s.curves.get i))) := by
  simp [takeSetCurve, hm, curveModeOf, hf, State.curve_val]

theorem takeSetCurve_preview (hm : f.mode = 2) (hh : f.head = h.val) (hfit : s.fitted h = true) :
    takeSetCurve f s = (s, Response.ok (curveContent i.val (s.curves.get i) ++
      previewContent (s.heads.get h).settings.calibration
        (depthEntries (s.curves.get i) (s.heads.get h).settings.calibration))) := by
  simp [takeSetCurve, hm, curveModeOf, hf, previewCurve, hh, headOf_val, hfit, State.curve_val]

end

section
variable {f : PatchFields} (hf : f.head = h.val) (hfit : s.fitted h = true)
include hf hfit

theorem takeSetPatch_write (hm : f.mode = 0) : takeSetPatch f s = writePatch h f s := by
  simp [takeSetPatch, hf, headOf_val, hm, tableModeOf, hfit]

theorem takeSetPatch_read (hm : f.mode = 1) :
    takeSetPatch f s = (s, Response.ok (patchContent h (s.patches.get h))) := by
  simp [takeSetPatch, hf, headOf_val, hm, tableModeOf, hfit]

end

end Sys2Proof.Machine

open Sys2Proof Sys2Proof.Machine

/-- Settles O32: the cases of a WRITE, the READ, and the modes that are neither. -/
theorem setScreenWritesOrReads : Obligations.SetScreenWritesOrReads := by
  intro tag payload f i s hp hf can
  refine ⟨fun hm free h1 h2 h3 h4 => ?_, fun hm => ?_, fun hm used => ?_, fun bad => ?_⟩
  · exact (State.request_done can hp ((takeSetScreen_write hf hm).trans (writeScreen_taken free h1 h2 h3 h4))).trans rfl
  · exact State.request_refused can hp (takeSetScreen_read hf hm)
  · exact State.request_refused can hp ((takeSetScreen_write hf hm).trans (writeScreen_busy used))
  · obtain hm | ⟨hm, free, hn, bad⟩ := bad
    · exact State.request_refused can hp (takeSetScreen_badMode hf hm)
    · exact State.request_refused can hp ((takeSetScreen_write hf hm).trans (writeScreen_bad free hn bad))

/-- Settles O33: a WRITE with N = 0 is looked at before G, S and PITCH are. -/
theorem setScreenClears : Obligations.SetScreenClears := by
  intro tag payload f i s hp hf hm hn can
  refine ⟨fun used => ?_, fun free => ?_⟩
  · exact State.request_refused can hp ((takeSetScreen_write hf hm).trans
      (writeScreen_busy ((State.screenInUse_iff s.handed _).mpr used)))
  · have hfree : s.screenInUse i.val = false := by
      rw [Bool.eq_false_iff, Ne, State.screenInUse_iff]
      rintro ⟨h, b, hb, hscreen⟩
      exact free h b hb hscreen
    exact (State.request_done can hp ((takeSetScreen_write hf hm).trans (writeScreen_clear hfree hn))).trans rfl

/-- Settles O36: each mode of the two requests, from what the owner answers in it. -/
theorem curvesAndPatchesWritten : Obligations.CurvesAndPatchesWritten := by
  refine ⟨fun tag payload f i s hp hf can => ⟨fun hm free => ?_, fun hm used => ?_, fun hm => ?_,
    fun h c es hm hh hfit hc hes => ?_⟩, fun tag payload f h s hp hf hfit can => ⟨fun pairs hm free h1 h2 hpairs => ?_,
    fun hm used => ?_, fun hm free bad => ?_, fun hm => ?_⟩⟩
  · have written : writeCurve i f s.handed = (s.handed.setCurve i (f.knots.map (min 4095)),
        ⟨if f.knots.any (fun k => 4095 < k) then .clamped else .ok, none,
          u8 i.val ++ (f.knots.map (min 4095)).flatMap u16⟩) := by
      have hany : f.knots.any (outside 0 4095) = f.knots.any fun k => decide (4095 < k) := rfl
      have hfree : s.handed.curveInUse i.val = false := free
      simp [writeCurve, hfree, Response.taken, hany, curveContent]
    exact (State.request_done can hp ((takeSetCurve_write hf hm).trans written)).trans rfl
  · have busy : writeCurve i f s.handed = (s.handed, Response.busy (curveContent i.val (s.curves.get i))) := by
      have hused : s.handed.curveInUse i.val = true := used
      simp only [writeCurve, hused, if_true, State.curve_val]
      rfl
    exact State.request_refused can hp ((takeSetCurve_write hf hm).trans busy)
  · exact State.request_refused can hp (takeSetCurve_read hf hm)
  · subst hc hes
    exact State.request_refused can hp (takeSetCurve_preview (s := s.handed) hf hm hh hfit)
  · subst hpairs
    have written : writePatch h f s.handed = ({ s.handed with
        patches := s.patches.set h (f.pairs.map fun p => ⟨p.tone, max 1 (min 4096 p.run)⟩) },
        ⟨if f.pairs.any (fun p => p.run = 0 ∨ 4096 < p.run) then .clamped else .ok, none,
          patchContent h (f.pairs.map fun p => ⟨p.tone, max 1 (min 4096 p.run)⟩)⟩) := by
      have hfree : s.handed.patchInUse h = false := free
      have inside : outside 1 32 f.pairs.length = false := by rw [Bool.eq_false_iff, Ne, outside_iff]; omega
      have hany : (f.pairs.any fun p => outside 1 4096 p.run) = f.pairs.any fun p => decide (p.run = 0 ∨ 4096 < p.run) := by
        congr 1; funext p; rw [Bool.eq_iff_iff]; simp
      simp only [writePatch, hfree, inside, Response.taken, hany]
      rfl
    exact (State.request_done can hp ((takeSetPatch_write (s := s.handed) hf hfit hm).trans written)).trans rfl
  · have busy : writePatch h f s.handed = (s.handed, Response.busy (patchContent h (s.patches.get h))) := by
      have hused : s.handed.patchInUse h = true := used
      simp only [writePatch, hused, if_true]
      rfl
    exact State.request_refused can hp ((takeSetPatch_write (s := s.handed) hf hfit hm).trans busy)
  · have refused : writePatch h f s.handed = (s.handed, Response.badField (patchContent h (s.patches.get h))) := by
      have hfree : s.handed.patchInUse h = false := free
      have hout : outside 1 32 f.pairs.length = true := by rw [outside_iff]; omega
      simp only [writePatch, hfree, hout, if_true]
      rfl
    exact State.request_refused can hp ((takeSetPatch_write (s := s.handed) hf hfit hm).trans refused)
  · exact State.request_refused can hp (takeSetPatch_read (s := s.handed) hf hfit hm)
end

section
/-! SET_HEAD, SET_AXIS, the monitor's requests, the refusals of TRACK, and SET_MACHINE. -/

namespace Sys2Proof.Machine

variable {s t : State} {h : HeadId}

/-! ### SET_HEAD (R101, R102) -/

theorem HeadFields.saturated_iff (f : HeadFields) : f.saturated = true ↔
    f.level = 0 ∨ 4095 < f.level ∨ 255 < f.rampStep ∨ 7 < f.rampCode ∨ 255 < f.settle ∨ 255 < f.dwell ∨ f.fmin < 500 ∨
      20000 < f.fmin ∨ f.fmax < 500 ∨ 20000 < f.fmax ∨ f.fmax < f.fmin ∨ f.suspendLimit = 0 ∨ 255 < f.suspendLimit ∨
      255 < f.leadMark ∨ f.gain < -4096 ∨ 4095 < f.gain ∨ f.offset < -512 ∨ 511 < f.offset ∨ f.floor = 0 ∨
      4095 < f.floor ∨ 4095 < f.ceiling ∨ f.ceiling < f.floor := by
  simp only [saturated, calibrationSaturated, Bool.or_eq_true, outside_iff, outsideInt_iff, decide_eq_true_eq]
  simp only [clampTo]
  omega

theorem takeSetHead_eq {f : HeadFields} (hf : f.head = h.val) (hfit : s.fitted h = true) : takeSetHead f s =
    if s.held h ≠ [] ∨ (s.heads.get h).state ≠ .parked then (s, Response.busy (headSettingsBytes (s.heads.get h).settings))
    else match shapeOf f.shape with
      | none => (s, Response.badField (headSettingsBytes (s.heads.get h).settings))
      | some shape => (s.updHead h fun x => { x with settings := f.settings shape },
          Response.taken f.saturated (headSettingsBytes (f.settings shape))) := by
  have hcond : (!(s.held h).isEmpty || decide ((s.heads.get h).state ≠ .parked)) = true ↔
      s.held h ≠ [] ∨ (s.heads.get h).state ≠ .parked := by simp
  simp only [takeSetHead, hf, headOf_val, hfit, if_true, hcond] <;> rfl

theorem shapeOf_eq_none {n : Nat} (hn : 1 < n) : shapeOf n = none := by
  unfold shapeOf
  split
  · omega
  · omega
  · rfl

/-! ### SET_AXIS (R106) -/

theorem AxisFields.saturated_iff (f : AxisFields) : f.saturated = true ↔
    4000000 < f.origin ∨ f.maxpos = 0 ∨ 4000000 < f.maxpos ∨ f.homeSpan = 0 ∨ 8000000 < f.homeSpan ∨ f.rate < 100 ∨
      200000 < f.rate := by
  simp only [saturated, Bool.or_eq_true, outside_iff]
  omega

theorem State.axisWritable_iff (s : State) (k : HeadId) : s.axisWritable k = true ↔
    (s.axes.get k).state = .unhomed ∨
      ((s.axes.get k).state = .idle ∧ (s.heads.get k).state = .parked ∧ s.held k = []) := by
  unfold State.axisWritable
  cases (s.axes.get k).state <;> simp

section
variable {f : AxisFields} {k : HeadId} (hf : f.axis = k.val) (hfit : s.fitted k = true)
include hf hfit

theorem takeSetAxis_busy (no : ¬s.axisWritable k = true) :
    takeSetAxis f s = (s, Response.busy (axisSettingsBytes (s.axes.get k).settings)) := by
  rw [takeSetAxis, hf, onFitted_of_fitted hfit]
  simp [no]

theorem takeSetAxis_range (can : s.axisWritable k = true) (idle : (s.axes.get k).state = .idle)
    (out : f.settings.maxpos < (s.axes.get k).pos) :
    takeSetAxis f s = (s, Response.refused .range (axisSettingsBytes (s.axes.get k).settings)) := by
  rw [takeSetAxis, hf, onFitted_of_fitted hfit]
  simp [can, idle, out]

theorem takeSetAxis_collision (can : s.axisWritable k = true) (idle : (s.axes.get k).state = .idle)
    (inside : (s.axes.get k).pos ≤ f.settings.maxpos)
    (near : s.clearOf k (f.settings.origin + (s.axes.get k).pos, f.settings.origin + (s.axes.get k).pos) = false) :
    takeSetAxis f s = (s, Response.refused .collision (axisSettingsBytes (s.axes.get k).settings)) := by
  rw [takeSetAxis, hf, onFitted_of_fitted hfit]
  simp [can, idle, Nat.not_lt.mpr inside, near]

theorem takeSetAxis_taken (can : s.axisWritable k = true) (ok : (s.axes.get k).state = .idle →
      (s.axes.get k).pos ≤ f.settings.maxpos ∧
        s.clearOf k (f.settings.origin + (s.axes.get k).pos, f.settings.origin + (s.axes.get k).pos) = true) :
    takeSetAxis f s = (s.updAxis k fun x => { x with settings := f.settings },
      Response.taken f.saturated (axisSettingsBytes f.settings)) := by
  rw [takeSetAxis, hf, onFitted_of_fitted hfit]
  by_cases idle : (s.axes.get k).state = .idle
  · obtain ⟨inside, clear⟩ := ok idle
    simp [can, Nat.not_lt.mpr inside, clear]
  · simp [can, idle]

end

/-! ### The monitor (R150 to R157) -/

theorem slotOf_val (i : Fin 16) : slotOf i.val = some i := dif_pos i.isLt

theorem actionOf_eq_none {n : Nat} (hn : 3 < n) : actionOf n = none := by
  unfold actionOf
  split
  iterate 4 omega
  rfl

theorem Slot.latestInRange_of_value {x : Slot} {v : Nat} (hv : x.value = some v) :
    x.latestInRange = true ↔ x.low ≤ v ∧ v ≤ x.high := by
  simp [Slot.latestInRange, hv, Slot.inRange]

theorem MonitorFields.saturated_iff (f : MonitorFields) : f.saturated = true ↔
    4095 < f.low ∨ 4095 < f.high ∨ f.hysteresis = 0 ∨ 15 < f.hysteresis := by
  simp only [saturated, Bool.or_eq_true, outside_iff]
  omega

theorem takeMonitorHalt_eq (s : State) : takeMonitorHalt () s = (s.setMonitor { s.monitor with
    haltRequest := if s.monitor.mode = .halted then s.monitor.haltRequest else true }, Response.ok []) := by
  by_cases halted : s.monitor.mode = .halted
  · simp only [takeMonitorHalt, if_pos halted]
    rfl
  · simp only [takeMonitorHalt, if_neg halted]

theorem runModeOf_code {mode : MonitorMode} (ne : mode ≠ .halted) : runModeOf mode.code = some mode := by
  cases mode <;> simp [runModeOf, MonitorMode.code] at ne ⊢

theorem MonitorMode.code_lt (mode : MonitorMode) : mode.code < 256 := by cases mode <;> decide

/-! ### The refusals of TRACK (R52 to R55) -/

theorem headOf_eq_none {n : Nat} (hn : 3 < n) : headOf n = none := dif_neg (by omega)

theorem trackKindOf_eq_none {n : Nat} (hn : 2 < n) : trackKindOf n = none := by
  unfold trackKindOf
  split
  iterate 3 omega
  rfl

theorem openingTooLong_iff (f : TrackFields) (kind : TrackKind) :
    openingTooLong f kind = true ↔ (if kind = .data then f.n else 0) < f.tones.length := by
  cases kind <;> simp [openingTooLong, Nat.pos_iff_ne_zero]

theorem opensFilling_iff (f : TrackFields) (kind : TrackKind) :
    opensFilling f kind = true ↔ kind = .data ∧ f.tones.length < f.n := by
  cases kind <;> simp [opensFilling]

section
variable {f : TrackFields} (hf : f.head = h.val)
include hf

theorem takeTrack_unfitted (hfit : s.fitted h = false) : takeTrack f s = (s, Response.refused .notFitted []) := by
  simp [takeTrack, hf, onFitted, headOf_val, hfit]

theorem takeTrack_badField (hfit : s.fitted h = true) (bad : 2 < f.kind ∨ f.n < 64 ∨ 16384 < f.n) :
    takeTrack f s = (s, Response.badField (trackContent h f.number s)) := by
  rw [takeTrack, hf, onFitted_of_fitted hfit]
  cases hkind : trackKindOf f.kind with
  | none => rfl
  | some kind =>
    have hout : outside 64 16384 f.n = true := by
      obtain b | b := bad
      · simp [trackKindOf_eq_none b] at hkind
      · exact outside_iff.mpr b
    simp only [hout, if_true]

theorem takeTrack_chunk {kind : TrackKind} (hkind : trackKindOf f.kind = some kind) (lo : 64 ≤ f.n) (hi : f.n ≤ 16384)
    (hfit : s.fitted h = true) : takeTrack f s = takeChunk h f kind s := by
  have inside : outside 64 16384 f.n = false := by rw [Bool.eq_false_iff, Ne, outside_iff]; omega
  rw [takeTrack, hf, onFitted_of_fitted hfit]
  simp only [hkind, inside]
  rfl

end

section
variable {f : TrackFields} {kind : TrackKind} {x : ChunkRefusal}

theorem takeChunk_duplicate {d : Descriptor} (hd : s.store.find h f.number = some d) (complete : d.complete = true) :
    takeChunk h f kind s = (s, Response.refused .duplicate (trackContent h f.number s)) := by
  simp [takeChunk, hd, complete]

theorem takeChunk_continuation {d : Descriptor} (hd : s.store.find h f.number = some d) (filling : d.complete = false)
    (hx : continuationRefusal f kind d = some x) :
    takeChunk h f kind s = (s, x.response (trackContent h f.number s)) := by
  simp [takeChunk, hd, filling, hx, chunkOutcome]

theorem takeChunk_misplaced (fresh : s.store.find h f.number = none) (hoff : f.offset ≠ 0) :
    takeChunk h f kind s =
      (s, Response.refused (if s.behind h f.number then .stale else .order) (trackContent h f.number s)) := by
  simp [takeChunk, fresh, hoff]

theorem takeChunk_opening (fresh : s.store.find h f.number = none) (hoff : f.offset = 0)
    (hx : s.openingRefusal h f kind = some x) :
    takeChunk h f kind s = (s, x.response (trackContent h f.number s)) := by
  simp [takeChunk, fresh, hoff, hx, chunkOutcome]

end

end Sys2Proof.Machine

open Sys2Proof Sys2Proof.Machine

/-- Settles O45: the owner's three answers to a fitted head (`takeSetHead_eq`). -/
theorem setHeadWritten : Obligations.SetHeadWritten := by
  intro tag payload f h s hp hf hfit can
  have htake := takeSetHead_eq (s := s.handed) hf hfit
  refine ⟨fun shape c idle parked hshape hc => ?_, fun busy => ?_, fun idle parked bad => ?_⟩
  · rw [if_neg (by simpa using ⟨idle, parked⟩), hshape] at htake
    have hsettings : f.settings shape = c := by
      subst hc
      simp [HeadFields.settings, HeadFields.calibration, clampTo, clampInt]
    simp only [hsettings, Response.taken_eq f.saturated_iff] at htake
    exact (State.request_done can hp htake).trans rfl
  · rw [if_pos (show s.handed.held h ≠ [] ∨ (s.handed.heads.get h).state ≠ .parked from busy)] at htake
    exact State.request_refused can hp htake
  · rw [if_neg (by simpa using ⟨idle, parked⟩), shapeOf_eq_none bad] at htake
    exact State.request_refused can hp htake

/-- Settles O49: the checks of the owner in their order. -/
theorem setAxisWritten : Obligations.SetAxisWritten := by
  intro tag payload f k a c s hp hf hfit can ha hc
  have hsettings : f.settings = c := by subst hc; rfl
  have hw := State.axisWritable_iff s.handed k
  subst ha
  refine ⟨fun ok => ?_, fun busy => ?_, fun idle parked free => ⟨fun out => ?_, fun inside near => ?_⟩⟩
  · have htake := takeSetAxis_taken (s := s.handed) hf hfit (hw.mpr (ok.imp id fun ⟨hi, hpk, hh, _⟩ => ⟨hi, hpk, hh⟩))
      (fun idle => by
        obtain e | ⟨-, -, -, inside, clear⟩ := ok
        · exact absurd (e.symm.trans idle) (by simp)
        · rw [hsettings]; exact ⟨inside, clear⟩)
    rw [hsettings, Response.taken_eq f.saturated_iff] at htake
    exact (State.request_done can hp htake).trans rfl
  · have no : ¬s.handed.axisWritable k = true := by
      rw [hw]
      rintro (e | ⟨e, parked, free⟩)
      · have e : (s.axes.get k).state = .unhomed := e
        simp [e] at busy
      · have e : (s.axes.get k).state = .idle := e
        obtain b | b | b | ⟨-, b | b⟩ := busy
        · simp [e] at b
        · simp [e] at b
        · simp [e] at b
        · exact b parked
        · exact b free
    exact State.request_refused can hp (takeSetAxis_busy (s := s.handed) hf hfit no)
  · rw [← hsettings] at out
    exact State.request_refused can hp (takeSetAxis_range (s := s.handed) hf hfit (hw.mpr (.inr ⟨idle, parked, free⟩)) idle out)
  · rw [← hsettings] at inside near
    exact State.request_refused can hp (takeSetAxis_collision (s := s.handed) hf hfit (hw.mpr (.inr ⟨idle, parked, free⟩)) idle
      inside near)

/-- Settles O58: each request of the monitor, by its mode and by its slot's latch. -/
theorem monitorRequests : Obligations.MonitorRequests := by
  refine ⟨fun tag payload f i x s hp hf can hx => ?_, fun tag mode start stop s ne can => ?_, fun tag s can => ?_,
    fun tag i x s can hx => ?_⟩
  · have hslot : s.monitor.slot i = x := hx.symm
    have htake : ∀ p, (if s.monitor.mode ≠ .halted then (s.handed, Response.busy (slotBytes x))
        else if x.latched then (s.handed, Response.refused .stillActive (slotBytes x))
        else match actionOf f.action with
          | none => (s.handed, Response.badField (slotBytes x))
          | some action =>
            if 15 < f.mask.toNat ∨ min 4095 f.high < min 4095 f.low then (s.handed, Response.badField (slotBytes x))
            else (s.handed.setMonitor (s.monitor.setSlot i (f.record action x)),
              Response.taken f.saturated (slotBytes (f.record action x)))) = p → takeSetMonitor f s.handed = p := by
      rintro p rfl
      rw [takeSetMonitor, hf, slotOf_val]
      dsimp only [State.handed]
      rw [hslot]
      rfl
    refine ⟨fun run => ?_, fun halted latched => ?_, fun halted clear bad => ?_,
      fun action y halted clear haction mask order hy => ?_⟩
    · exact State.request_refused can hp (htake _ (if_pos run))
    · exact State.request_refused can hp (htake _ (by simp only [halted, latched]; rfl))
    · refine State.request_refused can hp (htake (s.handed, Response.badField (slotBytes x)) ?_)
      simp only [halted, clear, ne_eq, not_true, if_false, Bool.false_eq_true]
      cases haction : actionOf f.action with
      | none => rfl
      | some action =>
        have hbad : 15 < f.mask.toNat ∨ min 4095 f.high < min 4095 f.low := by
          obtain b | b := bad
          · simp [actionOf_eq_none b] at haction
          · exact b
        simp only [hbad, if_true]
    · have hrecord : f.record action x = y := by subst hy; rfl
      refine (State.request_done can hp (htake (s.handed.setMonitor (s.monitor.setSlot i y),
        ⟨if 4095 < f.low ∨ 4095 < f.high ∨ f.hysteresis = 0 ∨ 15 < f.hysteresis then .clamped else .ok, none,
          slotBytes y⟩) ?_)).trans rfl
      simp only [halted, clear, haction, ne_eq, not_true, if_false, Bool.false_eq_true, hrecord,
        Response.taken_eq f.saturated_iff]
      rw [if_neg (by omega)]
  · have hp : threeBytes (u8 mode.code ++ u8 start.val ++ u8 stop.val) = some (mode.code, start.val, stop.val) := by
      have := mode.code_lt
      simp [threeBytes, u8, rd8, Nat.mod_eq_of_lt this, Nat.mod_eq_of_lt (Nat.lt_trans start.isLt (by decide : 16 < 256)),
        Nat.mod_eq_of_lt (Nat.lt_trans stop.isLt (by decide : 16 < 256))]
    refine ⟨fun halted => ?_, fun run => ?_⟩
    · refine (State.request_done (owner := takeMonitorRun) (t := s.handed.setMonitor (s.monitor.run mode start stop s.clock))
        (r := Response.ok (u8 mode.code ++ u8 start.val ++ u8 (max start stop).val)) can hp ?_).trans rfl
      have hhalted : s.handed.monitor.mode = .halted := halted
      simp only [takeMonitorRun, hhalted, runModeOf_code ne, slotOf_val]
      rfl
    · refine State.request_refused (owner := takeMonitorRun) (r := Response.busy []) can hp ?_
      have hrun : s.handed.monitor.mode ≠ .halted := run
      simp only [takeMonitorRun, hrun, if_true, ne_eq, not_false_eq_true]
  · exact (State.request_done (fields := noBytes []) can rfl (takeMonitorHalt_eq s.handed)).trans rfl
  · have hslot : s.monitor.slot i = x := hx.symm
    have hp : oneByte (u8 i.val) = some i.val := oneByte_u8 (by omega)
    have htake : ∀ p, (if !x.latched then (s.handed, Response.ok (slotBytes x))
        else if x.latestInRange then (s.handed.setMonitor (s.monitor.setSlot i { x with latched := false }),
          Response.ok (slotBytes { x with latched := false }))
        else (s.handed, Response.refused .stillActive (slotBytes x))) = p → takeAlarmAck i.val s.handed = p := by
      rintro p rfl
      rw [takeAlarmAck, slotOf_val]
      dsimp only [State.handed]
      rw [hslot]
    refine ⟨fun clear => ?_, fun v latched hv lo hi => ?_, fun v latched hv out => ?_⟩
    · exact State.request_refused can hp (htake _ (by simp only [clear]; rfl))
    · refine (State.request_done can hp (htake (s.handed.setMonitor (s.monitor.setSlot i { x with latched := false }),
        Response.ok (slotBytes { x with latched := false })) ?_)).trans rfl
      simp only [latched, (Slot.latestInRange_of_value hv).mpr ⟨lo, hi⟩]
      rfl
    · refine State.request_refused can hp (htake (s.handed, Response.refused .stillActive (slotBytes x)) ?_)
      have hout : ¬x.latestInRange = true := by rw [Slot.latestInRange_of_value hv]; omega
      simp only [latched, hout]
      rfl

/-- Settles O40: the checks of the owner in their order, each with what the ones before it leave. -/
theorem trackRefusalsInOrder : Obligations.TrackRefusalsInOrder := by
  refine ⟨fun f s hhead => ?_, fun f h s hf => ⟨fun hfit => takeTrack_unfitted hf hfit,
    fun hfit bad => takeTrack_badField hf hfit bad⟩, fun f kind h s behind hf hkind lo hi hfit hbehind => ?_⟩
  · simp [takeTrack, onFitted, headOf_eq_none hhead, Response.badField]
  have hchunk := takeTrack_chunk hf hkind lo hi hfit
  have hpages : s.store.free.count < pagesFor kind f.n ↔ kind = .data ∧ s.store.free.count < ceilDiv f.n 1024 := by
    cases kind <;> simp [pagesFor, pagesNeeded, Config.pageBytes]
  rw [hchunk]
  refine ⟨fun d hd complete => takeChunk_duplicate hd complete,
    fun d hd filling => ⟨fun other => ?_, fun same sameN out => ?_, fun same sameN at_ long => ?_⟩,
    fun fresh => ⟨fun hoff => ?_, fun hoff low => ?_, fun hoff high long => ?_, fun hoff high fits =>
      ⟨fun full => ?_, fun room data short many => ?_, fun room few none_left => ?_⟩⟩⟩
  · refine takeChunk_continuation (x := .reason .mismatch) hd filling ?_
    rw [continuationRefusal, if_pos (other.imp Ne.symm Ne.symm)]
  · refine takeChunk_continuation (x := .reason .order) hd filling ?_
    rw [continuationRefusal, if_neg (by simp [same, sameN]), if_pos (Ne.symm out)]
  · refine takeChunk_continuation (x := .length) hd filling ?_
    rw [continuationRefusal, if_neg (by simp [same, sameN]), if_neg (by simp [at_]), if_pos (by omega)]
  · rw [takeChunk_misplaced fresh hoff, hbehind]
    rfl
  all_goals have hb : s.behind h f.number = behind := hbehind.symm
  · refine takeChunk_opening (x := .reason .stale) fresh hoff ?_
    simp only [State.openingRefusal, hb, low, if_true]
  all_goals have hlong := openingTooLong_iff f kind
  · refine takeChunk_opening (x := .length) fresh hoff ?_
    simp only [State.openingRefusal, hb, high, hlong.mpr long, if_true]
    rfl
  all_goals
    have short : openingTooLong f kind = false := by rw [Bool.eq_false_iff, Ne, hlong]; omega
  · refine takeChunk_opening (x := .reason .queueLimit) fresh hoff ?_
    simp [State.openingRefusal, hb, high, short, Config.queueLimit, full]
  · refine takeChunk_opening (x := .reason .fillingLimit) fresh hoff ?_
    have opens : opensFilling f kind = true := (opensFilling_iff f kind).mpr ⟨data, by assumption⟩
    simp [State.openingRefusal, hb, high, short, Config.queueLimit, Nat.not_le.mpr room, opens, Config.fillingLimit, many]
  · refine takeChunk_opening (x := .reason .storeFull) fresh hoff ?_
    have fills : ¬(opensFilling f kind = true ∧ 2 ≤ fillingCount (s.store.queues.get h)) := by
      rintro ⟨opens, many⟩
      obtain ⟨data, hlt⟩ := (opensFilling_iff f kind).mp opens
      exact absurd (few data hlt) (Nat.not_lt.mpr many)
    have free : s.store.freeDescriptors = 0 ∨ s.store.free.count < pagesFor kind f.n := none_left.imp id hpages.mpr
    simp only [State.openingRefusal, hb, high, short, Bool.and_eq_true, decide_eq_true_eq]
    have hroom : ¬Config.queueLimit ≤ (s.store.queues.get h).length := Nat.not_le.mpr room
    have hfills : ¬(opensFilling f kind = true ∧ Config.fillingLimit ≤ fillingCount (s.store.queues.get h)) := fills
    rw [if_neg (by simp), if_neg (by simp), if_neg hroom, if_neg hfills, if_pos free]
end

section
/-! SET_MACHINE (R15, R104, R107). -/

namespace Sys2Proof.Machine

variable {s t : State} {h : HeadId}

theorem mem_heads4 (h : HeadId) : h ∈ heads4 := (heads4_perm h).mem_iff.mpr List.mem_cons_self

/-! ### Heads that a lowered F leaves unfitted -/

/-- The head after an immediate retract (R92). -/
def Head.parkedNow (x : Head) : Head := if x.state = .parked then x else x.dropped

theorem State.onParked_idle (idle : s.active h = none) : s.onParked h = s := by
  simp [State.onParked, idle]

/-- With no band active an immediate retract parks the head, and its report reaches nothing. -/
theorem State.immediateRetract_idle (idle : s.active h = none) :
    s.immediateRetract h = s.updHead h fun x => x.parkedNow := by
  by_cases e : (s.heads.get h).state = .parked
  · simp [State.immediateRetract, Head.immediate, Head.parkedNow, e, State.onReport, State.updHead]
  · simp only [State.immediateRetract, Head.immediate_parks _ e, Head.parkedNow, if_neg e, State.onReport, State.updHead]
    exact State.onParked_idle idle

theorem State.unfit_eq (idle : s.active h = none) :
    s.unfit h = (s.updHead h fun x => x.parkedNow).updAxis h fun a => a.lost .none := by
  rw [State.unfit, State.immediateRetract_idle idle]

/-- The heads and axes that a lowered F leaves unfitted are parked and unhomed; nothing else changes. -/
theorem State.unfit_heads (hs : List HeadId) (nodup : hs.Nodup) (before : Nat) (s : State)
    (idle : ∀ g, s.machine.fitted ≤ g.val → g.val < before → s.active g = none) :
    ∃ heads axes, hs.foldl (fun t h => if t.machine.fitted ≤ h.val ∧ h.val < before then t.unfit h else t) s =
        { s with heads := heads, axes := axes } ∧
      (∀ g, heads.get g = if g ∈ hs ∧ s.machine.fitted ≤ g.val ∧ g.val < before then (s.heads.get g).parkedNow
        else s.heads.get g) ∧
      ∀ g, axes.get g = if g ∈ hs ∧ s.machine.fitted ≤ g.val ∧ g.val < before then (s.axes.get g).lost .none
        else s.axes.get g := by
  induction hs generalizing s with
  | nil => exact ⟨s.heads, s.axes, rfl, by simp, by simp⟩
  | cons h hs ih =>
    obtain ⟨fresh, nodup⟩ := List.nodup_cons.mp nodup
    by_cases hc : s.machine.fitted ≤ h.val ∧ h.val < before
    · obtain ⟨heads, axes, e, hheads, haxes⟩ := ih nodup ((s.updHead h fun x => x.parkedNow).updAxis h fun a => a.lost .none)
        idle
      refine ⟨heads, axes, ?_, fun g => ?_, fun g => ?_⟩
      · rw [List.foldl_cons, if_pos hc, State.unfit_eq (idle h hc.1 hc.2), e]
        rfl
      · rw [hheads]
        by_cases eg : g = h
        · subst eg; simp [fresh, hc]
        · simp [eg]
      · rw [haxes]
        by_cases eg : g = h
        · subst eg; simp [fresh, hc]
        · simp [eg]
    · obtain ⟨heads, axes, e, hheads, haxes⟩ := ih nodup s idle
      refine ⟨heads, axes, ?_, fun g => ?_, fun g => ?_⟩
      · rw [List.foldl_cons, if_neg hc, e]
      · rw [hheads]
        by_cases eg : g = h
        · subst eg; simp [fresh, hc]
        · simp [eg]
      · rw [haxes]
        by_cases eg : g = h
        · subst eg; simp [fresh, hc]
        · simp [eg]

theorem State.active_of_anyHeld (hs : s.anyHeld = false) (g : HeadId) : s.active g = none := by
  by_contra ha
  have := State.anyHeld_of_active (s := s) (h := g) (Option.isSome_iff_ne_none.mpr ha)
  simp [this] at hs

/-! ### The fields of SET_MACHINE -/

theorem MachineFields.saturated_iff (f : MachineFields) : f.saturated = true ↔
    255 < f.indexTol ∨ (f.nominalPeriod ≠ 0 ∧ f.nominalPeriod < 10000) ∨ 4000000 < f.nominalPeriod ∨
      65535 < f.periodTol ∨ 255 < f.reportRevs := by
  have hnominal : nominalOf f.nominalPeriod ≠ f.nominalPeriod ↔
      (f.nominalPeriod ≠ 0 ∧ f.nominalPeriod < 10000) ∨ 4000000 < f.nominalPeriod := by
    unfold nominalOf clampTo
    split <;> omega
  simp only [saturated, Bool.or_eq_true, outside_iff, decide_eq_true_eq, hnominal]
  omega

theorem edgeOf_eq_none {n : Nat} (hn : 1 < n) : edgeOf n = none := by
  unfold edgeOf
  split
  iterate 2 omega
  rfl

theorem edgeOf_eq_some {n : Nat} {edge : IndexEdge} (he : edgeOf n = some edge) (other : IndexEdge) :
    n ≠ edgeCode other ↔ edge ≠ other := by
  unfold edgeOf at he
  split at he <;> cases he <;> cases other <;> simp [edgeCode]

theorem edgeOf_isSome {n : Nat} (hn : n ≤ 1) : ∃ edge, edgeOf n = some edge := by
  obtain rfl | rfl : n = 0 ∨ n = 1 := by omega
  · exact ⟨_, rfl⟩
  · exact ⟨_, rfl⟩

section
variable {f : MachineFields}

theorem takeSetMachine_busy (held : s.anyHeld = true) (changed : f.fitted ≠ s.machine.fitted ∨
    f.edge ≠ edgeCode s.machine.indexEdge) : takeSetMachine f s = (s, Response.busy []) := by
  simp [takeSetMachine, held, changed]

variable (quiet : s.anyHeld = false ∨ (f.fitted = s.machine.fitted ∧ f.edge = edgeCode s.machine.indexEdge))
include quiet

theorem takeSetMachine_quiet_cond : ¬(s.anyHeld && decide (f.fitted ≠ s.machine.fitted ∨
    f.edge ≠ edgeCode s.machine.indexEdge)) = true := by
  obtain free | ⟨hf, he⟩ := quiet
  · simp [free]
  · simp [hf, he]

theorem takeSetMachine_badField (bad : 1 < f.edge ∨ f.fitted = 0 ∨ 4 < f.fitted ∨ 1000000 < f.minsep) :
    takeSetMachine f s = (s, Response.badField []) := by
  rw [takeSetMachine, if_neg (takeSetMachine_quiet_cond quiet)]
  cases hedge : edgeOf f.edge with
  | none => rfl
  | some edge =>
    have hout : (outside 1 4 f.fitted || outside 0 1000000 f.minsep) = true := by
      have : ¬1 < f.edge := fun b => by simp [edgeOf_eq_none b] at hedge
      rw [Bool.or_eq_true, outside_iff, outside_iff]; omega
    simp only [hout, if_true]

variable {edge : IndexEdge} (hedge : edgeOf f.edge = some edge) (h1 : 1 ≤ f.fitted) (h2 : f.fitted ≤ 4)
  (h3 : f.minsep ≤ 1000000)
include hedge h1 h2 h3

theorem takeSetMachine_judged : takeSetMachine f s =
    if s.lawHolds f.minsep f.fitted then (s.writeMachine (f.settings edge), Response.taken f.saturated [])
    else (s, Response.refused .collision []) := by
  have inside : (outside 1 4 f.fitted || outside 0 1000000 f.minsep) = false := by
    rw [Bool.eq_false_iff, Ne, Bool.or_eq_true, outside_iff, outside_iff]; omega
  rw [takeSetMachine, if_neg (takeSetMachine_quiet_cond quiet), hedge]
  simp only [inside]
  rfl

end

end Sys2Proof.Machine

open Sys2Proof Sys2Proof.Machine

/-- Settles O30: the checks of the owner in their order, and what a lowered F leaves of heads and axes
(`State.unfit_heads`). -/
theorem setMachineWritten : Obligations.SetMachineWritten := by
  intro tag payload f s hp can
  refine ⟨fun edge heads axes quiet hedge h1 h2 h3 law hheads haxes => ?_, fun held changed => ?_, fun quiet bad => ?_,
    fun quiet he h1 h2 h3 law => ?_⟩
  · have hquiet : s.anyHeld = false ∨ (f.fitted = s.machine.fitted ∧ f.edge = edgeCode s.machine.indexEdge) :=
      quiet.imp id fun ⟨hf, he⟩ => ⟨hf, not_not.mp fun ne => (edgeOf_eq_some hedge _).mp ne he⟩
    have htake := takeSetMachine_judged (s := s.handed) hquiet hedge h1 h2 h3
    rw [if_pos (show s.handed.lawHolds f.minsep f.fitted = true from law), Response.taken_eq f.saturated_iff] at htake
    rw [show exec (.setMachine tag payload) s = _ from State.request_done can hp htake]
    obtain ⟨heads', axes', e, hheads', haxes'⟩ := State.unfit_heads heads4 (by decide) s.machine.fitted
      { s.handed with
        machine := f.settings edge
        ctu := { s.ctu.afterSetting (decide (edge ≠ s.machine.indexEdge)) (f.settings edge).reportRevs with
          acting := s.ctu.acting.afterSetting f.fitted } }
      (fun g hlo hhi => by
        obtain free | ⟨hf, -⟩ := quiet
        · exact State.active_of_anyHeld (s := s) free g
        · exact absurd (hhi.trans_eq hf.symm) (Nat.not_lt.mpr hlo))
    obtain rfl : heads' = heads := Quad.ext_get fun g => by
      rw [hheads', hheads]
      by_cases hc : f.fitted ≤ g.val ∧ g.val < s.machine.fitted
      · refine (if_pos ⟨mem_heads4 g, hc⟩).trans ?_
        by_cases hp : (s.heads.get g).state = .parked
        · exact (if_pos hp).trans (if_neg fun c => c.2.2 hp).symm
        · exact (if_neg hp).trans (if_pos ⟨hc.1, hc.2, hp⟩).symm
      · exact (if_neg fun c => hc c.2).trans (if_neg fun c => hc ⟨c.1, c.2.1⟩).symm
    obtain rfl : axes' = axes := Quad.ext_get fun g => by
      rw [haxes', haxes]
      by_cases hc : f.fitted ≤ g.val ∧ g.val < s.machine.fitted
      · exact (if_pos ⟨mem_heads4 g, hc⟩).trans (if_pos hc).symm
      · exact (if_neg fun c => hc c.2).trans (if_neg hc).symm
    rw [show s.handed.writeMachine (f.settings edge) = _ from e]
    by_cases same : edge = s.machine.indexEdge
    · rw [if_pos same, decide_eq_false (not_not.mpr same)]
      rfl
    · rw [if_neg same, decide_eq_true same]
      rfl
  · exact State.request_refused can hp (takeSetMachine_busy (s := s.handed) held changed)
  · exact State.request_refused can hp (takeSetMachine_badField (s := s.handed) quiet bad)
  · obtain ⟨edge, hedge⟩ := edgeOf_isSome he
    have htake := takeSetMachine_judged (s := s.handed) quiet hedge h1 h2 h3
    rw [if_neg (show ¬s.handed.lawHolds f.minsep f.fitted = true by rw [Bool.not_eq_true]; exact law)] at htake
    exact State.request_refused can hp htake
end

section
/-! Counts, indexes, the stopped timer and the machine-ready line (chapter 1): what they leave of the CTU and post, whatever
the bands then do. -/

namespace Sys2Proof.Machine

variable {s t : State} {h : HeadId}

/-! ### What the transmitter's choice leaves of an entry -/

/-- The transmitter's choice clears the entry it sends and keeps every content (R168). -/
theorem Link.choose_content (l : Link) (id : NoticeId) : (l.choose.entry id).content = (l.entry id).content := by
  obtain e | ⟨r, rs, -, -, e⟩ | ⟨i, -, -, -, e⟩ := l.choose_cases <;> rw [e]
  · rfl
  · by_cases hi : id = i
    · subst hi
      have hsame := l.entry_setEntry_same id { l.entry id with pending := false, count := 0 }
      exact (congrArg NoticeEntry.content hsame).trans rfl
    · exact congrArg NoticeEntry.content (l.entry_setEntry_ne _ hi)

theorem Link.post_content (l : Link) (id : NoticeId) (c : NoticeContent) : ((l.post id c).entry id).content = some c := by
  rw [Link.entry_post]

theorem State.SameBoard.cylinder (b : s.SameBoard t) : t.link.entry .cylinder = s.link.entry .cylinder := b.entries _ rfl

theorem State.SameBoard.cylStatus (b : s.SameBoard t) : t.link.entry .cylStatus = s.link.entry .cylStatus := b.entries _ rfl

theorem State.SameBoard.timestamp (b : s.SameBoard t) : t.timestamp = s.timestamp := by
  rw [State.timestamp, State.timestamp, b.clock]

/-- From `s` to `t` the board is the same but for the CTU, the CTU of `t` is `c`, and the CYLINDER entry's content is as
given. -/
structure State.Judged (s t : State) (c : Ctu) : Prop where
  ctu : t.ctu = c
  clock : t.clock = s.clock
  pins : t.pins = s.pins
  machine : t.machine = s.machine
  screens : t.screens = s.screens
  curves : t.curves = s.curves
  patches : t.patches = s.patches
  monitor : t.monitor = s.monitor

theorem State.SameBoard.judged (b : s.SameBoard t) {c : Ctu} (hc : s.ctu = c) : s.Judged t c :=
  ⟨b.ctu.trans hc, b.clock, b.pins, b.machine, b.screens, b.curves, b.patches, b.monitor⟩

theorem State.Judged.trans {u : State} {c d : Ctu} (a : s.Judged t c) (b : t.Judged u d) : s.Judged u d where
  ctu := b.ctu
  clock := b.clock.trans a.clock
  pins := b.pins.trans a.pins
  machine := b.machine.trans a.machine
  screens := b.screens.trans a.screens
  curves := b.curves.trans a.curves
  patches := b.patches.trans a.patches
  monitor := b.monitor.trans a.monitor

theorem State.Judged.settled {c : Ctu} (a : s.Judged t c) : s.Judged t.settled c :=
  ⟨a.ctu, a.clock, a.pins, a.machine, a.screens, a.curves, a.patches, a.monitor⟩

theorem State.judged_setCtu (s : State) (c : Ctu) : s.Judged { s with ctu := c } c :=
  ⟨rfl, rfl, rfl, rfl, rfl, rfl, rfl, rfl⟩

theorem State.judged_post (s : State) (id : NoticeId) (n : NoticeContent) : s.Judged (s.post id n) s.ctu :=
  ⟨rfl, rfl, rfl, rfl, rfl, rfl, rfl, rfl⟩

theorem State.timingFault_judged (s : State) (e : CylEvent) (c : Ctu) : s.Judged (s.timingFault e c) c := by
  have hposted : s.Judged (({ s with ctu := c } : State).postCylinder e) c := (s.judged_setCtu c).trans (State.judged_post ..)
  unfold State.timingFault
  dsimp only
  split
  · exact hposted.trans ((State.forFitted_runs (fun g u => (u.timingLoss_works g e).runs) _).board.judged hposted.ctu)
  · exact hposted

theorem State.elapse_timing (s : State) (n : Nat) : (s.elapse n).ctu.timing = s.ctu.timing := by
  unfold State.elapse; split <;> rfl

/-! ### A count -/

/-- The CTU that a count leaves: an origin is lost in STOPPED, by a reverse count, and above the window (R1, R6, R7). -/
def State.countedCtu (s : State) (forward : Bool) : Ctu :=
  { s.ctu with
    angle := (s.ctu.angle + if forward then 1 else 65535) % 65536
    stoppedTimer := 0
    acting := ⟨s.machine.fitted, s.heads.map fun x => x.settings.startAngle⟩
    elapsed := if forward = true ∧ s.ctu.timing ≠ .stopped ∧ s.ctu.streak ≠ 0 ∧
      s.ctu.elapsed + 1 ≤ 65536 + s.machine.indexTol then s.ctu.elapsed + 1 else 0
    streak := if forward = true ∧ s.ctu.timing ≠ .stopped ∧ s.ctu.elapsed + 1 ≤ 65536 + s.machine.indexTol
      then s.ctu.streak else 0
    timing := if forward = true ∧ s.ctu.timing = .synced ∧
      (s.ctu.streak = 0 ∨ s.ctu.elapsed + 1 ≤ 65536 + s.machine.indexTol) then .synced else .unsynced }

theorem State.count_pastWindow (s : State) : (s.count true).pastWindow = true ↔
    s.ctu.streak ≠ 0 ∧ 65536 + (s.machine.indexTol : Int) < s.ctu.elapsed + 1 := by
  by_cases e : s.ctu.streak = 0
  · simp [State.pastWindow, State.count, Ctu.counted, State.takeUp, e]
    omega
  · simp [State.pastWindow, State.count, Ctu.counted, State.takeUp, e]

theorem State.Judged.of_eq {c d : Ctu} (a : s.Judged t c) (e : c = d) : s.Judged t d := e ▸ a

/-- An origin that a count loses (R1, R6, R7). -/
theorem State.countedCtu_lost {forward : Bool} (lost : forward = false ∨ s.ctu.timing = .stopped ∨
      (s.ctu.streak ≠ 0 ∧ 65536 + (s.machine.indexTol : Int) < s.ctu.elapsed + 1)) :
    { (s.count forward).ctu.unoriginated with timing := .unsynced } = s.countedCtu forward := by
  have hkeep : ¬(forward = true ∧ s.ctu.timing ≠ .stopped ∧ s.ctu.streak ≠ 0 ∧
      s.ctu.elapsed + 1 ≤ 65536 + s.machine.indexTol) := by
    rintro ⟨hf, ht, hs, he⟩
    obtain l | l | ⟨-, l⟩ := lost
    · simp [l] at hf
    · exact ht l
    · omega
  have hstreak : (if forward = true ∧ s.ctu.timing ≠ .stopped ∧ s.ctu.elapsed + 1 ≤ 65536 + s.machine.indexTol
      then s.ctu.streak else 0) = 0 := by
    split
    · next hc => exact not_not.mp fun hs => hkeep ⟨hc.1, hc.2.1, hs, hc.2.2⟩
    · rfl
  have htiming : ¬(forward = true ∧ s.ctu.timing = .synced ∧
      (s.ctu.streak = 0 ∨ s.ctu.elapsed + 1 ≤ 65536 + s.machine.indexTol)) := by
    rintro ⟨hf, ht, h⟩
    obtain l | l | ⟨hs, l⟩ := lost
    · simp [l] at hf
    · simp [l] at ht
    · omega
  simp only [State.countedCtu, if_neg hkeep, hstreak, if_neg htiming]
  rfl

/-- An origin, or its absence, that a forward count keeps. -/
theorem State.countedCtu_kept (running : s.ctu.timing ≠ .stopped)
    (inside : s.ctu.streak = 0 ∨ s.ctu.elapsed + 1 ≤ 65536 + s.machine.indexTol) :
    (s.count true).ctu = s.countedCtu true := by
  by_cases hs : s.ctu.streak = 0
  · cases ht : s.ctu.timing <;> simp [State.countedCtu, State.count, Ctu.counted, State.takeUp, State.written, hs, ht,
      Config.revolution] at running ⊢
  · have he : s.ctu.elapsed + 1 ≤ 65536 + s.machine.indexTol := inside.resolve_left hs
    cases ht : s.ctu.timing <;> simp [State.countedCtu, State.count, Ctu.counted, State.takeUp, State.written, hs, ht, he,
      Config.revolution] at running ⊢

theorem State.unoriginated_timing (ht : s.ctu.timing ≠ .stopped) (forward : Bool) :
    (s.count forward).ctu.unoriginated = { (s.count forward).ctu.unoriginated with timing := .unsynced } := by
  have hu : (s.count forward).ctu.unoriginated.timing = .unsynced := if_neg ht
  exact congrArg (fun m => { (s.count forward).ctu.unoriginated with timing := m }) hu

theorem State.judgeCount_judged (s : State) (forward : Bool) : s.Judged ((s.count forward).judgeCount forward)
    (s.countedCtu forward) := by
  have hcount : s.Judged (s.count forward) (s.count forward).ctu := State.judged_setCtu s _
  have htiming : (s.count forward).ctu.timing = s.ctu.timing := rfl
  have hwindow := s.count_pastWindow
  unfold State.judgeCount
  rw [htiming]
  split
  · next ht =>
    exact (hcount.trans (State.judged_setCtu _ _)).of_eq (State.countedCtu_lost (.inr (.inl ht)))
  · next ht =>
    rw [State.unoriginated_timing (by simp [ht])]
    exact (hcount.trans (State.judged_setCtu _ _)).of_eq (State.countedCtu_lost (.inl rfl))
  · next ht =>
    split
    · next past =>
      rw [State.unoriginated_timing (by simp [ht])]
      exact (hcount.trans (State.timingFault_judged ..)).of_eq (State.countedCtu_lost (.inr (.inr (hwindow.mp past))))
    · next within_ =>
      exact hcount.of_eq (State.countedCtu_kept (by simp [ht]) (by rw [hwindow] at within_; omega))
  · next ht =>
    rw [State.unoriginated_timing (by simp [ht])]
    exact (hcount.trans (State.timingFault_judged ..)).of_eq (State.countedCtu_lost (.inl rfl))
  · next ht =>
    split
    · next past =>
      rw [State.unoriginated_timing (by simp [ht])]
      exact (hcount.trans (State.timingFault_judged ..)).of_eq (State.countedCtu_lost (.inr (.inr (hwindow.mp past))))
    · next within_ =>
      exact (hcount.trans ((State.boundaries_runs _ _).board.judged rfl)).of_eq
        (State.countedCtu_kept (by simp [ht]) (by rw [hwindow] at within_; omega))

/-- A COUNT_EVENT, up to the transmitter's choice. -/
theorem exec_countEvent (s : State) (forward : Bool) :
    exec (.countEvent forward) s = .next (((s.count forward).judgeCount forward).presentAll).settled := rfl

theorem State.judgeCount_past (ht : s.ctu.timing = .unsynced) (past : (s.count true).pastWindow = true) :
    (s.count true).judgeCount true =
      ({ s.count true with ctu := (s.count true).ctu.unoriginated } : State).postCylinder .indexMissing := by
  have htiming : (s.count true).ctu.timing = .unsynced := ht
  simp only [State.judgeCount, htiming, past, State.timingFault]
  rfl

theorem State.boundaries_idle (idle : ∀ g, s.active g = none) (due : HeadId → Bool) : s.boundaries due = s :=
  State.forFitted_id s _ fun g => by
    split
    · exact s.boundary_idle g (idle g)
    · rfl

theorem State.judgeCount_kept (running : s.ctu.timing ≠ .stopped) (within_ : (s.count true).pastWindow = false) :
    (s.count true).judgeCount true = s.count true ∨ ∃ due, (s.count true).judgeCount true = (s.count true).boundaries due := by
  have htiming : (s.count true).ctu.timing = s.ctu.timing := rfl
  unfold State.judgeCount
  rw [htiming, within_]
  cases ht : s.ctu.timing with
  | stopped => exact absurd ht running
  | unsynced => exact .inl rfl
  | synced => exact .inr ⟨_, rfl⟩

theorem State.timingLoss_idle (idle : s.active h = none) (e : CylEvent) : s.timingLoss h e = s := by
  simp [State.timingLoss, idle]

/-- A timing fault that meets no band posts its event and changes the CTU alone. -/
theorem State.timingFault_quiet (quiet : s.ctu.timing = .unsynced ∨ (s.ctu.timing = .synced ∧ ∀ h, s.active h = none))
    (e : CylEvent) (c : Ctu) : s.timingFault e c = ({ s with ctu := c } : State).postCylinder e := by
  obtain ht | ⟨ht, idle⟩ := quiet
  · exact if_neg (by simp [ht])
  · refine (if_pos ht).trans (State.forFitted_id _ _ fun g => ?_)
    exact State.timingLoss_idle (s := ({ s with ctu := c } : State).postCylinder e) (idle g) e

theorem Ctu.origin_of_running {c : Ctu} (running : c.timing ≠ .stopped) (now : Nat) :
    c.origin now = { c with angle := 0, elapsed := 0, streak := 1, indexTime := now, timing := .unsynced } :=
  congrArg (fun m => { c with angle := 0, elapsed := 0, streak := 1, indexTime := now, timing := m }) (if_neg running)

theorem Ctu.unoriginated_of_running {c : Ctu} (running : c.timing ≠ .stopped) :
    c.unoriginated = { c with streak := 0, elapsed := 0, timing := .unsynced } :=
  congrArg (fun m => { c with streak := 0, elapsed := 0, timing := m }) (if_neg running)

/-- The index that the setting selects, with an origin known. -/
theorem exec_indexEvent (running : s.ctu.timing ≠ .stopped) (known : s.ctu.streak ≠ 0) :
    exec (.indexEvent s.machine.indexEdge) s = .next s.judgeIndex.settled := by
  have hrun : ¬(s.machine.indexEdge ≠ s.machine.indexEdge ∨ s.ctu.timing = .stopped) := by simp [running]
  simp only [exec, execIndexEvent, if_neg hrun, if_neg known]
  rfl

/-- What a CYLINDER event posts (R8). -/
theorem State.postCylinder_content (c : Ctu) (e : CylEvent) {m : TimingState} (hm : c.timing = m) :
    ((({ s with ctu := c } : State).postCylinder e).link.entry .cylinder).content =
      some (.cylinder e m c.ready c.revs s.timestamp) := by
  subst hm
  exact Link.post_content ..

/-- The CYLINDER entry that a missing index in UNSYNCED posts is still there when the angle has been presented. -/
theorem State.presentedFault_content (s : State) {c : Ctu} {d : Ctu} (hc : c = d) (e : CylEvent) :
    ((({ s with ctu := c } : State).postCylinder e).presentAll.settled.link.entry .cylinder).content =
      some (.cylinder e d.timing d.ready d.revs s.timestamp) := by
  subst hc
  have hpresent := (State.presentAll_runs (({ s with ctu := c } : State).postCylinder e)).board.cylinder
  exact (Link.choose_content ..).trans ((congrArg NoticeEntry.content hpresent).trans (s.postCylinder_content c e rfl))

theorem State.count_running (ht : s.ctu.timing = .unsynced) (forward : Bool) : (s.count forward).ctu.timing ≠ .stopped := by
  have : (s.count forward).ctu.timing = s.ctu.timing := rfl
  simp only [this, ht]
  decide

/-! ### Counts that meet no band -/

theorem State.deliverCells_of_not_cutting (ne : (s.heads.get h).state ≠ .cutting) : s.deliverCells h = s := by
  unfold State.deliverCells
  dsimp only
  split
  · next e _ _ _ => exact absurd e ne
  · rfl

theorem Axis.takeCount_of_not_feeding {a : Axis} (ne : a.state ≠ .feeding) (rel now : Nat) : a.takeCount rel now = a := by
  unfold Axis.takeCount
  split
  · next e _ => exact absurd e ne
  · rfl

theorem State.updAxis_self {k : HeadId} {f : Axis → Axis} (hf : f (s.axes.get k) = s.axes.get k) : s.updAxis k f = s := by
  have : s.axes.set k (f (s.axes.get k)) = s.axes := Quad.ext_get fun g => by
    by_cases e : g = k
    · subst e; simp [hf]
    · simp [e]
  simp [State.updAxis, this]

theorem State.present_idle (notCutting : (s.heads.get h).state ≠ .cutting) (notFeeding : (s.axes.get h).state ≠ .feeding) :
    s.present h = s := by
  rw [State.present, State.deliverCells_of_not_cutting notCutting]
  exact State.updAxis_self (Axis.takeCount_of_not_feeding notFeeding _ _)

/-- Where no head is CUTTING, presenting the angle leaves every band as it is. -/
theorem State.presentAll_bands (notCutting : ∀ h, (s.heads.get h).state ≠ .cutting) :
    s.presentAll.bands = s.bands := by
  have key : s.presentAll.bands = s.bands ∧ s.presentAll.heads = s.heads := by
    refine State.forFitted_keeps (P := fun u => u.bands = s.bands ∧ u.heads = s.heads) ⟨rfl, rfl⟩ fun g u ⟨hb, hh⟩ => ?_
    rw [State.present, State.deliverCells_of_not_cutting (by rw [hh]; exact notCutting g)]
    exact ⟨hb, hh⟩
  exact key.1

theorem State.presentedFault_bands (s : State) (c : Ctu) (e : CylEvent) (notCutting : ∀ h, (s.heads.get h).state ≠ .cutting) :
    (({ s with ctu := c } : State).postCylinder e).presentAll.settled.bands = s.bands := by
  generalize hu : ({ s with ctu := c } : State).postCylinder e = u
  have hheads : u.heads = s.heads := hu ▸ rfl
  have hbands : u.bands = s.bands := hu ▸ rfl
  rw [State.settled_bands, State.presentAll_bands (by rwa [hheads]), hbands]

end Sys2Proof.Machine

open Sys2Proof Sys2Proof.Machine

/-- Settles O24: what a count does to the CTU is settled before any band is reached, and the bands leave it alone. -/
theorem countMovesAngle : Obligations.CountMovesAngle := by
  refine ⟨fun forward s => ⟨_, exec_countEvent s forward, ?_⟩, fun s ht hs past => ⟨_, exec_countEvent s true, ?_, fun still => ?_⟩,
    fun s running inside idle => ?_⟩
  · have hall := ((s.judgeCount_judged forward).trans
      ((State.presentAll_runs _).board.judged (s.judgeCount_judged forward).ctu)).settled
    exact ⟨hall.ctu, hall.clock, hall.pins, hall.machine, hall.screens, hall.curves, hall.patches, hall.monitor⟩
  · have hpast := s.count_pastWindow.mpr ⟨hs, past⟩
    rw [State.judgeCount_past ht hpast]
    have hrun := s.count_running ht true
    exact State.presentedFault_content (s.count true) (Ctu.unoriginated_of_running hrun) .indexMissing
  · rw [State.judgeCount_past ht (s.count_pastWindow.mpr ⟨hs, past⟩)]
    exact State.presentedFault_bands (s.count true) _ .indexMissing still
  · have hwithin : (s.count true).pastWindow = false := by
      rw [Bool.eq_false_iff, Ne, s.count_pastWindow]; omega
    have hjudge : (s.count true).judgeCount true = s.count true := by
      obtain e | ⟨due, e⟩ := State.judgeCount_kept running hwithin
      · exact e
      · rw [e]; exact State.boundaries_idle (s := s.count true) (fun g => (idle g).1) due
    have hpresent : (s.count true).presentAll = s.count true :=
      State.forFitted_id _ _ fun g => State.present_idle (s := s.count true) (idle g).2.1 (idle g).2.2
    rw [exec_countEvent, hjudge, hpresent]
    rfl

/-- Settles O26: the cases of an index that is not good. -/
theorem indexTakesOriginOrSlips : Obligations.IndexTakesOriginOrSlips := by
  refine ⟨fun edge s ignored => ?_, fun s running fresh => ?_, fun e s quiet known bad => ?_⟩
  · simp only [exec, execIndexEvent, if_pos ignored]
    rfl
  · have hrun : ¬(s.machine.indexEdge ≠ s.machine.indexEdge ∨ s.ctu.timing = .stopped) := by simp [running]
    simp only [exec, execIndexEvent, if_neg hrun, if_pos fresh, Ctu.origin_of_running running]
    rfl
  · have running : s.ctu.timing ≠ .stopped := by
      obtain ht | ⟨ht, -⟩ := quiet <;> simp [ht]
    have hwindow : s.pastWindow = true ↔ 65536 + (s.machine.indexTol : Int) < s.ctu.elapsed := decide_eq_true_iff
    rw [exec_indexEvent running known]
    obtain ⟨rfl, low⟩ | ⟨rfl, high⟩ := bad
    · have inside : ¬s.pastWindow = true := by rw [hwindow]; omega
      rw [State.judgeIndex, if_neg inside, if_pos low, State.timingFault_quiet quiet, Ctu.origin_of_running running]
      rfl
    · have hnext : s.judgeIndex = { ({ s with ctu := s.ctu.unoriginated } : State).postCylinder .indexMissing with
          ctu := s.ctu.unoriginated.origin s.timestamp } := by
        rw [State.judgeIndex, if_pos (hwindow.mpr high), State.timingFault_quiet quiet]
        rfl
      rw [hnext, Ctu.unoriginated_of_running running]
      rfl

/-- Settles O28: the stopped timeout as a timing fault that meets no band, and the machine-ready line's changes. -/
theorem stoppedAndReadyLine : Obligations.StoppedAndReadyLine := by
  refine ⟨fun s stopped => ?_, fun s t quiet ht => ?_, fun level s => rfl, fun s agree => ?_, fun s t high low ht => ?_⟩
  · simp only [exec, execStoppedTimeout, if_pos stopped]
    rfl
  · subst ht
    have running : s.ctu.timing ≠ .stopped := by
      obtain ht | ⟨ht, -⟩ := quiet <;> simp [ht]
    have hquiet : (s.elapse (50000 - s.ctu.stoppedTimer)).ctu.timing = .unsynced ∨
        ((s.elapse (50000 - s.ctu.stoppedTimer)).ctu.timing = .synced ∧
          ∀ h, (s.elapse (50000 - s.ctu.stoppedTimer)).active h = none) := by
      simpa [State.elapse_timing, State.active] using quiet
    simp only [exec, execStoppedTimeout, if_neg running, stoppedLimit, State.timingFault_quiet hquiet]
    rfl
  · simp only [exec, execReadyDebounceExpiry, if_pos agree]
    rfl
  · subst ht
    have differ : ¬s.pins.readyLine = s.ctu.ready := by simp [high, low]
    have hline : (s.elapse (10000 - s.ctu.debounce)).pins.readyLine = true := by simpa using high
    simp only [exec, execReadyDebounceExpiry, if_neg differ, debounceLimit, State.takeReady, hline]
    rfl
end

section
/-! A good index (R4, R9 to R12): the order of its parts, and what each leaves of the CTU and of the two cylinder entries. -/

namespace Sys2Proof.Machine

variable {s t : State}

theorem State.settled_content (s : State) (id : NoticeId) :
    (s.settled.link.entry id).content = (s.link.entry id).content :=
  Link.choose_content ..

theorem State.owedBoundaries_board (s : State) : s.SameBoard s.owedBoundaries := by
  unfold State.owedBoundaries
  split
  · exact (s.boundaries_runs _).board
  · exact .refl s

theorem State.zeroBoundaries_board (s : State) : s.SameBoard s.zeroBoundaries := by
  unfold State.zeroBoundaries
  split
  · exact (s.boundaries_runs _).board
  · exact .refl s

/-- The CTU that the speed check leaves (R10). -/
theorem State.checkSpeed_judged (s : State) : s.Judged s.checkSpeed
    { s.ctu with speedOk := speedOkFor s.machine (s.ctu.lastPeriod.getD 0) } := by
  have hset := s.judged_setCtu { s.ctu with speedOk := speedOkFor s.machine (s.ctu.lastPeriod.getD 0) }
  have hpost := fun e => hset.trans (State.judged_post
    ({ s with ctu := { s.ctu with speedOk := speedOkFor s.machine (s.ctu.lastPeriod.getD 0) } } : State) .cylinder e)
  unfold State.checkSpeed
  dsimp only
  split
  · exact (hpost _).trans ((State.forFitted_runs (fun g u => (u.speedEvent_works g).runs) _).board.judged rfl)
  · exact hpost _
  · exact hset
  · exact hset

theorem State.checkSpeed_content (s : State) {ok : Bool} (hok : speedOkFor s.machine (s.ctu.lastPeriod.getD 0) = ok)
    (change : s.ctu.speedOk ≠ ok) :
    (s.checkSpeed.link.entry .cylinder).content = some (.cylinder (if ok then .speedRegained else .speedLost) s.ctu.timing
      s.ctu.ready s.ctu.revs s.timestamp) := by
  unfold State.checkSpeed
  dsimp only
  rw [hok]
  cases hold : s.ctu.speedOk <;> cases ok
  · exact absurd hold change
  · exact State.postCylinder_content _ _ rfl
  · exact (congrArg NoticeEntry.content
      (State.forFitted_runs (fun g u => (u.speedEvent_works g).runs) _).board.cylinder).trans
      (State.postCylinder_content _ _ rfl)
  · exact absurd hold change

/-- The CTU that the report countdown leaves (R11). -/
def State.reportedCtu (s : State) : Ctu :=
  { s.ctu with countdown := if s.machine.reportRevs = 0 then s.ctu.countdown
      else if s.ctu.countdown ≤ 1 then s.machine.reportRevs else s.ctu.countdown - 1 }

theorem State.serveReport_judged (s : State) : s.Judged s.serveReport s.reportedCtu := by
  unfold State.serveReport State.reportedCtu
  split
  · exact (s.judged_setCtu _).of_eq rfl
  · split
    · next zero =>
      rw [if_pos (show s.ctu.countdown ≤ 1 by omega)]
      exact (s.judged_setCtu _).trans (State.judged_post ..)
    · next more =>
      rw [if_neg (show ¬s.ctu.countdown ≤ 1 by omega)]
      exact s.judged_setCtu _

theorem State.serveReport_cylinder (s : State) : s.serveReport.link.entry .cylinder = s.link.entry .cylinder := by
  unfold State.serveReport
  split
  · rfl
  · split
    · exact Link.entry_post_ne _ _ (by decide)
    · rfl

theorem State.serveReport_content (on : s.machine.reportRevs ≠ 0) (due : s.ctu.countdown ≤ 1) :
    (s.serveReport.link.entry .cylStatus).content =
      some (.cylStatus s.ctu.revs (s.ctu.lastPeriod.getD 0) s.timestamp s.ctu.speedOk) := by
  rw [State.serveReport, if_neg on, if_pos (show s.ctu.countdown - 1 = 0 by omega)]
  exact Link.post_content ..

theorem Ctu.revolved_of_known {c : Ctu} (known : c.streak ≠ 0) (now : Nat) : c.revolved now = { c with
    lastPeriod := some (c.period now), indexTime := now, angle := 0, elapsed := 0, revs := (c.revs + 1) % 4294967296, streak := 2,
    timing := .synced } := by
  have hstreak : min 2 (c.streak + 1) = 2 := by omega
  have htwo : 2 ≤ c.streak + 1 := by omega
  rw [Ctu.revolved, hstreak, if_pos htwo, wrap32]

/-- The card of a good index once the revolution that it closes is measured (R4, R9). -/
def State.measured (s : State) : State :=
  { s.owedBoundaries with ctu := s.owedBoundaries.ctu.revolved s.owedBoundaries.timestamp }

theorem State.measured_judged (s : State) : s.Judged s.measured (s.ctu.revolved s.timestamp) := by
  have b := s.owedBoundaries_board
  exact ((b.judged rfl).trans (State.judged_setCtu _ _)).of_eq (by rw [b.ctu, b.timestamp])

/-- From the measured revolution on, a good index keeps the board but for the speed check and the report. -/
theorem State.goodIndex_board (s : State) : s.measured.checkSpeed.serveReport.SameBoard s.goodIndex :=
  (State.zeroBoundaries_board _).trans (State.presentAll_runs _).board

/-- What a good index leaves of the CTU, and posts. -/
theorem State.goodIndex_judged (s : State) (known : s.ctu.streak ≠ 0) {ok : Bool}
    (hok : speedOkFor s.machine (s.ctu.period s.timestamp) = ok) :
    s.Judged s.goodIndex { s.ctu with
      lastPeriod := some (s.ctu.period s.timestamp), indexTime := s.timestamp, angle := 0, elapsed := 0,
      revs := (s.ctu.revs + 1) % 4294967296, streak := 2, timing := .synced, speedOk := ok,
      countdown := if s.machine.reportRevs = 0 then s.ctu.countdown
        else if s.ctu.countdown ≤ 1 then s.machine.reportRevs else s.ctu.countdown - 1 } ∧
    (s.ctu.speedOk ≠ ok → (s.goodIndex.link.entry .cylinder).content =
      some (.cylinder (if ok then .speedRegained else .speedLost) .synced s.ctu.ready ((s.ctu.revs + 1) % 4294967296) s.timestamp)) ∧
    (s.machine.reportRevs ≠ 0 → s.ctu.countdown ≤ 1 → (s.goodIndex.link.entry .cylStatus).content =
      some (.cylStatus ((s.ctu.revs + 1) % 4294967296) (s.ctu.period s.timestamp) s.timestamp ok)) := by
  have hm := s.measured_judged
  rw [Ctu.revolved_of_known known] at hm
  have hmok : speedOkFor s.measured.machine (s.measured.ctu.lastPeriod.getD 0) = ok := by
    rw [hm.machine, hm.ctu, Option.getD_some, hok]
  have hc := s.measured.checkSpeed_judged
  rw [hmok, hm.ctu] at hc
  have hr := s.measured.checkSpeed.serveReport_judged
  have hclock : s.measured.timestamp = s.timestamp := congrArg wrap32 hm.clock
  have hclock' : s.measured.checkSpeed.timestamp = s.timestamp := congrArg wrap32 (hc.clock.trans hm.clock)
  have hb := s.goodIndex_board
  refine ⟨((hm.trans hc).trans (hr.trans (hb.judged hr.ctu))).of_eq ?_, fun change => ?_, fun on due => ?_⟩
  · rw [State.reportedCtu, hc.ctu, hc.machine, hm.machine]
  · have hchange : s.measured.ctu.speedOk ≠ ok := by rw [hm.ctu]; exact change
    have hcontent := s.measured.checkSpeed_content hmok hchange
    rw [hm.ctu, hclock] at hcontent
    rw [hb.cylinder, State.serveReport_cylinder, hcontent]
  · have hcontent := State.serveReport_content (s := s.measured.checkSpeed) (by rwa [hc.machine, hm.machine])
      (by rw [hc.ctu]; exact due)
    rw [hc.ctu, hclock'] at hcontent
    rw [hb.cylStatus, hcontent, Option.getD_some]

end Sys2Proof.Machine

open Sys2Proof Sys2Proof.Machine

/-- Settles O27: the parts of a good index in their order, each keeping what the others settled. -/
theorem goodIndexMeasures : Obligations.GoodIndexMeasures := by
  intro s running known low high
  have inside : ¬s.pastWindow = true := by
    rw [State.pastWindow, decide_eq_true_iff]; omega
  have hgood : s.judgeIndex = s.goodIndex := by
    rw [State.judgeIndex, if_neg inside, if_neg (by omega)]
  obtain ⟨hj, hcyl, hrep⟩ := s.goodIndex_judged known rfl
  refine ⟨_, s.ctu.period s.timestamp, speedOkFor s.machine (s.ctu.period s.timestamp),
    exec_indexEvent running known, rfl, ?_, ?_, fun on due => ?_, fun change => ?_⟩
  · rw [speedOkFor, Bool.or_eq_true, decide_eq_true_iff, decide_eq_true_iff]
    omega
  · rw [hgood]
    rw [State.settled_ctu, hj.ctu]
  · rw [hgood]
    rw [State.settled_content, hrep on due]
  · rw [hgood]
    rw [State.settled_content, hcyl change]
end

section
/-! Tones in the DRAM (chapter 4): where a track's page list puts tone j, and what storing through the list changes. -/

namespace Sys2Proof.Machine

/-- The DRAM address of tone `j` of a track, through its page list (R49). -/
def toneAddress : List Nat → Nat → Nat
  | [], _ => 0
  | p :: ps, j => if j < 1024 then p * 1024 + j else toneAddress ps (j - 1024)

theorem toneAddress_page {pages : List Nat} {j : Nat} (hj : j < 1024 * pages.length) : toneAddress pages j / 1024 ∈ pages := by
  induction pages generalizing j with
  | nil => simp at hj
  | cons p ps ih =>
    unfold toneAddress
    split
    · have : (p * 1024 + j) / 1024 = p := by omega
      simp [this]
    · exact List.mem_cons_of_mem _ (ih (by simp only [List.length_cons] at hj; omega))

/-- Every page holds 1,024 of the tones that a page list reads. -/
theorem flatMap_readRun_getD (m : Memory) (pages : List Nat) {j : Nat} (hj : j < 1024 * pages.length) :
    (pages.flatMap fun p => Memory.readRun m (pageAddress p 0) Config.pageBytes).getD j 0 =
      Memory.read m (toneAddress pages j) := by
  induction pages generalizing j with
  | nil => simp at hj
  | cons p ps ih =>
    have hlen : (Memory.readRun m (pageAddress p 0) Config.pageBytes).length = 1024 := Memory.readRun_length ..
    rw [List.flatMap_cons]
    unfold toneAddress
    split
    · next hlow =>
      rw [List.getD_append _ _ _ _ (by omega)]
      simp [Memory.readRun, Config.pageBytes, pageAddress, hlow]
    · next hhigh =>
      rw [List.getD_append_right _ _ _ _ (by omega), hlen]
      exact ih (by simp only [List.length_cons] at hj; omega)

theorem readTones_getD (m : Memory) {pages : List Nat} {n j : Nat} (hj : j < n) (hn : n ≤ 1024 * pages.length) :
    (readTones m pages n).getD j 0 = Memory.read m (toneAddress pages j) := by
  rw [← flatMap_readRun_getD m pages (hj.trans_le hn), readTones, List.getD_eq_getElem?_getD, List.getD_eq_getElem?_getD,
    List.getElem?_take_of_lt hj]

/-- What a tone reads as once bytes have been stored from an offset of its track (R53, R56). -/
theorem storeTones_read (m : Memory) {pages : List Nat} (distinct : pages.Nodup) {off j : Nat} {bs : List Byte}
    (hj : j < 1024 * pages.length) :
    Memory.read (storeTones pages off bs m) (toneAddress pages j) =
      if off ≤ j ∧ j < off + bs.length then bs.getD (j - off) 0 else Memory.read m (toneAddress pages j) := by
  induction pages generalizing off bs m j with
  | nil => simp at hj
  | cons p ps ih =>
    obtain ⟨hp, hps⟩ := List.nodup_cons.mp distinct
    have hother : ∀ {i}, i < 1024 * ps.length → toneAddress ps i / 1024 ≠ p := fun hi e => hp (e ▸ toneAddress_page hi)
    have hframe : ∀ (o : Nat) (cs : List Byte) (m : Memory), j < 1024 →
        Memory.read (storeTones ps o cs m) (p * 1024 + j) = Memory.read m (p * 1024 + j) := fun o cs m hlow =>
      storeTones_frame m ps o cs _ fun q hq e => hp ((show p = q by simp only [Config.pageBytes] at e; omega) ▸ hq)
    have hrest : ¬j < 1024 → j - 1024 < 1024 * ps.length := by
      simp only [List.length_cons] at hj; omega
    unfold storeTones toneAddress
    simp only [Config.pageBytes, pageAddress]
    by_cases later : 1024 ≤ off <;> by_cases hlow : j < 1024 <;> simp only [later, hlow, if_true, if_false]
    · rw [hframe _ _ _ hlow, if_neg (by omega)]
    · have hindex : j - 1024 - (off - 1024) = j - off := by omega
      have hcond : (off - 1024 ≤ j - 1024 ∧ j - 1024 < off - 1024 + bs.length) ↔ off ≤ j ∧ j < off + bs.length := by omega
      rw [ih _ hps (hrest hlow), hindex]
      simp only [hcond]
    · have hcond : (p * 1024 + off ≤ p * 1024 + j ∧ p * 1024 + j < p * 1024 + off + (bs.take (1024 - off)).length) ↔
          off ≤ j ∧ j < off + bs.length := by
        rw [List.length_take]; omega
      have hindex : p * 1024 + j - (p * 1024 + off) = j - off := by omega
      rw [hframe _ _ _ hlow, Memory.read_writeRun, hindex]
      simp only [hcond]
      split
      · rw [List.getD_eq_getElem?_getD, List.getD_eq_getElem?_getD, List.getElem?_take_of_lt (by omega)]
      · rfl
    · have hcond : (0 ≤ j - 1024 ∧ j - 1024 < 0 + (bs.drop (1024 - off)).length) ↔ off ≤ j ∧ j < off + bs.length := by
        rw [List.length_drop]; omega
      rw [ih _ hps (hrest hlow)]
      simp only [hcond]
      split
      · rw [List.getD_eq_getElem?_getD, List.getD_eq_getElem?_getD, List.getElem?_drop,
          show 1024 - off + (j - 1024 - 0) = j - off by omega]
      · rw [Memory.read_writeRun, if_neg]
        have hlen : (bs.take (1024 - off)).length ≤ 1024 - off := by rw [List.length_take]; omega
        have := hother (hrest hlow)
        omega

end Sys2Proof.Machine

open Sys2Proof Sys2Proof.Machine

/-- Settles O39: a tone is read from the address at which it was stored, and other pages keep their bytes. -/
theorem tonesReadBack : Obligations.TonesReadBack := by
  intro m pages off n bs distinct _ hn
  refine ⟨fun j hj => ?_, fun a other => ?_⟩
  · rw [readTones_getD _ hj hn, readTones_getD _ hj hn]
    exact storeTones_read m distinct (hj.trans_le hn)
  · exact storeTones_frame m pages off bs a fun p hp e => other (e ▸ hp)
end

section
/-! TRACK chunks that are taken (sections 4.4 to 4.6) on a head with no band. -/

namespace Sys2Proof.Machine

variable {s t : State} {h : HeadId} {f : TrackFields} {kind : TrackKind}

theorem State.evalStarvation_idle (idle : s.active h = none) : s.evalStarvation h = s.setStarved h false := by
  rw [State.evalStarvation, idle]

theorem State.wants_idle (idle : s.active h = none) : s.wants h = none := by
  rw [State.wants, idle]

/-- A head with no band active is FED, and its queue is not looked at (R58, R66). -/
theorem State.service_idle (idle : s.active h = none) : s.service h = s.setStarved h false := by
  rw [State.service, State.evalStarvation_idle idle]
  rw [State.wants_idle (s := s.setStarved h false) idle]

/-- An opening that passes every check of R55. -/
theorem State.openingRefusal_none (ahead : s.behind h f.number = false) (fits : openingTooLong f kind = false)
    (room : (s.store.queues.get h).length < 1024)
    (few : opensFilling f kind = true → fillingCount (s.store.queues.get h) < 2) (free : 1 ≤ s.store.freeDescriptors)
    (pages : pagesFor kind f.n ≤ s.store.free.count) : s.openingRefusal h f kind = none := by
  have hroom : ¬Config.queueLimit ≤ (s.store.queues.get h).length := Nat.not_le.mpr room
  have hfew : ¬(opensFilling f kind = true ∧ Config.fillingLimit ≤ fillingCount (s.store.queues.get h)) :=
    fun ⟨opens, many⟩ => absurd (few opens) (Nat.not_lt.mpr many)
  have hfree : ¬(s.store.freeDescriptors = 0 ∨ s.store.free.count < pagesFor kind f.n) := by omega
  simp only [State.openingRefusal, ahead, fits, Bool.and_eq_true, decide_eq_true_eq]
  rw [if_neg (by simp), if_neg (by simp), if_neg hroom, if_neg hfew, if_neg hfree]

theorem takeChunk_opened (fresh : s.store.find h f.number = none) (hoff : f.offset = 0)
    (passes : s.openingRefusal h f kind = none) :
    takeChunk h f kind s = (s.openChunk h f kind, Response.ok (trackContent h f.number (s.openChunk h f kind))) := by
  simp [takeChunk, fresh, hoff, passes, chunkOutcome]

theorem takeChunk_continued {d : Descriptor} (hd : s.store.find h f.number = some d) (filling : d.complete = false)
    (passes : continuationRefusal f kind d = none) :
    takeChunk h f kind s = (s.continueChunk h f d, Response.ok (trackContent h f.number (s.continueChunk h f d))) := by
  simp [takeChunk, hd, filling, passes, chunkOutcome]

/-- A descriptor that the queue does not hold is inserted before the first higher number (R51). -/
theorem insertDescriptor_of_fresh {d : Descriptor} {q : List Descriptor} (fresh : ∀ e ∈ q, e.number ≠ d.number) :
    insertDescriptor d q = q.takeWhile (fun e => e.number < d.number) ++ d :: q.dropWhile fun e => e.number < d.number := by
  induction q with
  | nil => rfl
  | cons e q ih =>
    have hne := fresh e (List.mem_cons_self ..)
    unfold insertDescriptor
    by_cases hlt : d.number < e.number
    · have hnot : ¬e.number < d.number := by omega
      simp [hlt, hnot]
    · have hlow : e.number < d.number := by omega
      simp [hlt, hlow, ih fun x hx => fresh x (List.mem_cons_of_mem _ hx)]

/-- The pages that a track takes, as R56 gives them. -/
theorem pagesFor_eq (kind : TrackKind) (n : Nat) : pagesFor kind n = if kind = .data then ceilDiv n 1024 else 0 := by
  cases kind <;> rfl

theorem State.openChunk_idle (idle : s.active h = none) :
    s.openChunk h f kind = { s with store := { s.store.openTrack h kind f.number f.n f.tones with
      starved := s.store.starved.set h false } } :=
  State.service_idle (s := { s with store := s.store.openTrack h kind f.number f.n f.tones }) idle

theorem State.continueChunk_idle (idle : s.active h = none) (d : Descriptor) :
    s.continueChunk h f d = { s with store := { s.store.continueTrack h d f.tones with
      starved := if d.received + f.tones.length = d.n then s.store.starved.set h false else s.store.starved } } := by
  unfold State.continueChunk
  dsimp only
  split
  · exact State.service_idle (s := { s with store := s.store.continueTrack h d f.tones }) idle
  · rfl

/-- A TRACK that the store takes. -/
theorem exec_track_taken {tag : Byte} {payload : List Byte} {u : State} (can : s.canHand ⟨0x10, tag, payload⟩ = true)
    (hp : trackFields payload = some f) (hf : f.head = h.val) (hkind : trackKindOf f.kind = some kind) (lo : 64 ≤ f.n)
    (hi : f.n ≤ 16384) (hfit : s.fitted h = true)
    (htaken : takeChunk h f kind s.handed = (u, Response.ok (trackContent h f.number u))) :
    exec (.track tag payload) s = (u.respond 0x10 tag (Response.ok (trackContent h f.number u))).done := by
  refine (State.request_done (owner := takeTrack) can hp ?_)
  rw [takeTrack_chunk (s := s.handed) hf hkind lo hi hfit, htaken]

end Sys2Proof.Machine

open Sys2Proof Sys2Proof.Machine

/-- Settles O38: with no band on the head, a chunk that is taken changes the store alone. -/
theorem trackOpenedAndContinued : Obligations.TrackOpenedAndContinued := by
  intro tag payload f kind h s st hp hf hkind lo hi hfit can idle
  refine ⟨fun k pages free fresh hoff fits hk room few hfree hcount htake hst => ?_,
    fun d hd filling hkd hnd hat hin hst => ?_⟩
  · subst hk
    rw [← pagesFor_eq] at hcount htake
    have hfind : s.store.find h f.number = none := by simpa [Store.find] using fresh
    have hpass : s.openingRefusal h f kind = none := by
      refine State.openingRefusal_none (by simp [State.behind, idle]) ?_ room ?_ hfree hcount
      · rw [Bool.eq_false_iff, Ne, openingTooLong_iff]; omega
      · exact fun opens => few ((opensFilling_iff f kind).mp opens).1 ((opensFilling_iff f kind).mp opens).2
    have hopen : s.handed.openChunk h f kind = { s.handed with store := st } := by
      rw [State.openChunk_idle (s := s.handed) idle, hst]
      simp only [State.handed_store, Store.openTrack, ← htake, insertDescriptor_of_fresh (d := ⟨f.number, kind, f.n, f.tones.length, pages⟩) fresh]
    rw [exec_track_taken (u := s.handed.openChunk h f kind) can hp hf hkind lo hi hfit
      (takeChunk_opened (s := s.handed) hfind hoff hpass), hopen]
    rfl
  · obtain ⟨-, hnum⟩ := Store.find_some hd
    have hpass : continuationRefusal f kind d = none := by
      rw [continuationRefusal, if_neg (by simp [hkd, hnd]), if_neg (by simp [hat]), if_neg (by omega)]
    have hcont : s.handed.continueChunk h f d = { s.handed with store := st } := by
      rw [State.continueChunk_idle (s := s.handed) idle, hst]
      simp only [State.handed_store, Store.continueTrack, hat, hnd, hnum, Descriptor.gained]
    rw [exec_track_taken (u := s.handed.continueChunk h f d) can hp hf hkind lo hi hfit
      (takeChunk_continued (s := s.handed) hd filling hpass), hcont]
    rfl
end

section
/-! DROP_TRACKS and STORE_CLEAR (section 4.8), and the lead and starvation of section 4.10. -/

namespace Sys2Proof.Machine

variable {s t : State} {h : HeadId}

/-- The lead is the number of tracks that count in unbroken sequence (R65). -/
theorem State.leadFrom_eq {limit lead n : Nat} (most : lead ≤ limit) (all : ∀ i < lead, s.counts h (n + i) = true)
    (stops : lead < limit → s.counts h (n + lead) = false) : s.leadFrom h limit n = lead := by
  induction limit generalizing lead n with
  | zero => simp [State.leadFrom]; omega
  | succ limit ih =>
    unfold State.leadFrom
    cases lead with
    | zero => simp [show s.counts h n = false by simpa using stops (by omega)]
    | succ lead =>
      have hn : s.counts h n = true := by simpa using all 0 (by omega)
      rw [if_pos hn, ih (lead := lead) (by omega) (fun i hi => ?_) (fun hlt => ?_)]
      · omega
      · simpa [Nat.add_assoc, Nat.add_comm 1] using all (i + 1) (by omega)
      · simpa [Nat.add_assoc, Nat.add_comm 1] using stops (by omega)

/-- The starvation state of a STORE band in CUTTING or SUSPENDED with a lead below the threshold or not (R66). -/
theorem State.evalStarvation_can {b : Band} {lead : Nat} {low : Bool} (hb : s.active h = some b) (can : b.canStarve = true)
    (hlead : s.leadFrom h b.toCome b.next = lead)
    (hlow : low = decide (lead < min (s.heads.get h).settings.leadMark b.toCome)) :
    s.evalStarvation h = if low = true ∧ s.store.starved.get h = false
      then (s.setStarved h low).post (.starving h) (.starving b.tag b.phase b.next lead (s.heads.get h).settings.leadMark s.timestamp)
      else s.setStarved h low := by
  rw [State.evalStarvation, hb]
  simp only [can, hlead, if_true]
  cases low with
  | false =>
    have hge := of_decide_eq_false hlow.symm
    rw [if_pos (by omega), if_neg (by simp)]
  | true =>
    have hlt := of_decide_eq_true hlow.symm
    rw [if_neg (by omega)]
    cases hst : s.store.starved.get h with
    | false => simp
    | true =>
      have hsame : s.store.starved.set h true = s.store.starved := by rw [← hst]; exact Quad.set_get ..
      simp [State.setStarved, hsame]

theorem State.wants_held (held : (s.buffers.get h).standby.held ≠ .empty) : s.wants h = none := by
  unfold State.wants
  split
  · rfl
  · exact if_neg fun hw => held hw.2.1

/-- With a track in its STANDBY a head's queue is not looked at (R58, R72). -/
theorem State.service_held (held : (s.buffers.get h).standby.held ≠ .empty) : s.service h = s.evalStarvation h := by
  obtain ⟨x, notices, e⟩ := s.evalStarvation_eq h
  rw [State.service, State.wants_held (by rw [e]; exact held)]

theorem DropFields.holds_iff (f : DropFields) (n : Nat) : f.holds n = decide (f.first ≤ n ∧ n ≤ max f.first f.last) := by
  unfold DropFields.holds
  split
  · rw [decide_eq_decide]; omega
  · rw [← Bool.decide_and, decide_eq_decide]; omega

theorem DropFields.not_holds_iff (f : DropFields) (n : Nat) : (!f.holds n) = decide (n < f.first ∨ max f.first f.last < n) := by
  rw [DropFields.holds_iff, ← decide_not, decide_eq_decide]; omega

/-- The descriptors that a DROP_TRACKS removes. -/
def State.dropped (s : State) (h : HeadId) (f : DropFields) : List Descriptor :=
  (s.store.queues.get h).filter fun d => f.first ≤ d.number ∧ d.number ≤ max f.first f.last

theorem Store.discard_eq (u : Store) (h : HeadId) (f : DropFields) : (u.discard h fun d => f.holds d.number) = { u with
    free := u.free.give (((u.queues.get h).filter fun d => f.first ≤ d.number ∧ d.number ≤ max f.first f.last).flatMap
      Descriptor.pages)
    freeDescriptors := u.freeDescriptors +
      ((u.queues.get h).filter fun d => f.first ≤ d.number ∧ d.number ≤ max f.first f.last).length
    queues := u.queues.set h ((u.queues.get h).filter fun d => d.number < f.first ∨ max f.first f.last < d.number) } := by
  simp only [Store.discard, ← DropFields.not_holds_iff, DropFields.holds_iff]

theorem takeDropTracks_eq {f : DropFields} (hf : f.head = h.val) (hfit : s.fitted h = true) : takeDropTracks f s =
    (if s.dropped h f = [] then { s with store := s.store.discard h fun d => f.holds d.number }
     else ({ s with store := s.store.discard h fun d => f.holds d.number } : State).service h,
     Response.ok (u16 (s.dropped h f).length ++ (s.store.discard h fun d => f.holds d.number).countBytes h)) := by
  have hgone : ((s.store.queues.get h).filter fun d => f.holds d.number) = s.dropped h f := by
    simp only [DropFields.holds_iff, State.dropped]
  rw [takeDropTracks, hf, onFitted_of_fitted hfit]
  simp only [hgone, List.isEmpty_iff]

theorem State.anyHeld_iff (s : State) : s.anyHeld = true ↔ ∃ h, s.held h ≠ [] := by
  simp [State.anyHeld, List.any_eq_true, mem_heads4]

end Sys2Proof.Machine

open Sys2Proof Sys2Proof.Machine

/-- Settles O41: the removal is one discard of the queue, followed by the starvation state alone. -/
theorem dropAndClear : Obligations.DropAndClear := by
  refine ⟨fun tag payload f h s gone st hp hf hfit can idle hgone hst => ?_,
    fun tag payload f h b s gone st lead mark toCome low hp hf hfit can hb hsrc hphase held hgone some_ hmark hto hst most all
      stops hlow => ?_,
    fun tag s can free => ?_, fun tag s can ⟨h, held⟩ => ?_⟩
  · have hdrop : s.handed.dropped h f = gone := hgone.symm
    have hserve := State.service_idle (h := h)
      (s := { s.handed with store := s.handed.store.discard h fun d => f.holds d.number }) idle
    refine (State.request_done (owner := takeDropTracks) can hp (takeDropTracks_eq (s := s.handed) hf hfit)).trans ?_
    rw [hdrop, hserve, State.handed_store, Store.discard_eq, ← hgone, hst]
    by_cases hnone : gone = []
    · simp only [hnone, if_true]
      rfl
    · simp only [if_neg hnone]
      rfl
  · have hdrop : s.handed.dropped h f = gone := hgone.symm
    have hqueues : (s.store.discard h fun d => f.holds d.number).queues = st.queues := by rw [Store.discard_eq, hst]
    have hcounts : ∀ n, ({ s.handed with store := s.store.discard h fun d => f.holds d.number } : State).counts h n =
        ({ s with store := st } : State).counts h n := fun n => by
      simp only [State.counts, hqueues, State.handed_buffers]
    obtain rfl : toCome = b.toCome := hto
    subst hmark
    have can' : b.canStarve = true := by
      obtain e | e := hphase <;> simp [Band.canStarve, hsrc, e]
    have hlead := State.leadFrom_eq (s := { s.handed with store := s.store.discard h fun d => f.holds d.number }) (h := h)
      (n := b.next) most (fun i hi => (hcounts _).trans (all i hi)) (fun hlt => (hcounts _).trans (stops hlt))
    have hserve := (State.service_held (s := { s.handed with store := s.store.discard h fun d => f.holds d.number }) held).trans
      (State.evalStarvation_can (s := { s.handed with store := s.store.discard h fun d => f.holds d.number }) hb can'
        hlead hlow)
    refine (State.request_done (owner := takeDropTracks) can hp (takeDropTracks_eq (s := s.handed) hf hfit)).trans ?_
    rw [hdrop, if_neg some_, State.handed_store, hserve, Store.discard_eq, ← hgone, hst]
    by_cases hpost : low = true ∧ s.store.starved.get h = false
    · rw [if_pos hpost, if_pos hpost]
      rfl
    · rw [if_neg hpost, if_neg hpost]
      rfl
  · have hheld : s.handed.anyHeld = false := by
      rw [Bool.eq_false_iff, Ne, State.anyHeld_iff]
      rintro ⟨h, hh⟩
      exact hh (free h)
    refine (State.request_done (owner := takeStoreClear) can rfl (by rw [takeStoreClear, hheld])).trans ?_
    rfl
  · have hheld : s.handed.anyHeld = true := s.handed.anyHeld_iff.mpr ⟨h, held⟩
    refine (State.request_done (owner := takeStoreClear) can rfl (by rw [takeStoreClear, hheld])).trans ?_
    rfl
end

section
/-! The read port's arbiter, and the ends of copies and patch fills (chapter 5). -/

namespace Sys2Proof.Machine

variable {s t : State} {h : HeadId}

/-! ### The arbiter's choice (R74) -/

/-- The choice among the heads seen so far: the asking head with the greatest relative count, the lowest number among
equals. -/
def State.nearestAmong (s : State) (seen : List HeadId) : Option HeadId → Prop
  | none => ∀ g ∈ seen, s.asking g = none
  | some h => h ∈ seen ∧ (s.asking h).isSome = true ∧ ∀ g ∈ seen, g ≠ h → (s.asking g).isSome = true →
      s.relCount g < s.relCount h ∨ (s.relCount g = s.relCount h ∧ h < g)

theorem State.nearestAmong_nearer {seen : List HeadId} {best : Option HeadId} {k : HeadId} (hbest : s.nearestAmong seen best)
    (rising : ∀ g ∈ seen, g < k) : s.nearestAmong (seen ++ [k]) (s.nearer best k) := by
  unfold State.nearer
  by_cases asks : (s.asking k).isSome = true
  · rw [if_pos asks]
    cases best with
    | none =>
      refine ⟨by simp, asks, fun g hg ne hask => ?_⟩
      obtain hg | hg := List.mem_append.mp hg
      · simp [hbest g hg] at hask
      · exact absurd (List.mem_singleton.mp hg) ne
    | some h =>
      obtain ⟨hmem, hasks, hall⟩ := hbest
      dsimp only
      split
      · next hlt =>
        refine ⟨by simp, asks, fun g hg ne hask => .inl ?_⟩
        obtain hg | hg := List.mem_append.mp hg
        · by_cases e : g = h
          · rwa [e]
          · have := hall g hg e hask
            omega
        · exact absurd (List.mem_singleton.mp hg) ne
      · next hge =>
        refine ⟨by simp [hmem], hasks, fun g hg ne hask => ?_⟩
        obtain hg | hg := List.mem_append.mp hg
        · exact hall g hg ne hask
        · rw [List.mem_singleton.mp hg]
          exact (Nat.lt_or_eq_of_le (Nat.le_of_not_lt hge)).imp id fun e => ⟨e, rising h hmem⟩
  · rw [if_neg asks]
    have hnone : s.asking k = none := by simpa using asks
    cases best with
    | none =>
      intro g hg
      obtain hg | hg := List.mem_append.mp hg
      · exact hbest g hg
      · rwa [List.mem_singleton.mp hg]
    | some h =>
      obtain ⟨hmem, hasks, hall⟩ := hbest
      refine ⟨by simp [hmem], hasks, fun g hg ne hask => ?_⟩
      obtain hg | hg := List.mem_append.mp hg
      · exact hall g hg ne hask
      · rw [List.mem_singleton.mp hg, hnone] at hask
        simp at hask

theorem State.arbiterChoice_nearest (s : State) : s.nearestAmong heads4 s.arbiterChoice := by
  have h0 : s.nearestAmong [] none := fun g hg => absurd hg (by simp)
  have h1 := State.nearestAmong_nearer h0 (k := 0) (by simp)
  have h2 := State.nearestAmong_nearer h1 (k := 1) (by decide)
  have h3 := State.nearestAmong_nearer h2 (k := 2) (by decide)
  exact State.nearestAmong_nearer h3 (k := 3) (by decide)

theorem State.arbiterChoice_some (hc : s.arbiterChoice = some h) : (s.asking h).isSome = true ∧
    ∀ g, g ≠ h → (s.asking g).isSome = true → s.relCount g < s.relCount h ∨ (s.relCount g = s.relCount h ∧ h < g) := by
  have hn := s.arbiterChoice_nearest
  rw [hc] at hn
  obtain ⟨-, asks, hall⟩ := hn
  exact ⟨asks, fun g => hall g (mem_heads4 g)⟩

theorem State.arbiterChoice_none (hc : s.arbiterChoice = none) (g : HeadId) : s.asking g = none := by
  have hn := s.arbiterChoice_nearest
  rw [hc] at hn
  exact hn g (mem_heads4 g)

/-- With no head asking the arbiter decides nothing. -/
theorem State.arbitrate_quiet (quiet : ∀ g, s.asking g = none) : s.arbitrate = s := by
  have hc : s.arbiterChoice = none := by
    cases hc : s.arbiterChoice with
    | none => rfl
    | some h => simpa [quiet h] using (State.arbiterChoice_some hc).1
  rw [State.arbitrate, State.arbitrateUpTo, hc]
  cases s.fetch.copy <;> rfl

/-- The chosen head's copy starts (R75, R76). -/
theorem State.arbitrate_grants {d : Descriptor} (free : s.fetch.copy = none) (hc : s.arbiterChoice = some h)
    (hd : s.asking h = some d) (hn : d.n = s.contextN h) : s.arbitrate = s.startCopy h d := by
  rw [State.arbitrate, State.arbitrateUpTo, free, hc]
  simp only [hd, hn, if_true]

theorem State.asking_inactive (idle : s.active h = none) : s.asking h = none := by
  simp [State.asking, State.eligibleFor, State.wants_idle idle]

theorem State.asking_held (held : (s.buffers.get h).standby.held ≠ .empty) : s.asking h = none := by
  simp [State.asking, State.eligibleFor, State.wants_held held]

/-! ### What a passage of time leaves alone -/

theorem State.reach_eq (s : State) (due : Nat) : s.reach due = { s with
    clock := (s.reach due).clock, ctu := (s.reach due).ctu, heads := (s.reach due).heads, link := (s.reach due).link } := by
  unfold State.reach State.elapse
  split <;> rfl

/-! ### Copies and fills -/

theorem readTones_length (m : Memory) {pages : List Nat} {n : Nat} (hn : n ≤ 1024 * pages.length) :
    (readTones m pages n).length = n := by
  have hall : (pages.flatMap fun p => Memory.readRun m (pageAddress p 0) Config.pageBytes).length = 1024 * pages.length := by
    simp [List.length_flatMap, Config.pageBytes, Nat.mul_comm]
  rw [readTones, List.length_take, hall]
  omega

/-- The STANDBY that an ending copy or fill loads is not waiting for a track. -/
theorem LineBuffers.filled_held (b : LineBuffers) (x : BufferTrack) (tones : List Byte) :
    (b.filled x tones).standby.held ≠ .empty := by
  simp [LineBuffers.filled]

theorem State.evalStarvation_cannot (cannot : ∀ b, s.active h = some b → b.canStarve = false) :
    s.evalStarvation h = s.setStarved h false := by
  unfold State.evalStarvation
  split
  · rfl
  · next b hb => rw [cannot b hb]; rfl

/-- The end of a copy with no band active on another head: no grant follows it. -/
theorem State.finishCopy_alone {c : Copy} (alone : ∀ g, g ≠ c.head → s.active g = none) : s.finishCopy c =
    ({ s with
      store := s.store.giveBack c.pages
      fetch := { s.fetch with copy := none }
      buffers := s.buffers.set c.head ((s.buffers.get c.head).filled ⟨c.track, .data, c.n⟩ (readTones s.store.dram c.pages c.n)) } : State).evalStarvation
      c.head := by
  have hheld := (s.buffers.get c.head).filled_held ⟨c.track, .data, c.n⟩ (readTones s.store.dram c.pages c.n)
  generalize hu : ({ s with
      store := s.store.giveBack c.pages
      fetch := { s.fetch with copy := none }
      buffers := s.buffers.set c.head ((s.buffers.get c.head).filled ⟨c.track, .data, c.n⟩ (readTones s.store.dram c.pages c.n)) } : State) = u
  have hfin : s.finishCopy c = (u.service c.head).arbitrate := by rw [← hu]; rfl
  have hstand : (u.buffers.get c.head).standby.held ≠ .empty := by rw [← hu]; simpa using hheld
  have hactive : ∀ g, g ≠ c.head → u.active g = none := fun g ne => by rw [← hu]; exact alone g ne
  rw [hfin, State.service_held hstand]
  refine State.arbitrate_quiet fun g => ?_
  obtain ⟨x, notices, e⟩ := u.evalStarvation_eq c.head
  by_cases hg : g = c.head
  · subst hg
    exact State.asking_held (by rw [e]; exact hstand)
  · exact State.asking_inactive (by rw [State.evalStarvation_active]; exact hactive g hg)

theorem patchTones_getD (pairs : List PatchPair) {n i : Nat} (hi : i < n) :
    (patchTones pairs n).getD i 0 = patchToneAt pairs (i % (pairs.map PatchPair.run).sum) := by
  simp [patchTones, hi, patchCycle]

/-- A place in the cycle falls into the pair whose run covers it (R83). -/
theorem patchToneAt_pair (before after : List PatchPair) (p : PatchPair) {r : Nat} (hr : r < p.run) :
    patchToneAt (before ++ p :: after) ((before.map PatchPair.run).sum + r) = p.tone := by
  induction before with
  | nil => simp [patchToneAt, hr]
  | cons q before ih =>
    have hnot : ¬q.run + (before.map PatchPair.run).sum + r < q.run := by omega
    have hsub : q.run + (before.map PatchPair.run).sum + r - q.run = (before.map PatchPair.run).sum + r := by omega
    simp only [List.cons_append, List.map_cons, List.sum_cons, patchToneAt, if_neg hnot, hsub, ih]

end Sys2Proof.Machine

open Sys2Proof Sys2Proof.Machine

/-- Settles O43: the arbiter's fold over the heads keeps the nearest of the heads it has seen. -/
theorem arbiterGrantsNearest : Obligations.ArbiterGrantsNearest := by
  refine fun s => ⟨fun h hc => State.arbiterChoice_some hc, fun hc => State.arbiterChoice_none hc, fun h d free hc hd hn => ?_⟩
  rw [State.arbitrate_grants free hc hd hn, State.startCopy]
  dsimp only
  generalize hu : State.setStandby _ h _ = u
  obtain ⟨x, notices, e⟩ := u.evalStarvation_eq h
  rw [e, ← hu]
  refine ⟨rfl, ?_, ?_⟩
  · simp
  · simp [Store.grantFront]

/-- Settles O44: the buffer that is loaded no longer waits for a track, so that nothing but its starvation state follows. -/
theorem copyAndFillComplete : Obligations.CopyAndFillComplete := by
  refine ⟨fun c s hc hn alone => ?_, fun h done n m s hfill hload hpatch => ?_, fun pairs n i hi => patchTones_getD pairs hi,
    fun before after p r hr => patchToneAt_pair before after p hr, fun s hc => ?_, fun h s hfill => ?_⟩
  · refine ⟨((s.reach c.done).finishCopy c).settled, by simp only [exec, execCopyComplete, hc]; rfl, ?_⟩
    have hr := s.reach_eq c.done
    have halone : ∀ g, g ≠ c.head → (s.reach c.done).active g = none := fun g ne => by rw [hr]; exact alone g ne
    rw [State.finishCopy_alone halone]
    generalize hu : State.mk _ _ _ _ _ _ _ _ _ _ _ _ _ _ _ _ = u
    obtain ⟨x, notices, e⟩ := u.evalStarvation_eq c.head
    have hlen := readTones_length s.store.dram hn
    rw [e, ← hu, hr]
    refine ⟨rfl, ?_, rfl, ?_, fun i => ?_, ?_, fun g ne => ?_, rfl, rfl, rfl, s.reach_clock c.done⟩
    · exact FreePages.give_toList ..
    · simp [State.settled, LineBuffers.filled]
    · simp [State.settled, LineBuffers.filled, Memory.read_writeRun, hlen]
    · simp [State.settled, LineBuffers.filled]
    · simp [State.settled, ne]
  · have hr := s.reach_eq done
    have hfilled := (s.buffers.get h).filled_held ⟨m, .patch, n⟩ (patchTones (s.patches.get h) n)
    have hfin : (s.reach done).finishFill h = ({ s.reach done with
        fetch := { s.fetch with fills := s.fetch.fills.set h none }
        buffers := s.buffers.set h ((s.buffers.get h).filled ⟨m, .patch, n⟩ (patchTones (s.patches.get h) n)) } : State).setStarved h
        false := by
      rw [State.finishFill, hr]
      simp only [hload, if_true]
      refine (State.service_held (by simpa using hfilled)).trans (State.evalStarvation_cannot fun b hb => ?_)
      simp [Band.canStarve, hpatch b hb]
    simp only [exec, execPatchFillComplete, hfill, hfin]
    rw [hr]
    rfl
  · simp only [exec, execCopyComplete, hc]
    rfl
  · simp only [exec, execPatchFillComplete, hfill]
    rfl
end

section
/-! Ramp updates and the ends of the settle and dwell timers (chapter 6). -/

namespace Sys2Proof.Machine

variable {s t : State} {h : HeadId} {x : Head} {r : Ramp}

/-! ### The level under a ramp (R88) -/

/-- `k` updates close the distance to the target by `k` steps. -/
theorem approach_iterate (target step level k : Nat) :
    ((fun l => approach l target step)^[k] level - target) + (target - (fun l => approach l target step)^[k] level) =
      ((level - target) + (target - level)) - k * step := by
  induction k generalizing level with
  | zero => simp
  | succ k ih =>
    have hone : (approach level target step - target) + (target - approach level target step) =
        ((level - target) + (target - level)) - step := by
      unfold approach; split <;> omega
    rw [Function.iterate_succ_apply, ih, hone, Nat.succ_mul]
    omega

/-! ### The segments of a sine ramp (R89) -/

/-- The segment that a sine ramp passes to: it holds movement or is the last, and those passed over hold none. -/
theorem segmentFrom_spec (start level : Nat) (delta : Int) (skips j : Nat) (enough : 16 ≤ j + skips) :
    j ≤ (segmentFrom start delta level skips j).number ∧
    (segmentFrom start delta level skips j).target = segmentTarget start delta (segmentFrom start delta level skips j).number ∧
    ((segmentFrom start delta level skips j).target ≠ level ∨ 16 ≤ (segmentFrom start delta level skips j).number) ∧
    ∀ i, j ≤ i → i < (segmentFrom start delta level skips j).number → segmentTarget start delta i = level := by
  induction skips generalizing j with
  | zero => exact ⟨le_refl _, rfl, .inr enough, fun i low high => absurd high (Nat.not_lt.mpr low)⟩
  | succ skips ih =>
    unfold segmentFrom
    split
    · next still =>
      obtain ⟨hlow, htarget, hmoves, hpassed⟩ := ih (j + 1) (by omega)
      refine ⟨by omega, htarget, hmoves, fun i low high => ?_⟩
      obtain e | lt := Nat.eq_or_lt_of_le low
      · exact e ▸ still.1
      · exact hpassed i lt high
    · next opens =>
      refine ⟨le_refl _, rfl, ?_, fun i low high => absurd high (Nat.not_lt.mpr low)⟩
      by_cases e : segmentTarget start delta j = level
      · exact .inr (Nat.not_lt.mp fun low => opens ⟨e, low⟩)
      · exact .inl e

/-! ### A ramp update -/

theorem Head.rampUpdate_short (ne : approach x.level r.goal x.settings.rampStep ≠ r.target) : x.rampUpdate r = ({ x with
    level := approach x.level r.goal x.settings.rampStep
    ramp := some { r with
      segment := r.advance (approach x.level r.goal x.settings.rampStep), next := r.next + x.settings.interval } }, .none) :=
  if_neg ne

theorem Head.rampUpdate_end (e : approach x.level r.goal x.settings.rampStep = r.target) : x.rampUpdate r =
    ({ x with level := approach x.level r.goal x.settings.rampStep } : Head).rampEnd :=
  if_pos e

/-- A RAMP_UPDATE is the head's update at its time, and its report to the band. -/
theorem exec_rampUpdate {y : Head} {report : HeadReport} (hr : (s.heads.get h).ramp = some r) (ht : t = s.reach r.next)
    (hy : (t.heads.get h).rampUpdate r = (y, report)) :
    exec (.rampUpdate h) s = .next ((t.updHead h fun _ => y).onReport h report).settled := by
  subst ht
  simp only [exec, execRampUpdate, hr, State.rampStep, hy]
  rfl

theorem State.onReport_engaged : s.onReport h .engaged = s.onEngaged h := rfl

theorem State.onReport_parked : s.onReport h .parked = s.onParked h := rfl

theorem Head.rampEnd_settling (hs : x.state = .engaging) (settle : x.settings.settle ≠ 0) {l : Nat} :
    ({ x with level := l } : Head).rampEnd = ({ x with
      level := l, state := .settling, ramp := none, settleTimer := some (x.settings.settle * 1000) }, .none) := by
  simp [Head.rampEnd, hs, settle]

theorem Head.rampEnd_ready (hs : x.state = .engaging) (settle : x.settings.settle = 0) {l : Nat} :
    ({ x with level := l } : Head).rampEnd = ({ x with level := l, state := .ready, ramp := none }, .engaged) := by
  simp [Head.rampEnd, hs, settle]

theorem Head.rampEnd_parked (hs : x.state = .retracting) {l : Nat} :
    ({ x with level := l } : Head).rampEnd = ({ x with level := l, state := .parked, ramp := none }, .parked) := by
  simp [Head.rampEnd, hs]

theorem State.onEngaged_engaging {b : Band} (hb : s.active h = some b) (phase : b.phase = .engaging) :
    s.onEngaged h = s.setActive h (some { b with phase := .waitSync }) := by
  rw [State.onEngaged, hb]
  exact if_pos phase

/-- A parked head reports to no band, or to one that does not wait for it. -/
theorem State.onParked_other (other : ∀ b, s.active h = some b → b.phase ≠ .positioning) : s.onParked h = s := by
  unfold State.onParked
  split
  · next b f hb _ => exact if_neg fun hp => other b hb hp.1
  · rfl
  · rfl

theorem Axis.moveTo_away {a : Axis} {target : Nat} (away : a.pos ≠ target) (now : Nat) : a.moveTo target now =
    ⟨decide (a.pos < target), 0, (target - a.pos) + (a.pos - target), now, 1000000, a.settings.rate⟩ := by
  unfold Axis.moveTo Axis.moveOf
  by_cases low : a.pos ≤ target
  · have hlt : a.pos < target := Nat.lt_of_le_of_ne low away
    rw [if_pos low, decide_eq_true hlt, show a.pos - target = 0 by omega, Nat.add_zero]
  · rw [if_neg low, decide_eq_false (by omega), show target - a.pos = 0 by omega, Nat.zero_add]

/-- A parked head lets a POSITIONING band's axis start its move to the band's start (R118, R130). -/
theorem State.onParked_positioning {b : Band} {f : FeedContext} (hb : s.active h = some b) (phase : b.phase = .positioning)
    (hf : (s.axes.get h).feed = some f) (stage : f.stage = .positioning) (away : (s.axes.get h).pos ≠ f.start) :
    s.onParked h = s.updAxis h fun a => a.drive (a.moveTo f.start s.clock) := by
  rw [State.onParked, hb, hf]
  refine (if_pos ⟨phase, stage⟩).trans ?_
  rw [State.positionOrder, hf]
  simp only [stage, if_neg away]

/-! ### The settle and dwell timers -/

theorem Head.settleLeft_settling (hs : x.state = .settling) : x.settleLeft = x.settleTimer := if_pos hs

theorem State.elapse_eq (s : State) (n : Nat) : s.elapse n = { s with
    clock := (s.elapse n).clock, ctu := (s.elapse n).ctu, heads := (s.elapse n).heads, link := (s.elapse n).link } := by
  unfold State.elapse
  split <;> rfl

theorem State.elapse_active (s : State) (n : Nat) : (s.elapse n).active = s.active := by
  rw [s.elapse_eq n]; rfl

theorem State.onEngaged_idle (idle : s.active h = none) : s.onEngaged h = s.updHead h fun x => (x.dwell s.clock).1 := by
  rw [State.onEngaged, idle]
  simp only [State.dwellIdle, idle]

/-- A SETTLE_EXPIRY: the head is READY and reports engaged (R94). -/
theorem exec_settleExpiry {n : Nat} (settling : (s.heads.get h).state = .settling) (timer : (s.heads.get h).settleTimer = some n)
    (ht : t = s.elapse n) : exec (.settleExpiry h) s = .next ((t.updHead h Head.settleOver).onEngaged h).settled := by
  subst ht
  simp only [exec, execSettleExpiry, Head.settleLeft_settling settling, timer]
  rfl

/-- A head's retract from READY away from 0 (R91). -/
theorem Head.retract_ready (hs : x.state = .ready) (away : x.level ≠ 0) (now : Nat) : x.retract now =
    ({ x with state := .retracting, dwellTimer := none, ramp := some (x.rampTo 0 now) }, .none) := by
  rw [Head.retract, hs]
  exact if_neg away

theorem Head.rampTo_segment (x : Head) (target now : Nat) : (x.rampTo target now).segment = none ↔ x.settings.shape = .linear := by
  cases hs : x.settings.shape <;> simp [Head.rampTo, hs]

end Sys2Proof.Machine

open Sys2Proof Sys2Proof.Machine

/-- Settles O47: an update by where it leaves the level, and the head's report to its band. -/
theorem rampUpdateMovesTheLevel : Obligations.RampUpdateMovesTheLevel := by
  refine ⟨fun h r s t x goal level hr ht hx hgoal hlevel => ?_, fun level target step hstep k => ?_, fun h s hnone => ?_⟩
  · have hgoal' : r.goal = goal := hgoal.symm
    have happ : approach x.level r.goal x.settings.rampStep = level := by rw [hgoal', hlevel]; rfl
    have hbands : t.bands = s.bands := by rw [ht, s.reach_eq]
    have haxes : t.axes = s.axes := by rw [ht, s.reach_eq]
    have hactive : t.active h = s.active h := congrArg (fun q => (q.get h).active) hbands
    subst hx
    refine ⟨fun short inside => ?_, fun g short hg reached => ?_, fun done engaging settle => ?_,
      fun b done engaging settle hb phase => ?_, fun done retracting other => ?_,
      fun b f a p done retracting hb phase ha hf stage hp away => ?_⟩
    · have hadv : r.advance level = r.segment := by
        obtain hn | hn := inside
        · simp [Ramp.advance, hn]
        · cases hseg : r.segment with
          | none => simp [Ramp.advance, hseg]
          | some g =>
            have hne : level ≠ g.target := by rwa [← hgoal', Ramp.goal, hseg] at hn
            simp [Ramp.advance, hseg, hne]
      rw [exec_rampUpdate hr ht (Head.rampUpdate_short (by rwa [happ])), happ, hadv]
      rfl
    · have hg' : level = g.target := by rw [reached, ← hgoal', Ramp.goal, hg]
      obtain ⟨hlow, htarget, hmoves, hpassed⟩ := segmentFrom_spec r.start level r.delta 16 (g.number + 1) (by omega)
      have hadv : r.advance level = some (segmentFrom r.start r.delta level 16 (g.number + 1)) := by
        rw [Ramp.advance, hg, Option.map_some, if_pos hg']
      refine ⟨segmentFrom r.start r.delta level 16 (g.number + 1), hlow, htarget, hmoves, hpassed, ?_⟩
      rw [exec_rampUpdate hr ht (Head.rampUpdate_short (by rwa [happ])), happ, hadv]
      rfl
    all_goals have hend := Head.rampUpdate_end (happ.trans done)
    all_goals rw [happ] at hend
    · rw [exec_rampUpdate hr ht (hend.trans (Head.rampEnd_settling engaging settle))]
      rfl
    · rw [exec_rampUpdate hr ht (hend.trans (Head.rampEnd_ready engaging settle)), State.onReport_engaged,
        State.onEngaged_engaging (s := t.updHead h fun _ => _) (b := b) (hactive.trans hb) phase]
      rfl
    · rw [exec_rampUpdate hr ht (hend.trans (Head.rampEnd_parked retracting)), State.onReport_parked,
        State.onParked_other (s := t.updHead h fun _ => _) fun b hb => other b (hactive.symm.trans hb)]
      rfl
    · subst ha hp
      have haxis : t.axes.get h = s.axes.get h := congrArg (·.get h) haxes
      have haway : (t.axes.get h).pos ≠ f.start := by rw [haxis]; exact away
      rw [exec_rampUpdate hr ht (hend.trans (Head.rampEnd_parked retracting)), State.onReport_parked,
        State.onParked_positioning (s := t.updHead h fun _ => _) (b := b) (f := f) (hactive.trans hb) phase
          ((congrArg Axis.feed haxis).trans hf) stage haway, ← haxis]
      simp only [State.updAxis, State.updHead_clock, State.updHead_axes, Axis.moveTo_away haway]
      rfl
  · rw [ceilDiv_le_iff hstep, Nat.mul_comm]
    have hdist := approach_iterate target step level k
    omega
  · simp only [exec, execRampUpdate, hnone]
    rfl

/-- Settles O48: what follows when a head's settle or dwell timer has run its time left. -/
theorem settleAndDwellExpire : Obligations.SettleAndDwellExpire := by
  refine fun h s => ⟨fun n t x settling timer ht hx => ⟨fun b hb phase => ?_, fun idle dwell on => ?_⟩,
    fun n t x ready idle timer ht hx away => ?_, fun other => ?_, fun other => ?_⟩
  · subst hx
    have hactive : t.active h = s.active h := by rw [ht, s.elapse_eq]; rfl
    rw [exec_settleExpiry settling timer ht, State.onEngaged_engaging (s := t.updHead h Head.settleOver) (b := b) (hactive.trans hb) phase]
    rfl
  · subst hx
    have hactive : t.active h = s.active h := by rw [ht, s.elapse_eq]; rfl
    rw [exec_settleExpiry settling timer ht, State.onEngaged_idle (s := t.updHead h Head.settleOver) (hactive.trans idle)]
    have hdwell : ((t.heads.get h).settleOver.dwell t.clock).1 = { t.heads.get h with
        state := .ready, settleTimer := none, dwellTimer := some ((t.heads.get h).settings.dwell * 10000) } := by
      simp [Head.dwell, Head.settleOver, dwell, on]
    simp only [State.updHead, Quad.get_set_same, Quad.set_set, hdwell]
    rfl
  · subst hx
    have hstate : (t.heads.get h).state = .ready := by
      rw [ht, State.elapse_heads]; exact ready
    have hleft : s.dwellLeft h = some n := by
      rw [State.dwellLeft, if_pos ⟨ready, by simp [idle]⟩, timer]
    refine ⟨((t.heads.get h).rampTo 0 t.clock).segment, Head.rampTo_segment .., ?_⟩
    simp only [exec, execDwellExpiry, hleft, ← ht, State.retractOrder, Head.retract_ready hstate away]
    rw [show -((t.heads.get h).level : Int) = ((0 : Nat) : Int) - (t.heads.get h).level by omega]
    rfl
  · simp only [exec, execSettleExpiry, Head.settleLeft, if_neg other]
    rfl
  · have hnone : s.dwellLeft h = none := if_neg fun hd => other hd.1
    simp only [exec, execDwellExpiry, hnone]
    rfl
end

section
/-! HOME, SEEK, AXIS_HALT and the home sensor (chapter 7). -/

namespace Sys2Proof.Machine

variable {s t : State} {k : HeadId} {a : Axis}

/-! ### Postings and faults of an axis -/

/-- A change of an axis with its posting (R116). -/
theorem State.postAxis_updAxis (s : State) (k : HeadId) (f : Axis → Axis) (e : AxisEvent) :
    (s.updAxis k f).postAxis k e = { s with
      axes := s.axes.set k (f (s.axes.get k))
      link := s.link.post (.axis k) (.axis e (f (s.axes.get k)).state (f (s.axes.get k)).lastFault
        (f (s.axes.get k)).reported s.timestamp) } := by
  simp only [State.postAxis, State.updAxis, State.post, Quad.get_set_same]
  rfl

/-- The limit fault of an axis (R114). -/
theorem State.limitStop_eq (s : State) (k : HeadId) : s.limitStop k = { s with
    axes := s.axes.set k ((s.axes.get k).lost .limitSwitch)
    link := s.link.post (.axis k) (.axis .limitSwitch .unhomed .limitSwitch (s.axes.get k).known s.timestamp) } :=
  State.postAxis_updAxis ..

theorem State.limitOnEntry_off {f : Axis → Axis} (off : s.pins.limitSwitch.get k = false) :
    (s.updAxis k f).limitOnEntry k = s.updAxis k f := by
  simp [State.limitOnEntry, State.onLimit, off]

/-- An axis that enters a watched state on its limit switch stops at once (R114). -/
theorem State.limitOnEntry_on {f : Axis → Axis} (on : s.pins.limitSwitch.get k = true) (watched : (f (s.axes.get k)).watched = true) :
    (s.updAxis k f).limitOnEntry k = { s with
      axes := s.axes.set k ((f (s.axes.get k)).lost .limitSwitch)
      link := s.link.post (.axis k) (.axis .limitSwitch .unhomed .limitSwitch (f (s.axes.get k)).known s.timestamp) } := by
  have hon : (s.updAxis k f).onLimit k = true := by simp [State.onLimit, on, watched]
  rw [State.limitOnEntry, if_pos hon, State.limitStop_eq]
  simp only [State.updAxis, Quad.get_set_same, Quad.set_set]
  rfl

/-! ### The separation tests of HOME -/

theorem apart_some_right {m o : Nat} {lower : Option (Nat × Nat)} :
    apart m lower (some (o, o)) = true ↔ ∀ x, lower = some x → x.2 + m ≤ o := by
  cases lower <;> simp [apart]

theorem apart_some_left {m o : Nat} {upper : Option (Nat × Nat)} :
    apart m (some (o, o)) upper = true ↔ ∀ x, upper = some x → o + m ≤ x.1 := by
  cases upper <;> simp [apart]

theorem State.homeClear_iff (s : State) (k : HeadId) : s.homeClear k = true ↔
    (∀ j, j < k → s.fitted j = true → (s.axes.get j).homed = true ∧
      ∀ x, s.span j = some x → x.2 + s.machine.minsep ≤ (s.axes.get k).settings.origin) ∧
    ∀ x, s.spanAt s.ctu.acting.fitted (k.val + 1) = some x → (s.axes.get k).settings.origin + s.machine.minsep ≤ x.1 := by
  unfold State.homeClear
  rw [Bool.and_eq_true, List.all_eq_true, apart_some_left]
  refine and_congr_left fun _ => ⟨fun hall j hj hfit => ?_, fun hall j _ => ?_⟩
  · have hj' : decide (j.val < k.val) = true := decide_eq_true hj
    have h := hall j (mem_heads4 j)
    rw [hj', hfit] at h
    obtain ⟨hhomed, hapart⟩ : (s.axes.get j).homed = true ∧
        apart s.machine.minsep (s.span j) (some ((s.axes.get k).settings.origin, (s.axes.get k).settings.origin)) = true := by
      simpa using h
    exact ⟨hhomed, apart_some_right.mp hapart⟩
  · by_cases hj : j < k
    · cases hfit : s.fitted j with
      | false => simp
      | true =>
        obtain ⟨hhomed, hspan⟩ := hall j hj hfit
        simp [hhomed, apart_some_right.mpr hspan]
    · simp [Fin.not_lt.mp hj]

/-! ### HOME (R110) -/

theorem State.homeRefusal_none (still : (s.axes.get k).state = .unhomed ∨ (s.axes.get k).state = .idle) (free : s.held k = [])
    (ready : s.ctu.ready = true) (parked : (s.heads.get k).state = .parked) (clear : s.homeClear k = true) :
    s.homeRefusal k = none := by
  obtain e | e := still <;> simp [State.homeRefusal, e, free, ready, parked, clear]

/-- The later checks of HOME, on an axis that neither homes nor seeks. -/
theorem State.homeRefusal_still (notHoming : (s.axes.get k).state ≠ .homing) (notSeeking : (s.axes.get k).state ≠ .seeking) :
    s.homeRefusal k = if (s.axes.get k).state = .feeding ∨ s.held k ≠ [] then some (Response.refused .bandOwned [])
      else if s.ctu.ready = false then some (Response.refused .notReady [])
      else if (s.heads.get k).state ≠ .parked then some (Response.refused .headEngaged [])
      else if s.homeClear k = false then some (Response.refused .notClear [])
      else none := by
  simp [State.homeRefusal, notHoming, notSeeking]

section
variable (hfit : s.fitted k = true)
include hfit

theorem takeHome_refused {r : Response} (hr : s.homeRefusal k = some r) : takeHome k.val s = (s, r) := by
  rw [takeHome, onFitted_of_fitted hfit, hr]

theorem takeHome_found (hr : s.homeRefusal k = none) (sensor : s.pins.homeSensor.get k = true) :
    takeHome k.val s = ((s.updAxis k Axis.foundHome).postAxis k .homed, Response.ok []) := by
  rw [takeHome, onFitted_of_fitted hfit, hr]
  exact if_pos sensor

theorem takeHome_started (hr : s.homeRefusal k = none) (sensor : s.pins.homeSensor.get k = false) :
    takeHome k.val s = ((s.updAxis k fun a => a.startHome s.clock).limitOnEntry k, Response.ok []) := by
  rw [takeHome, onFitted_of_fitted hfit, hr]
  exact if_neg (by simp [sensor])

end

theorem onFitted_of_unfitted (hfit : s.fitted k = false) (f : HeadId → State × Response) :
    onFitted k.val s f = (s, Response.refused .notFitted []) := by
  simp [onFitted, headOf_val, hfit]

theorem onFitted_of_bad {n : Nat} (hn : 3 < n) (f : HeadId → State × Response) : onFitted n s f = (s, Response.badField []) := by
  simp [onFitted, headOf_eq_none hn]

theorem Axis.known_eq (still : a.state = .unhomed ∨ a.state = .idle) : a.known = if a.state = .idle then a.position else a.lastKnown := by
  obtain e | e := still <;> simp [Axis.known, Axis.homed, e]

theorem Axis.known_of_homed (homed : a.homed = true) : a.known = a.position := if_pos homed

/-! ### SEEK (R112) -/

theorem State.allHomed_iff (s : State) : s.allHomed = true ↔ ∀ j, s.fitted j = true → (s.axes.get j).homed = true := by
  unfold State.allHomed
  rw [List.all_eq_true]
  refine ⟨fun hall j hfit => by simpa [hfit] using hall j (mem_heads4 j), fun hall j _ => ?_⟩
  cases hfit : s.fitted j with
  | false => simp
  | true => simp [hall j hfit]

theorem State.seekRefusal_eq (s : State) (k : HeadId) : s.seekRefusal k =
    if s.ctu.ready = false then some .notReady
    else if s.allHomed = false then some .notHomed
    else if (s.axes.get k).state = .feeding ∨ s.held k ≠ [] then some .bandOwned
    else if (s.heads.get k).state ≠ .parked then some .headEngaged
    else none := by
  simp [State.seekRefusal]

theorem spanOver_pair (origin p q : Nat) : spanOver origin [p, q] = (origin + min p q, origin + max p q) := by
  simp [spanOver, lowest, highest]

section
variable {f : SeekFields} (hf : f.axis = k.val)
include hf

theorem takeSeek_unfitted (hfit : s.fitted k = false) :
    takeSeek f s = (s, Response.refused .notFitted (u32 ((s.axes.get k).clampTarget f.target))) := by
  simp [takeSeek, hf, headOf_val, hfit]

theorem takeSeek_refused {r : Reason} (hfit : s.fitted k = true) (hr : s.seekRefusal k = some r) :
    takeSeek f s = (s, Response.refused r (u32 ((s.axes.get k).clampTarget f.target))) := by
  simp [takeSeek, hf, headOf_val, hfit, hr]

theorem takeSeek_collision (hfit : s.fitted k = true) (hr : s.seekRefusal k = none)
    (near : s.clearOf k (spanOver (s.axes.get k).settings.origin [(s.axes.get k).pos, (s.axes.get k).clampTarget f.target]) = false) :
    takeSeek f s = (s, Response.refused .collision (u32 ((s.axes.get k).clampTarget f.target))) := by
  simp [takeSeek, hf, headOf_val, hfit, hr, near]

theorem takeSeek_taken (hfit : s.fitted k = true) (hr : s.seekRefusal k = none)
    (clear : s.clearOf k (spanOver (s.axes.get k).settings.origin [(s.axes.get k).pos, (s.axes.get k).clampTarget f.target]) = true) :
    takeSeek f s = (s.seekTo k ((s.axes.get k).clampTarget f.target),
      Response.taken (outsideInt 0 (s.axes.get k).settings.maxpos f.target) (u32 ((s.axes.get k).clampTarget f.target))) := by
  simp [takeSeek, hf, headOf_val, hfit, hr, clear]

end

/-- A seek starts from the present position (R112). -/
theorem Axis.startSeek_eq {p target : Nat} (hp : a.position = some p) (now : Nat) : a.startSeek target now = { a with
    state := .seeking, target := some target, outputs := { a.outputs with up := decide (p ≤ target) }
    move := some ⟨decide (p ≤ target), 0, (target - p) + (p - target), now, 1000000, a.settings.rate⟩ } := by
  have hpos : a.pos = p := by rw [Axis.pos, hp, Option.getD_some]
  have hmove : a.moveTo target now = ⟨decide (p ≤ target), 0, (target - p) + (p - target), now, 1000000, a.settings.rate⟩ := by
    unfold Axis.moveTo Axis.moveOf
    rw [hpos]
    by_cases low : p ≤ target
    · rw [if_pos low, decide_eq_true low, show p - target = 0 by omega, Nat.add_zero]
    · rw [if_neg low, decide_eq_false low, show target - p = 0 by omega, Nat.zero_add]
  simp only [Axis.startSeek, Axis.drive, hmove]

end Sys2Proof.Machine

open Sys2Proof Sys2Proof.Machine

/-- Settles O50: HOME by its checks and then by the two switches, and the sensor by the axis state. -/
theorem homeAndHomeSensor : Obligations.HomeAndHomeSensor := by
  refine ⟨fun tag k a known s can hfit ha still free ready parked below above hknown => ?_,
    fun tag n s hn hbyte can => ?_, fun tag k a s can ha refused href => ?_, fun k level s => ⟨fun off => ?_, fun on homing => ?_⟩⟩
  · subst ha
    have hknown' : (s.axes.get k).known = known := (Axis.known_eq still).trans hknown.symm
    have hr : s.handed.homeRefusal k = none := State.homeRefusal_none (s := s.handed) still free ready parked
      ((State.homeClear_iff s.handed k).mpr ⟨below, above⟩)
    have hbyte := oneByte_u8_head k
    refine ⟨fun sensor => ?_, fun sensor off => ?_, fun sensor on => ?_⟩
    · refine (State.request_done (owner := takeHome) can hbyte (takeHome_found (s := s.handed) hfit hr sensor)).trans ?_
      rw [State.postAxis_updAxis, ← hknown']
      rfl
    · refine (State.request_done (owner := takeHome) can hbyte (takeHome_started (s := s.handed) hfit hr sensor)).trans ?_
      rw [State.limitOnEntry_off (s := s.handed) off, ← hknown']
      rfl
    · refine (State.request_done (owner := takeHome) can hbyte (takeHome_started (s := s.handed) hfit hr sensor)).trans ?_
      rw [State.limitOnEntry_on (s := s.handed) on rfl, ← hknown']
      rfl
  · exact State.request_refused (owner := takeHome) can (oneByte_u8 hbyte) (onFitted_of_bad hn _)
  · subst ha href
    have hbyte := oneByte_u8_head k
    have hrefuse : ∀ {r}, s.fitted k = true → s.handed.homeRefusal k = some r →
        s.onlyAnswers (.home tag (u8 k.val)) 0x23 tag r := fun hfit hr =>
      State.request_refused (owner := takeHome) can hbyte (takeHome_refused (s := s.handed) hfit hr)
    refine ⟨fun hfit => State.request_refused (owner := takeHome) can hbyte (onFitted_of_unfitted (s := s.handed) hfit _), fun hfit =>
      ⟨fun moving => hrefuse hfit ?_, fun notHoming notSeeking => ⟨fun owned => hrefuse hfit ?_, fun notFeeding free =>
        ⟨fun notReady => hrefuse hfit ?_, fun ready => ⟨fun engaged => hrefuse hfit ?_, fun parked near => hrefuse hfit ?_⟩⟩⟩⟩⟩
    · exact if_pos moving
    · rw [State.homeRefusal_still (s := s.handed) notHoming notSeeking]
      exact if_pos owned
    all_goals
      have hown : ¬((s.handed.axes.get k).state = .feeding ∨ s.handed.held k ≠ []) := not_or.mpr ⟨notFeeding, not_not.mpr free⟩
      rw [State.homeRefusal_still (s := s.handed) notHoming notSeeking, if_neg hown]
    · exact if_pos notReady
    all_goals rw [if_neg (show ¬s.handed.ctu.ready = false by simp [ready])]
    · exact if_pos engaged
    · have hclear : s.handed.homeClear k = false := by
        rw [Bool.eq_false_iff, Ne, State.homeClear_iff]
        rintro ⟨below, above⟩
        obtain ⟨j, hj, hfitj, hnear⟩ | ⟨x, hx, hnear⟩ := near
        · obtain ⟨hhomed, hspan⟩ := below j hj hfitj
          obtain hn | ⟨x, hx, hlt⟩ := hnear
          · exact absurd (hhomed.symm.trans hn) (by simp)
          · exact absurd (hspan x hx) (Nat.not_le.mpr hlt)
        · exact absurd (above x hx) (Nat.not_le.mpr hnear)
      exact (if_neg (not_not.mpr parked)).trans (if_pos hclear)
  · have hnext : exec (.homeSensorActive k level) s = .next (State.settled
        { s with pins := { s.pins with homeSensor := s.pins.homeSensor.set k level } }) := by
      obtain rfl | other := off
      · rfl
      · cases level
        · rfl
        · simp only [exec, execHomeSensorActive, State.homeFound, if_neg other, if_true]
          rfl
    rw [hnext]
    rfl
  · subst on
    have hknown : (s.axes.get k).known = (s.axes.get k).lastKnown := by simp [Axis.known, Axis.homed, homing]
    simp only [exec, execHomeSensorActive, State.homeFound, homing, if_true, State.postAxis_updAxis]
    rw [Axis.foundHome, hknown]
    rfl

/-- Settles O51. -/
theorem seekAndHalt : Obligations.SeekAndHalt := by
  refine ⟨fun tag payload f k a target p s hp hf can hfit ready homed ha notFeeding free parked hpos htarget clear => ?_,
    fun tag payload f s hp hbad can => ?_, fun tag payload f k a target p s hp hf can ha htarget hpos refused href => ?_,
    fun tag k a s can hfit ha => ⟨fun seeking => ?_, fun homing => ?_, fun still => ?_, fun feeding => ?_⟩⟩
  · subst ha
    have hpos' : (s.axes.get k).pos = p := by rw [Axis.pos, hpos, Option.getD_some]
    have htarget' : (s.axes.get k).clampTarget f.target = target := htarget.symm
    have hhomed := homed k hfit
    have hown : ¬((s.handed.axes.get k).state = .feeding ∨ s.handed.held k ≠ []) := not_or.mpr ⟨notFeeding, not_not.mpr free⟩
    have hall : ¬s.handed.allHomed = false := by simpa using (State.allHomed_iff s.handed).mpr homed
    have hr : s.handed.seekRefusal k = none := by
      rw [State.seekRefusal_eq, if_neg (show ¬s.handed.ctu.ready = false by simp [ready]), if_neg hall, if_neg hown]
      exact if_neg (not_not.mpr parked)
    have htaken := takeSeek_taken (s := s.handed) hf hfit hr (by
      rw [spanOver_pair, State.handed_axes, hpos', htarget']; exact clear)
    rw [State.handed_axes, htarget', Response.taken_eq outsideInt_iff] at htaken
    refine ⟨fun arrived => ?_, fun away off => ?_, fun away on => ?_⟩
    · have hrep : (s.handed.axes.get k).rest.reported = some p := hpos
      have hto : s.handed.seekTo k target = (s.handed.updAxis k Axis.rest).postAxis k .arrived :=
        if_pos (arrived.trans hpos'.symm)
      refine (State.request_done (owner := takeSeek) can hp htaken).trans ?_
      rw [hto, State.postAxis_updAxis, hrep]
      rfl
    all_goals
      have hto : s.handed.seekTo k target = (s.handed.updAxis k fun a => a.startSeek target s.clock).limitOnEntry k :=
        if_neg fun e => away (e.trans hpos')
    · refine (State.request_done (owner := takeSeek) can hp htaken).trans ?_
      rw [hto, State.limitOnEntry_off (s := s.handed) off]
      simp only [State.updAxis, State.handed_axes, Axis.startSeek_eq hpos]
      rfl
    · have hknown : ((s.handed.axes.get k).startSeek target s.clock).known = some p := hpos
      have hlost : ((s.handed.axes.get k).startSeek target s.clock).lost .limitSwitch = { s.axes.get k with
          state := .unhomed, position := none, lastKnown := some p, target := none, move := none
          outputs := { (s.axes.get k).outputs with up := decide (p ≤ target) }
          homeSteps := none, lastFault := .limitSwitch, feed := none } := by
        rw [Axis.lost, hknown, State.handed_axes, Axis.startSeek_eq hpos]
      refine (State.request_done (owner := takeSeek) can hp htaken).trans ?_
      rw [hto, State.limitOnEntry_on (s := s.handed) on rfl, hknown, hlost]
      rfl
  · exact State.request_refused (owner := takeSeek) can hp (by rw [takeSeek, headOf_eq_none hbad]; rfl)
  · subst ha hpos
    have htarget' : (s.axes.get k).clampTarget f.target = target := htarget.symm
    simp only [href]
    refine ⟨fun hfit => ?_, fun hfit => ⟨fun notReady => ?_, fun ready => ⟨fun unhomed => ?_, fun homed =>
      ⟨fun owned => ?_, fun notFeeding free => ⟨fun engaged => ?_, fun parked near => ?_⟩⟩⟩⟩⟩
    · exact State.request_refused (owner := takeSeek) can hp (htarget' ▸ takeSeek_unfitted (s := s.handed) hf hfit)
    all_goals
      have hrefuse : ∀ {r}, s.handed.seekRefusal k = some r →
          s.onlyAnswers (.seek tag payload) 0x24 tag ⟨.refused, some r, u32 target⟩ := fun hr =>
        State.request_refused (owner := takeSeek) can hp (htarget' ▸ takeSeek_refused (s := s.handed) hf hfit hr)
      have heq := State.seekRefusal_eq s.handed k
    · exact hrefuse (heq.trans (if_pos notReady))
    all_goals rw [if_neg (show ¬s.handed.ctu.ready = false by simp [ready])] at heq
    · obtain ⟨j, hj, hn⟩ := unhomed
      have hall : s.handed.allHomed = false := by
        rw [Bool.eq_false_iff, Ne, State.allHomed_iff]
        exact fun hall => absurd ((hall j hj).symm.trans hn) (by simp)
      exact hrefuse (heq.trans (if_pos hall))
    all_goals
      have hall : ¬s.handed.allHomed = false := by simpa using (State.allHomed_iff s.handed).mpr homed
      rw [if_neg hall] at heq
    · exact hrefuse (heq.trans (if_pos owned))
    all_goals
      have hown : ¬((s.handed.axes.get k).state = .feeding ∨ s.handed.held k ≠ []) := not_or.mpr ⟨notFeeding, not_not.mpr free⟩
      rw [if_neg hown] at heq
    · exact hrefuse (heq.trans (if_pos engaged))
    · have hr := heq.trans (if_neg (not_not.mpr parked))
      refine State.request_refused (owner := takeSeek) can hp ?_
      have hcol := takeSeek_collision (s := s.handed) hf hfit hr (by
        rw [spanOver_pair, State.handed_axes, htarget']; exact near)
      rwa [State.handed_axes, htarget'] at hcol
  all_goals
    subst ha
    have hbyte := oneByte_u8_head k
  · have htake : takeAxisHalt k.val s.handed = (s.handed.updAxis k Axis.rest, Response.ok []) := by
      rw [takeAxisHalt, onFitted_of_fitted (s := s.handed) hfit, State.handed_axes, seeking]
    exact (State.request_done (owner := takeAxisHalt) can hbyte htake).trans rfl
  · have hlost : (s.axes.get k).lost .none = { s.axes.get k with
        state := .unhomed, position := none, target := none, move := none, homeSteps := none
        lastFault := .none, feed := none } := by
      simp [Axis.lost, Axis.known, Axis.homed, homing]
    have htake : takeAxisHalt k.val s.handed = (s.handed.updAxis k fun a => a.lost .none, Response.ok []) := by
      rw [takeAxisHalt, onFitted_of_fitted (s := s.handed) hfit, State.handed_axes, homing]
    refine (State.request_done (owner := takeAxisHalt) can hbyte htake).trans ?_
    rw [← hlost]
    rfl
  · refine State.request_refused (owner := takeAxisHalt) can hbyte
      ((onFitted_of_fitted (s := s.handed) hfit _).trans ?_)
    obtain e | e := still <;> simp only [State.handed_axes, e] <;> rfl
  · refine State.request_refused (owner := takeAxisHalt) can hbyte
      ((onFitted_of_fitted (s := s.handed) hfit _).trans ?_)
    simp only [State.handed_axes, feeding]
    rfl
end

section
/-! Move steps (chapter 7), and conversions that latch no alarm (chapter 9). -/

namespace Sys2Proof.Machine

variable {s t : State} {k h : HeadId} {a : Axis} {m : Move}

/-! ### Move steps -/

/-- A MOVE_STEP is the axis's step at its time (R105). -/
theorem exec_moveStep (hm : (s.axes.get k).move = some m) (ht : t = s.reach m.due) :
    exec (.moveStep k) s = .next (t.moveStep k m).settled := by
  subst ht
  simp only [exec, execMoveStep, hm]
  rfl

theorem Axis.advance_more (more : 1 < m.toGo) : a.advance m = { a with
    position := a.position.map (stepFrom m.up), move := some m.stepped
    outputs := { a.outputs with pulses := a.outputs.pulses + 1 } } := by
  simp [Axis.advance, Nat.not_le.mpr more, Axis.pulse]

theorem Axis.advance_last (last : m.toGo = 1) : a.advance m = { a with
    position := a.position.map (stepFrom m.up), move := none
    outputs := { a.outputs with pulses := a.outputs.pulses + 1 } } := by
  simp [Axis.advance, last, Axis.pulse]

theorem State.updAxis_updAxis (s : State) (k : HeadId) (f g : Axis → Axis) :
    (s.updAxis k f).updAxis k g = s.updAxis k fun a => g (f a) := by
  simp [State.updAxis]

/-- A step before the last of a seek or of a band's move. -/
theorem State.moveStep_more (state : (s.axes.get k).state = .seeking ∨ (s.axes.get k).state = .feeding) (more : 1 < m.toGo) :
    s.moveStep k m = s.updAxis k fun a => a.advance m := by
  obtain e | e := state
  · simp only [State.moveStep, e, State.seekStep, if_neg (Nat.not_le.mpr more)]
  · simp only [State.moveStep, e, State.feedStep, if_neg (Nat.not_le.mpr more)]

theorem State.moveStep_seekEnd (state : (s.axes.get k).state = .seeking) (last : m.toGo = 1) :
    s.moveStep k m = (s.updAxis k fun a => (a.advance m).rest).postAxis k .arrived := by
  simp only [State.moveStep, state, State.seekStep, last, le_refl, if_true, State.updAxis_updAxis]

theorem State.moveStep_pitchEnd (state : (s.axes.get k).state = .feeding) (last : m.toGo = 1)
    (moving : (s.axes.get k).moving = true) :
    s.moveStep k m = s.updAxis k fun a => (a.advance m).setStage .hold := by
  simp only [State.moveStep, state, State.feedStep, last, le_refl, if_true, moving, State.updAxis_updAxis]

theorem State.moveStep_positioned (state : (s.axes.get k).state = .feeding) (last : m.toGo = 1)
    (moving : (s.axes.get k).moving = false) :
    s.moveStep k m = (s.updAxis k fun a => (a.advance m).setStage .hold).onAtStart k := by
  simp only [State.moveStep, state, State.feedStep, last, le_refl, if_true, moving, State.updAxis_updAxis]
  rfl

/-- A POSITIONING band whose axis reports at start is ENGAGING, and its head has the engage order (R118, R130). -/
theorem State.onAtStart_positioning {b : Band} (hb : s.active h = some b) (phase : b.phase = .positioning) :
    s.onAtStart h = (s.setActive h (some { b with phase := .engaging })).engageOrder h := by
  rw [State.onAtStart, hb]
  exact if_pos phase

/-- An engage order that does not take the head to READY at once has no further effect (R90, R94). -/
theorem State.engageOrder_quiet (quiet : ((s.heads.get h).engage s.clock).2 = .none) :
    s.engageOrder h = s.updHead h fun _ => ((s.heads.get h).engage s.clock).1 := by
  rw [State.engageOrder]
  simp only [quiet]

/-- A PARKED head that must ramp or settle does not report engaged at once (R90, R94). -/
theorem Head.engage_quiet {x : Head} (parked : x.state = .parked) (slow : x.level ≠ x.settings.level ∨ x.settings.settle ≠ 0)
    (now : Nat) : (x.engage now).2 = .none := by
  simp only [Head.engage, parked, Head.startRamp]
  split
  · next same => simp [Head.rampEnd, slow.resolve_left (not_not.mpr same)]
  · rfl

/-- A homing step before the end of the span (R111). -/
theorem State.moveStep_homing {n : Nat} (state : (s.axes.get k).state = .homing) (steps : (s.axes.get k).homeSteps = some n)
    (more : n + 1 < (s.axes.get k).settings.homeSpan ∨ s.pins.homeSensor.get k = true) :
    s.moveStep k m = s.updAxis k fun a => { a with homeSteps := some (n + 1), move := some m.stepped }.pulse 1 := by
  have hcond : ¬((s.axes.get k).settings.homeSpan ≤ n + 1 ∧ s.pins.homeSensor.get k = false) := by
    rintro ⟨low, off⟩
    obtain lt | on := more
    · omega
    · simp [off] at on
  simp only [State.moveStep, state, State.homingStep, steps, Option.getD_some, if_neg hcond]

theorem State.moveStep_homeFailed {n : Nat} (state : (s.axes.get k).state = .homing) (steps : (s.axes.get k).homeSteps = some n)
    (span : (s.axes.get k).settings.homeSpan ≤ n + 1) (off : s.pins.homeSensor.get k = false) :
    s.moveStep k m = (s.updAxis k fun a =>
      ({ a with homeSteps := some (n + 1), move := some m.stepped }.pulse 1).lost .homeNotFound).postAxis k .homeNotFound := by
  simp only [State.moveStep, state, State.homingStep, steps, Option.getD_some, if_pos (And.intro span off),
    State.updAxis_updAxis]

/-! ### Conversions -/

theorem Monitor.slots_setSlot (m : Monitor) (i j : Fin 16) (x : Slot) :
    (m.setSlot i x).slots.get j = if j = i then x else m.slots.get j := by
  simp [Monitor.setSlot, Vector.get_eq_getElem, Vector.getElem_set, Fin.ext_iff, eq_comm]

theorem Slot.inRange_iff (x : Slot) (v : Nat) : x.inRange v = true ↔ x.low ≤ v ∧ v ≤ x.high := by
  simp [Slot.inRange]

/-- The card of an alarm that latches, before its action (R155). -/
def State.alarmPosted (s : State) (i : Fin 16) (x : Slot) (v : Nat) : State :=
  (s.setMonitor (s.monitor.setSlot i { x with latched := true })).post (.alarm i)
    (.alarm v x.low x.high x.run x.action x.mask (actedMask x s.ctu.acting.fitted) s.timestamp s.ctu.revs)

theorem State.latchAlarm_eq (s : State) (i : Fin 16) (x : Slot) (v : Nat) :
    s.latchAlarm i x v = (s.alarmPosted i x v).alarmAll i x := rfl

/-- What judging a conversion leaves of the monitor, whether an alarm latches or not (R152, R154, R155). -/
theorem State.judgeConversion_monitor (s : State) (i : Fin 16) (v : Nat) : ∃ latched,
    (s.judgeConversion i v).monitor =
      s.monitor.setSlot i { (s.monitor.slot i).converted v s.timestamp with latched := latched } ∧
    (s.judgeConversion i v).clock = s.clock := by
  unfold State.judgeConversion
  dsimp only
  split
  · rw [State.latchAlarm_eq]
    have hboard := (State.alarmAll_runs (s.alarmPosted i ((s.monitor.slot i).converted v s.timestamp) v) i
      ((s.monitor.slot i).converted v s.timestamp)).board
    exact ⟨true, hboard.monitor, hboard.clock⟩
  · exact ⟨((s.monitor.slot i).converted v s.timestamp).latched, rfl, rfl⟩

/-- What follows a conversion keeps the slots and the run's bounds, and clears the halt request (R152). -/
theorem Monitor.follow_keeps (m : Monitor) (i : Fin 16) (now : Nat) : (m.follow i now).slots = m.slots ∧
    (m.follow i now).start = m.start ∧ (m.follow i now).stop = m.stop ∧ (m.follow i now).haltRequest = false := by
  unfold Monitor.follow
  split
  · exact ⟨rfl, rfl, rfl, rfl⟩
  · next on =>
    split
    · exact ⟨rfl, rfl, rfl, Bool.eq_false_iff.mpr on⟩
    · exact ⟨rfl, rfl, rfl, Bool.eq_false_iff.mpr on⟩

theorem Monitor.follow_halted {m : Monitor} (halt : m.haltRequest = true) (i : Fin 16) (now : Nat) :
    (m.follow i now).mode = .halted ∧ (m.follow i now).conversion = none := by
  rw [Monitor.follow, if_pos halt]
  exact ⟨rfl, rfl⟩

theorem Monitor.follow_above {m : Monitor} {i : Fin 16} (on : m.haltRequest = false) (below : i < m.stop) (now : Nat) :
    (m.follow i now).mode = m.mode ∧ (m.follow i now).conversion.map (fun d => (d.slot.val, d.done)) =
      some (i.val + 1, now + 40) := by
  have hval : (i + 1).val = i.val + 1 := by
    have hlt : i.val < m.stop.val := below
    exact Fin.val_add_one_of_lt' (by omega)
  rw [Monitor.follow, if_neg (by simp [on]), if_pos (.inr below)]
  exact ⟨rfl, by simp [Monitor.convert, nextSlot, below, hval, conversionTime]⟩

theorem Monitor.follow_around {m : Monitor} {i : Fin 16} (on : m.haltRequest = false) (end_ : m.stop ≤ i)
    (continuous : m.mode = .continuous) (now : Nat) :
    (m.follow i now).mode = .continuous ∧ (m.follow i now).conversion = some ⟨m.start, now + 40⟩ := by
  rw [Monitor.follow, if_neg (by simp [on]), if_pos (.inl continuous)]
  exact ⟨continuous, by simp [Monitor.convert, nextSlot, end_, conversionTime]⟩

theorem Monitor.follow_single {m : Monitor} {i : Fin 16} (on : m.haltRequest = false) (end_ : m.stop ≤ i)
    (single : m.mode ≠ .continuous) (now : Nat) : (m.follow i now).mode = .halted ∧ (m.follow i now).conversion = none := by
  rw [Monitor.follow, if_neg (by simp [on]), if_neg (not_or.mpr ⟨single, Nat.not_lt.mpr end_⟩)]
  exact ⟨rfl, rfl⟩

/-- A CONVERSION_COMPLETE (R152). -/
theorem exec_conversionComplete {c : Conversion} (v : BitVec 12) (hc : s.monitor.conversion = some c) (ht : t = s.reach c.done) :
    exec (.conversionComplete v) s = .next (((t.judgeConversion c.slot (convertedValue c.slot v)).setMonitor
      ((t.judgeConversion c.slot (convertedValue c.slot v)).monitor.follow c.slot
        (t.judgeConversion c.slot (convertedValue c.slot v)).clock)).settled) := by
  subst ht
  simp only [exec, execConversionComplete, hc]
  rfl

theorem State.judgeConversion_quiet {i : Fin 16} {v : Nat}
    (quiet : ((s.monitor.slot i).converted v s.timestamp).latches v = false) :
    s.judgeConversion i v = s.setMonitor (s.monitor.setSlot i ((s.monitor.slot i).converted v s.timestamp)) := by
  simp [State.judgeConversion, quiet]

theorem Slot.latches_iff (x : Slot) (v : Nat) : x.latches v = true ↔
    ¬(x.low ≤ v ∧ v ≤ x.high) ∧ x.hysteresis ≤ x.run ∧ x.latched = false ∧ x.action ≠ .none := by
  rw [← Slot.inRange_iff]
  simp [Slot.latches, and_assoc]

end Sys2Proof.Machine

open Sys2Proof Sys2Proof.Machine

/-- Settles O52: a step by the axis state and by whether it is the move's last. -/
theorem moveStepAdvances : Obligations.MoveStepAdvances := by
  intro k a o s ha ho
  refine ⟨fun hm => ?_, fun m t hm ht => ?_⟩
  · subst ha
    simp only [exec, execMoveStep, hm]
    rfl
  have haxes : t.axes = s.axes := by rw [ht, s.reach_eq]
  have hbands : t.bands = s.bands := by rw [ht, s.reach_eq]
  have hpins : t.pins = s.pins := by rw [ht, s.reach_eq]
  have hexec : exec (.moveStep k) s = .next (t.moveStep k m).settled := exec_moveStep (ha ▸ hm) ht
  have ha' : a = t.axes.get k := by rw [haxes]; exact ha
  rw [hexec, ← haxes]
  subst ha' ho
  refine ⟨fun state more => ?_, fun p state last hp => ?_, fun x state last hx stage => ?_,
    fun x b state last hx stage hb phase parked slow => ?_, fun n state steps => ⟨fun more => ?_, fun span off => ?_⟩⟩
  · rw [State.moveStep_more state more]
    simp only [State.updAxis, Axis.advance_more more]
    rfl
  · rw [State.moveStep_seekEnd state last, State.postAxis_updAxis, Axis.advance_last last, hp]
    rfl
  · rw [State.moveStep_pitchEnd state last (by simp [Axis.moving, hx, stage])]
    simp only [State.updAxis, Axis.advance_last last, Axis.setStage, hx]
    rfl
  · have hactive : t.active k = some b := (congrArg (fun q => (q.get k).active) hbands).trans hb
    have hhead : t.heads.get k = (s.heads.get k).elapse (m.due - s.clock) := by rw [ht]; exact State.elapse_heads ..
    have hparked : (t.heads.get k).state = .parked := by rw [hhead]; exact parked
    have hslow : (t.heads.get k).level ≠ (t.heads.get k).settings.level ∨ (t.heads.get k).settings.settle ≠ 0 := by
      rw [hhead]; exact slow
    have hengages : (s.heads.get k).engages ((t.heads.get k).engage t.clock).1 t.clock := by
      have h := Head.engage_engages (t.heads.get k) t.clock (.inl hparked)
      rw [hhead] at h ⊢
      exact h
    refine ⟨_, rfl, ?_⟩
    have hstart := State.onAtStart_positioning (s := t.updAxis k fun a => (a.advance m).setStage .hold) (b := b) hactive phase
    have horder := State.engageOrder_quiet (h := k) (s := (t.updAxis k fun a => (a.advance m).setStage .hold).setActive k
      (some { b with phase := .engaging })) (Head.engage_quiet hparked hslow _)
    rw [State.moveStep_positioned state last (by simp [Axis.moving, hx, stage]), hstart, horder]
    refine ⟨by simp [State.settled, State.active], ?_, ?_⟩
    · simpa [State.settled] using hengages
    · simp [State.settled, Axis.advance_last last, Axis.setStage, hx]
      rfl
  · rw [State.moveStep_homing state steps (by rwa [hpins])]
    rfl
  · have hknown : (({ t.axes.get k with homeSteps := some (n + 1), move := some m.stepped }.pulse 1 : Axis)).known =
        (t.axes.get k).lastKnown := by simp [Axis.known, Axis.homed, Axis.pulse, state]
    rw [State.moveStep_homeFailed state steps span (by rwa [hpins]), State.postAxis_updAxis, Axis.lost, hknown]
    rfl

/-- Settles O59: what judging a conversion leaves of the monitor, and what follows it. -/
theorem conversionsAreStoredAndCounted : Obligations.ConversionsAreStoredAndCounted := by
  refine ⟨fun v s hnone => ?_, fun v c n run x s t hc ht hn hx hrun => ?_⟩
  · simp only [exec, execConversionComplete, hnone]
    rfl
  have hmonitor : t.monitor = s.monitor := by rw [ht, s.reach_eq]
  have hslot : t.monitor.slot c.slot = x := by rw [hmonitor, hx]; rfl
  have hvalue : convertedValue c.slot v = n := hn.symm
  have hconv : x.converted n t.timestamp = { x with value := some n, valueTime := some t.timestamp, run := run } := by
    rw [hrun, Slot.converted]
    simp only [Slot.inRange_iff]
    rfl
  obtain ⟨latched, hjudge, hclock⟩ := t.judgeConversion_monitor c.slot n
  rw [hslot, hconv] at hjudge
  have hquiet := State.judgeConversion_quiet (s := t) (i := c.slot) (v := n)
  rw [hslot, hconv] at hquiet
  have hexec := exec_conversionComplete v hc ht
  rw [hvalue] at hexec
  refine ⟨_, hexec, ?_⟩
  generalize t.judgeConversion c.slot n = w at hjudge hclock hquiet ⊢
  obtain ⟨hslots, hstart, hstop, hhalt⟩ := w.monitor.follow_keeps c.slot w.clock
  have hwrest : w.monitor.haltRequest = s.monitor.haltRequest ∧ w.monitor.stop = s.monitor.stop ∧
      w.monitor.mode = s.monitor.mode ∧ w.monitor.start = s.monitor.start := by
    rw [hjudge, hmonitor]; exact ⟨rfl, rfl, rfl, rfl⟩
  obtain ⟨hwhalt, hwstop, hwmode, hwstart⟩ := hwrest
  have hget : ∀ i, (w.monitor.follow c.slot w.clock).slots.get i = if i = c.slot
      then { x with value := some n, valueTime := some t.timestamp, run := run, latched := latched }
      else s.monitor.slots.get i := fun i => by
    rw [hslots, hjudge, Monitor.slots_setSlot, hmonitor]
  refine ⟨hclock, ?_, fun i ne => ?_, hstart.trans hwstart, hstop.trans hwstop, hhalt, fun halt => ?_,
    fun on => ⟨fun below => ?_, fun end_ continuous => ?_, fun end_ single => ?_⟩, fun quiet => ?_⟩
  · have hsame := hget c.slot
    rw [if_pos rfl] at hsame
    exact hsame.trans (by rw [State.settled_monitor]; exact congrArg (fun l => ({ x with
      value := some n, valueTime := some t.timestamp, run := run, latched := l } : Slot)) (congrArg Slot.latched hsame).symm)
  · exact (hget i).trans (if_neg ne)
  · exact Monitor.follow_halted (hwhalt.trans halt) ..
  · rw [← hwmode, ← hclock]
    exact Monitor.follow_above (hwhalt.trans on) (hwstop ▸ below) _
  · rw [← hwstart, ← hclock]
    exact Monitor.follow_around (hwhalt.trans on) (hwstop ▸ end_) (hwmode.trans continuous) _
  · exact Monitor.follow_single (hwhalt.trans on) (hwstop ▸ end_) (hwmode ▸ single) _
  · have hnot : ({ x with value := some n, valueTime := some t.timestamp, run := run } : Slot).latches n = false := by
      rw [Bool.eq_false_iff, Ne, Slot.latches_iff]
      rintro ⟨out, full, clear, acts⟩
      obtain q | q | q | q := quiet
      · exact absurd (clear.symm.trans q) (by simp)
      · exact acts q
      · exact absurd full (Nat.not_le.mpr q)
      · exact out q
    have hw := hquiet hnot
    have hlatched := congrArg (fun u => (u.monitor.slots.get c.slot).latched) hw
    rw [hjudge] at hlatched
    simp only [State.setMonitor, Monitor.slots_setSlot, if_true] at hlatched
    refine ⟨(congrArg Slot.latched ((hget c.slot).trans (if_pos rfl))).trans hlatched, ?_⟩
    rw [hw]
    rfl
end

section
/-! The checks of ENGRAVE (section 8.2 and 8.3), and the band accepted behind an active one. -/

namespace Sys2Proof.Machine

variable {s t : State} {h : HeadId} {f : EngraveFields} {source : Source} {feed : Feed} {b : Band}

/-! ### The fields of a request (R126) -/

theorem State.bandOf_some (hsrc : sourceOf f.source = some source) (hfeed : feedOf f.feed = some feed) (scr : f.screen ≤ 15)
    (defined_ : (s.screen f.screen).n ≠ 0) (cur : f.curve ≤ 7) (cnt : 1 ≤ f.count) (lst : f.first + f.count ≤ 65536) :
    s.bandOf f = some (newBand f source feed) := by
  simp only [State.bandOf, hsrc, hfeed]
  exact if_neg (by omega)

theorem sourceOf_eq_none {n : Nat} (hn : 1 < n) : sourceOf n = none := by
  unfold sourceOf
  split
  · omega
  · omega
  · rfl

theorem feedOf_eq_none {n : Nat} (hn : 1 < n) : feedOf n = none := by
  unfold feedOf
  split
  · omega
  · omega
  · rfl

theorem State.bandOf_none (bad : 15 < f.screen ∨ (s.screen f.screen).n = 0 ∨ 7 < f.curve ∨ 1 < f.source ∨ 1 < f.feed ∨
    f.count = 0 ∨ 65536 < f.first + f.count) : s.bandOf f = none := by
  unfold State.bandOf
  split
  · next src fd hsrc hfeed =>
    have low : ¬1 < f.source := fun e => by simp [sourceOf_eq_none e] at hsrc
    have low' : ¬1 < f.feed := fun e => by simp [feedOf_eq_none e] at hfeed
    exact if_pos (by omega)
  · rfl
  · rfl

/-! ### The checks of acceptance and activation (R126, R127) -/

theorem State.acceptanceFailure_eq (s : State) (h : HeadId) (b : Band) : s.acceptanceFailure h b =
    if s.ctu.ready = false then some (Response.refused .notReady [])
    else if (s.heads.get h).inhibit = true then some (Response.refused .inhibited [])
    else if 4 ≤ s.resultLoad h then some (Response.refused .unreadResults [])
    else if 2 ≤ (s.held h).length then some (Response.busy [])
    else if s.allHomed = false then some (Response.refused .notHomed [])
    else if ∃ x ∈ s.extents b, (s.axes.get h).settings.maxpos < x then some (Response.refused .range [])
    else if s.roomFor h b = false then some (Response.refused .collision [])
    else none := by
  simp [State.acceptanceFailure]

theorem State.activationFailure_eq (s : State) (h : HeadId) (b : Band) : s.activationFailure h b =
    if s.ctu.timing ≠ .synced then some .notSynced
    else if s.ctu.speedOk = false then some .speed
    else if cellRate (s.screen b.screen).n (s.ctu.lastPeriod.getD 0) < (s.heads.get h).settings.fmin ∨
      (s.heads.get h).settings.fmax < cellRate (s.screen b.screen).n (s.ctu.lastPeriod.getD 0) then some .cellRate
    else if feedPasses b.feed (s.screen b.screen) (s.axes.get h).settings.rate (s.ctu.lastPeriod.getD 0) = false
      then some .feedTooSlow
    else none := by
  simp [State.activationFailure]

theorem State.extents_newBand (s : State) (f : EngraveFields) (source : Source) (feed : Feed) :
    s.extents (newBand f source feed) =
      [f.start, f.start + (if feed = .stepped then f.count - 1 else f.count) * (s.screen f.screen).pitch] := by
  cases feed <;> rfl

theorem feedPasses_iff (feed : Feed) (x : Screen) (rate period : Nat) : feedPasses feed x rate period = true ↔
    x.pitch * 1000000 ≤ rate * (if feed = .stepped then x.gap * period / 65536 else period) := by
  cases feed <;> simp [feedPasses]

/-- A band that meets every check of acceptance (R126). -/
theorem State.acceptanceFailure_none (ready : s.ctu.ready = true) (free : (s.heads.get h).inhibit = false)
    (read : s.resultLoad h ≤ 3) (held : (s.held h).length ≤ 1) (homed : ∀ k, s.fitted k = true → (s.axes.get k).homed = true)
    (inside : ∀ x ∈ s.extents b, x ≤ (s.axes.get h).settings.maxpos) (room : s.roomFor h b = true) :
    s.acceptanceFailure h b = none := by
  have hall := s.allHomed_iff.mpr homed
  have hin : ¬∃ x ∈ s.extents b, (s.axes.get h).settings.maxpos < x := fun ⟨x, hx, out⟩ => absurd (inside x hx) (by omega)
  rw [State.acceptanceFailure_eq, if_neg (by simp [ready]), if_neg (by simp [free]), if_neg (by omega), if_neg (by omega),
    if_neg (by simp [hall]), if_neg hin, if_neg (by simp [room])]

/-! ### ENGRAVE by its checks -/

section
variable (hf : f.head = h.val) (hfit : s.fitted h = true)
include hf hfit

theorem takeEngrave_badField (bad : s.bandOf f = none) : takeEngrave f s = (s, Response.badField []) := by
  rw [takeEngrave, hf, onFitted_of_fitted hfit, bad]

theorem takeEngrave_unaccepted {r : Response} (hb : s.bandOf f = some b) (fails : s.acceptanceFailure h b = some r) :
    takeEngrave f s = (s, r) := by
  rw [takeEngrave, hf, onFitted_of_fitted hfit, hb]
  simp only [fails]

theorem takeEngrave_inactive {r : Reason} (hb : s.bandOf f = some b) (passes : s.acceptanceFailure h b = none)
    (free : s.held h = []) (fails : s.activationFailure h b = some r) : takeEngrave f s = (s, Response.refused r []) := by
  rw [takeEngrave, hf, onFitted_of_fitted hfit, hb]
  simp only [passes, free, List.isEmpty_nil, if_true, engraveActive, fails]

theorem takeEngrave_active (hb : s.bandOf f = some b) (passes : s.acceptanceFailure h b = none)
    (free : s.held h = []) (starts : s.activationFailure h b = none) : takeEngrave f s =
    (s.activate h b, Response.ok (engraveContent b.tag
      ((((s.prepareBand h b).active h).map Band.phase).getD .pending) h (s.activate h b))) := by
  rw [takeEngrave, hf, onFitted_of_fitted hfit, hb]
  simp only [passes, free, List.isEmpty_nil, if_true, engraveActive, starts]
  rfl

theorem takeEngrave_pending (hb : s.bandOf f = some b) (passes : s.acceptanceFailure h b = none) (held : s.held h ≠ []) :
    takeEngrave f s = engravePending h b s := by
  rw [takeEngrave, hf, onFitted_of_fitted hfit, hb]
  simp only [passes, List.isEmpty_iff, if_neg held]

end

end Sys2Proof.Machine

open Sys2Proof Sys2Proof.Machine

/-- Settles O55: the checks in their order, each refusing before the next is looked at. -/
theorem engraveChecksAndPendingBand : Obligations.EngraveChecksAndPendingBand := by
  refine ⟨fun tag payload f s hp can => ⟨fun hbad => State.request_refused (owner := takeEngrave) can hp (onFitted_of_bad hbad _),
    fun h hf => ⟨fun hfit => State.request_refused (owner := takeEngrave) can hp ?_, fun hfit bad =>
      State.request_refused (owner := takeEngrave) can hp
        (takeEngrave_badField (s := s.handed) hf hfit (State.bandOf_none (s := s.handed) bad))⟩⟩, ?_⟩
  · rw [takeEngrave, hf]
    exact onFitted_of_unfitted (s := s.handed) hfit _
  intro tag payload f h source feed x endPoint s hp hf hsrc hfeed scr hx defined_ cur cnt lst hend hfit can room hroom
  subst hx hend
  have hb : s.handed.bandOf f = some (newBand f source feed) := State.bandOf_some (s := s.handed) hsrc hfeed scr defined_ cur cnt lst
  have hext := State.extents_newBand s f source feed
  have hroom' : s.handed.roomFor h (newBand f source feed) = room := by
    rw [hroom, ← hext]; rfl
  have heq := State.acceptanceFailure_eq s.handed h (newBand f source feed)
  have hrefuse : ∀ {r}, s.handed.acceptanceFailure h (newBand f source feed) = some r →
      exec (.engrave tag payload) s = .next { s with link := s.answered 0x20 tag r } := fun fails =>
    State.request_refused (owner := takeEngrave) can hp (takeEngrave_unaccepted (s := s.handed) hf hfit hb fails)
  refine ⟨fun notReady => hrefuse (heq.trans (if_pos notReady)), fun ready => ?_⟩
  rw [if_neg (show ¬s.handed.ctu.ready = false by simp [ready])] at heq
  refine ⟨fun inhibited => hrefuse (heq.trans (if_pos inhibited)), fun free => ?_⟩
  rw [if_neg (show ¬(s.handed.heads.get h).inhibit = true by simp [free])] at heq
  refine ⟨fun full => hrefuse (heq.trans (if_pos full)), fun read => ?_⟩
  rw [if_neg (show ¬4 ≤ s.handed.resultLoad h from Nat.not_le.mpr (Nat.lt_succ_of_le read))] at heq
  refine ⟨fun two => hrefuse (heq.trans (if_pos two)), fun one => ?_⟩
  rw [if_neg (show ¬2 ≤ (s.handed.held h).length from Nat.not_le.mpr (Nat.lt_succ_of_le one))] at heq
  have hall := State.allHomed_iff s.handed
  refine ⟨fun ⟨k, hk, off⟩ => hrefuse (heq.trans (if_pos ?_)), fun homed => ?_⟩
  · rw [Bool.eq_false_iff, Ne, hall]
    exact fun all => absurd ((all k hk).symm.trans off) (by simp)
  rw [if_neg (show ¬s.handed.allHomed = false by simp [hall.mpr homed])] at heq
  have hrange : (∃ x ∈ s.handed.extents (newBand f source feed), (s.handed.axes.get h).settings.maxpos < x) ↔
      (s.axes.get h).settings.maxpos < f.start ∨ (s.axes.get h).settings.maxpos <
        f.start + (if feed = .stepped then f.count - 1 else f.count) * (s.screen f.screen).pitch := by
    have : s.handed.extents (newBand f source feed) = s.extents (newBand f source feed) := rfl
    rw [this, hext]
    simp
  refine ⟨fun out => hrefuse (heq.trans (if_pos (hrange.mpr out))), fun low high => ?_⟩
  rw [if_neg (mt hrange.mp (by omega)), hroom'] at heq
  refine ⟨fun near => hrefuse (heq.trans (if_pos near)), fun clear none_held => ?_, fun b clear hband => ?_⟩
  · rw [if_neg (by simp [clear])] at heq
    have hact := State.activationFailure_eq s.handed h (newBand f source feed)
    have hrefuse : ∀ {r}, s.handed.activationFailure h (newBand f source feed) = some r →
        exec (.engrave tag payload) s = .next { s with link := s.answered 0x20 tag ⟨.refused, some r, []⟩ } := fun fails =>
      State.request_refused (owner := takeEngrave) can hp (takeEngrave_inactive (s := s.handed) hf hfit hb heq none_held fails)
    refine ⟨fun off => hrefuse (hact.trans (if_pos off)), fun synced slow => ?_, fun p synced speed hperiod pos => ?_⟩
    · rw [if_neg (show ¬s.handed.ctu.timing ≠ .synced from not_not.mpr synced)] at hact
      exact hrefuse (hact.trans (if_pos slow))
    · have hp' : s.handed.ctu.lastPeriod.getD 0 = p := by rw [State.handed_ctu, hperiod, Option.getD_some]
      have hcell : cellRate (s.handed.screen (newBand f source feed).screen).n p = (s.screen f.screen).n * 1000000 / p :=
        if_neg (Nat.pos_iff_ne_zero.mp pos)
      rw [if_neg (show ¬s.handed.ctu.timing ≠ .synced from not_not.mpr synced),
        if_neg (show ¬s.handed.ctu.speedOk = false by simp [speed]), hp', hcell] at hact
      refine ⟨fun rate => hrefuse (hact.trans (if_pos rate)), fun low high slow => ?_⟩
      rw [State.handed_heads, if_neg (show ¬_ from not_or.mpr ⟨Nat.not_lt.mpr low, Nat.not_lt.mpr high⟩)] at hact
      refine hrefuse (hact.trans (if_pos ?_))
      rw [Bool.eq_false_iff, Ne, feedPasses_iff]
      exact Nat.not_le.mpr slow
  · rw [if_neg (by simp [clear])] at heq
    have hactive : (s.bands.get h).active = some b := congrArg BandSequencer.active hband
    have hheld : s.handed.held h ≠ [] := by simp [State.held, hactive]
    have hpending : engravePending h (newBand f source feed) s.handed =
        ({ s.handed with bands := s.bands.set h ⟨some b, some (newBand f source feed), (s.bands.get h).results⟩ },
          Response.ok (u16 f.tag ++ u8 0 ++ u8 2 ++ u8 (s.bands.get h).results.length)) := by
      simp [engravePending, engraveContent, State.updBands, State.held, hactive, newBand, Phase.code]
    refine (State.request_done (owner := takeEngrave) can hp ((takeEngrave_pending (s := s.handed) hf hfit hb heq hheld).trans
      hpending)).trans rfl
end

section
/-! Operations of one head leave every other head as it is, as long as no copy is stopped: the arbiter alone reaches
across heads (R74, R79). -/

namespace Sys2Proof.Machine

variable {s t u : State} {h g : HeadId}

/-! ### What one head's work leaves alone -/

/-- From `s` to `t` every head but h is the same, and so is the copy in flight. -/
structure State.Local (h : HeadId) (s t : State) : Prop where
  others : ∀ g, g ≠ h → s.SameAt t g
  copy : t.fetch.copy = s.fetch.copy

theorem State.Local.refl (h : HeadId) (s : State) : State.Local h s s := ⟨fun g _ => .refl s g, rfl⟩

theorem State.Local.trans (a : State.Local h s t) (b : State.Local h t u) : State.Local h s u :=
  ⟨fun g ne => (a.others g ne).trans (b.others g ne), b.copy.trans a.copy⟩

section
variable (s h)

theorem State.Local.updHead (f : Head → Head) : State.Local h s (s.updHead h f) :=
  ⟨fun g ne => ⟨by simp [ne], rfl, rfl, rfl, rfl, rfl, rfl, fun _ _ => rfl⟩, rfl⟩

theorem State.Local.updAxis (f : Axis → Axis) : State.Local h s (s.updAxis h f) :=
  ⟨fun g ne => ⟨rfl, by simp [ne], rfl, rfl, rfl, rfl, rfl, fun _ _ => rfl⟩, rfl⟩

theorem State.Local.updBands (f : BandSequencer → BandSequencer) : State.Local h s (s.updBands h f) :=
  ⟨fun g ne => ⟨rfl, rfl, by simp [ne], rfl, rfl, rfl, rfl, fun _ _ => rfl⟩, rfl⟩

theorem State.Local.setActive (b : Option Band) : State.Local h s (s.setActive h b) :=
  ⟨fun g ne => ⟨rfl, rfl, by simp [ne], rfl, rfl, rfl, rfl, fun _ _ => rfl⟩, rfl⟩

theorem State.Local.updActive (f : Band → Band) : State.Local h s (s.updActive h f) := .setActive s h _

theorem State.Local.updBuffers (f : LineBuffers → LineBuffers) : State.Local h s (s.updBuffers h f) :=
  ⟨fun g ne => ⟨rfl, rfl, rfl, by simp [ne], rfl, rfl, rfl, fun _ _ => rfl⟩, rfl⟩

theorem State.Local.setStarved (x : Bool) : State.Local h s (s.setStarved h x) :=
  ⟨fun g ne => ⟨rfl, rfl, rfl, rfl, rfl, by simp [ne], rfl, fun _ _ => rfl⟩, rfl⟩

theorem State.Local.post {id : NoticeId} (hid : id.head? = some h) (c : NoticeContent) : State.Local h s (s.post id c) :=
  ⟨fun g ne => .post s (by simpa [hid] using Ne.symm ne) c, rfl⟩

theorem State.Local.clearFill : State.Local h s { s with fetch := { s.fetch with fills := s.fetch.fills.set h none } } :=
  ⟨fun g ne => ⟨rfl, rfl, rfl, rfl, rfl, rfl, by simp [ne], fun _ _ => rfl⟩, rfl⟩

/-! ### The end of a band -/

theorem State.evalStarvation_local : State.Local h s (s.evalStarvation h) := by
  unfold State.evalStarvation
  split
  · exact .setStarved ..
  · dsimp only
    split
    · split
      · exact .setStarved ..
      · split
        · exact .refl h s
        · exact (Local.setStarved s h true).trans (.post _ h rfl _)
    · exact .setStarved ..

theorem State.file_local (r : ResultRecord) : State.Local h s (s.file h r) :=
  (Local.updBands s h _).trans (.post _ h rfl _)

theorem State.closeBand_local (b : Band) (cls : ResultClass) (cause : Cause) (detail : Option CauseDetail) (order : Retire)
    (atBoundary : Bool) : State.Local h s (s.closeBand h b cls cause detail order atBoundary) :=
  ((((Local.updBuffers s h _).trans (evalStarvation_local _ h)).trans (.updHead _ h _)).trans (.updAxis _ h _)).trans
    (file_local _ h _)

theorem State.endPending_local (cls : ResultClass) (cause : Cause) : State.Local h s (s.endPending h cls cause) := by
  unfold State.endPending
  split
  · exact .refl h s
  · exact (Local.updBands s h _).trans (file_local _ h _)

theorem State.dwellIdle_local : State.Local h s (s.dwellIdle h) := by
  unfold State.dwellIdle
  split
  · exact .refl h s
  · exact .updHead ..

theorem State.abortClosed_local (b : Band) (cause : Cause) (detail : Option CauseDetail) (order : Retire)
    (atBoundary : Bool) : State.Local h s (s.abortClosed h b cause detail order atBoundary) :=
  ((closeBand_local s h ..).trans (endPending_local _ h ..)).trans (dwellIdle_local _ h)

theorem State.stopFetch_free (free : s.copyOf h = none) :
    s.stopFetch h = { s with fetch := { s.fetch with fills := s.fetch.fills.set h none } } := by
  have hcopy : ({ s with fetch := { s.fetch with fills := s.fetch.fills.set h none } } : State).copyOf h = none := free
  simp only [State.stopFetch, hcopy]

/-- The abort of a band whose head has no copy in flight. -/
theorem State.abortActive_local (free : s.copyOf h = none) (cause : Cause) (detail : Option CauseDetail) (order : Retire)
    (atBoundary : Bool) : State.Local h s (s.abortActive h cause detail order atBoundary) := by
  unfold State.abortActive
  split
  · exact .refl h s
  · rw [State.stopFetch_free (s.setActive h none) h free]
    exact ((Local.setActive s h none).trans (.clearFill _ h)).trans (abortClosed_local _ h ..)

/-! ### Orders and reports -/

theorem State.onEngaged_local : State.Local h s (s.onEngaged h) := by
  unfold State.onEngaged
  split
  · exact dwellIdle_local ..
  · split
    · exact .setActive ..
    · exact .refl h s

theorem State.engageOrder_local : State.Local h s (s.engageOrder h) := by
  unfold State.engageOrder
  dsimp only
  split
  · exact (Local.updHead s h _).trans (onEngaged_local _ h)
  · exact .updHead ..
  · exact .updHead ..

theorem State.onAtStart_local : State.Local h s (s.onAtStart h) := by
  unfold State.onAtStart
  split
  · exact .refl h s
  · split
    · exact (Local.setActive s h _).trans (engageOrder_local _ h)
    · exact .refl h s

theorem State.positionOrder_local : State.Local h s (s.positionOrder h) := by
  unfold State.positionOrder
  dsimp only
  split
  · exact .refl h s
  · split
    · split
      · exact (Local.updAxis s h _).trans (onAtStart_local _ h)
      · exact .updAxis ..
    · exact onAtStart_local ..
    · exact .refl h s

theorem State.onParked_local : State.Local h s (s.onParked h) := by
  unfold State.onParked
  split
  · split
    · exact positionOrder_local ..
    · exact .refl h s
  · exact .refl h s
  · exact .refl h s

theorem State.onReport_local (r : HeadReport) : State.Local h s (s.onReport h r) := by
  cases r
  · exact .refl h s
  · exact onEngaged_local ..
  · exact onParked_local ..

theorem State.retractOrder_local : State.Local h s (s.retractOrder h) :=
  (Local.updHead s h _).trans (onReport_local _ h _)

theorem State.immediateRetract_local : State.Local h s (s.immediateRetract h) :=
  (Local.updHead s h _).trans (onReport_local _ h _)

/-! ### Cells and feed -/

theorem State.deliverCells_local : State.Local h s (s.deliverCells h) := by
  unfold State.deliverCells
  dsimp only
  split
  · exact (Local.updHead s h _).trans (.updActive _ h _)
  · exact .refl h s

theorem State.present_local : State.Local h s (s.present h) :=
  (deliverCells_local s h).trans
    (.updAxis (s.deliverCells h) h fun a => a.takeCount ((s.deliverCells h).relCount h) (s.deliverCells h).clock)

end

/-! ### Events that are handed to every head -/

theorem State.Local.copyOf (w : State.Local g s t) (free : s.fetch.copy = none) (h : HeadId) : t.copyOf h = none := by
  rw [State.copyOf, w.copy, free]; rfl

theorem State.copyOf_free (free : s.fetch.copy = none) (h : HeadId) : s.copyOf h = none := by
  rw [State.copyOf, free]; rfl

theorem State.timingLoss_local (free : s.fetch.copy = none) (h : HeadId) (e : CylEvent) : State.Local h s (s.timingLoss h e) := by
  unfold State.timingLoss
  split
  · exact .refl h s
  · split
    · exact abortActive_local s h (copyOf_free free h) ..
    · exact abortActive_local s h (copyOf_free free h) ..
    · exact .setActive ..
    · exact .refl h s
    · exact .refl h s
    · exact .refl h s

theorem State.speedEvent_local (free : s.fetch.copy = none) (h : HeadId) : State.Local h s (s.speedEvent h) := by
  unfold State.speedEvent
  split
  · exact .refl h s
  · split
    · exact abortActive_local s h (copyOf_free free h) ..
    · exact abortActive_local s h (copyOf_free free h) ..
    · exact .refl h s
    · exact .refl h s
    · exact .refl h s
    · exact .refl h s

theorem State.readyLost_local (free : s.fetch.copy = none) (h : HeadId) : State.Local h s (s.readyLost h) := by
  have hparked := s.immediateRetract_local h
  have hlost := hparked.trans (.updAxis _ h fun a => a.lost .readyLost)
  exact hlost.trans (abortActive_local _ h (copyOf_free (hlost.copy.trans free) h) ..)

theorem State.alarmOn_local (free : s.fetch.copy = none) (slot : Nat) (fast : Bool) (h : HeadId) :
    State.Local h s (s.alarmOn slot fast h) := by
  have horder : State.Local h s (if fast then s.immediateRetract h else s.retractOrder h) := by
    cases fast
    · exact s.retractOrder_local h
    · exact s.immediateRetract_local h
  have hinhibit := horder.trans (.updHead _ h fun x => { x with inhibit := true })
  exact hinhibit.trans (abortActive_local _ h (copyOf_free (hinhibit.copy.trans free) h) ..)

/-! ### One head's turn -/

/-- Over all heads, in order: what holds until head h's turn, what its turn brings, and what the others keep. -/
theorem foldl_at {α β : Type} {P Q : β → Prop} {f : β → α → β} {h : α} {l : List α} (nodup : l.Nodup) (mem : h ∈ l)
    (other : ∀ u g, g ≠ h → P u → P (f u g)) (here : ∀ u, P u → Q (f u h)) (after : ∀ u g, g ≠ h → Q u → Q (f u g)) {x : β}
    (hx : P x) : Q (l.foldl f x) := by
  induction l generalizing x with
  | nil => simp at mem
  | cons k l ih =>
    obtain ⟨hk, hl⟩ := List.nodup_cons.mp nodup
    by_cases e : k = h
    · subst e
      exact List.foldlRecOn (motive := Q) l f (here x hx) fun u hu g hg => after u g (fun e => hk (e ▸ hg)) hu
    · exact ih hl ((List.mem_cons.mp mem).resolve_left (Ne.symm e)) (other x k e hx)

/-- The turn of a fitted head among all fitted heads. -/
theorem State.forFitted_at {P Q : State → Prop} {f : HeadId → State → State} {h : HeadId} (hs : P s)
    (fits : ∀ u, P u → u.fitted h = true) (other : ∀ g u, g ≠ h → P u → P (f g u)) (here : ∀ u, P u → Q (f h u))
    (after : ∀ g u, g ≠ h → Q u → Q (f g u)) : Q (s.forFitted f) := by
  refine foldl_at (P := P) (by decide) (mem_heads4 h) (fun u g ne hu => ?_) (fun u hu => ?_) (fun u g ne hu => ?_) hs
  · split
    · exact other g u ne hu
    · exact hu
  · rw [if_pos (fits u hu)]
    exact here u hu
  · split
    · exact after g u ne hu
    · exact hu

end Sys2Proof.Machine
end

section
/-! What the end of a band leaves of its head (section 8.9, R140 to R146): one result for every way in which it ends. -/

namespace Sys2Proof.Machine

variable {s t u : State} {h : HeadId} {b : Band} {q : BandSequencer} {x : Head} {a : Axis}

/-! ### The axis at the end of a band (R122) -/

theorem Axis.closeRevolution_eq (a : Axis) : a.closeRevolution = { a with
    position := a.position.map (· + a.stepsOwed), outputs := { a.outputs with pulses := a.outputs.pulses + a.stepsOwed } } := by
  unfold Axis.closeRevolution Axis.stepsOwed FeedContext.unissued
  cases hf : a.feed with
  | none =>
    cases a
    subst hf
    simp
  | some f => rfl

theorem Axis.endOrder_feed (a : Axis) (atBoundary : Bool) : (a.endOrder atBoundary).feed = none := by
  unfold Axis.endOrder
  dsimp only
  generalize (if atBoundary then a.closeRevolution else a) = c
  split <;> rfl

theorem Axis.homed_of_state {a c : Axis} (e : c.state = a.state) : c.homed = a.homed := by
  unfold Axis.homed; rw [e]

theorem Axis.closeRevolution_state (a : Axis) : a.closeRevolution.state = a.state := by rw [Axis.closeRevolution_eq]

/-- A homed axis is IDLE after the end order, at a boundary with its helical revolution closed. -/
theorem Axis.endOrder_homed (homed : a.homed = true) (atBoundary : Bool) : a.endOrder atBoundary = { a with
    state := .idle, target := none, move := none, feed := none
    position := a.position.map fun p => p + if atBoundary then a.stepsOwed else 0
    outputs := { a.outputs with pulses := a.outputs.pulses + if atBoundary then a.stepsOwed else 0 } } := by
  have hsame : a.position.map (fun p => p + 0) = a.position := by cases a.position <;> rfl
  cases atBoundary
  · simp [Axis.endOrder, homed]
  · have hhomed : a.closeRevolution.homed = true := (Axis.homed_of_state a.closeRevolution_state).trans homed
    have hend : a.endOrder true = { a.closeRevolution with state := .idle, target := none, move := none, feed := none } :=
      if_pos hhomed
    rw [hend, Axis.closeRevolution_eq]
    rfl

theorem Axis.endOrder_unhomed (unhomed : a.homed = false) : a.endOrder false = { a with feed := none } := by
  simp [Axis.endOrder, unhomed]

theorem Axis.endOrder_reported (a : Axis) : (a.endOrder false).reported = a.reported := by
  cases hh : a.homed with
  | true =>
    have hrep : a.reported = a.position := by
      unfold Axis.homed at hh
      unfold Axis.reported
      split at hh <;> simp_all
    rw [Axis.endOrder_homed hh, hrep]
    simp [Axis.reported]
  | false => rw [Axis.endOrder_unhomed hh]; rfl

theorem Axis.endOrder_reported_unhomed (unhomed : a.state = .unhomed) (atBoundary : Bool) :
    (a.endOrder atBoundary).reported = a.reported := by
  cases atBoundary
  · exact a.endOrder_reported
  · have hhomed : a.closeRevolution.homed = false := by
      rw [Axis.homed_of_state a.closeRevolution_state, Axis.homed, unhomed]
    have hend : a.endOrder true = { a.closeRevolution with feed := none } := if_neg (by simp [hhomed])
    rw [hend, Axis.closeRevolution_eq]
    simp [Axis.reported, unhomed]

/-! ### The head at the end of a band -/

/-- A retracted head is PARKED or RETRACTING (R91). -/
theorem Head.retract_state (x : Head) (now : Nat) : (x.retract now).1.state = .parked ∨ (x.retract now).1.state = .retracting := by
  have start : ∀ y : Head, (y.startRamp .retracting 0 now).1.state = .parked ∨ (y.startRamp .retracting 0 now).1.state = .retracting := by
    intro y
    unfold Head.startRamp
    dsimp only
    split
    · exact .inl rfl
    · exact .inr rfl
  unfold Head.retract
  cases hs : x.state
  · exact .inl hs
  · exact start _
  · exact start _
  · exact start _
  · exact start _
  · exact .inr hs

theorem Head.immediate_state (x : Head) : x.immediate.1.state = .parked := by
  unfold Head.immediate
  cases hs : x.state
  · exact hs
  all_goals rfl

/-- An aborted band's head does not dwell: it is PARKED or RETRACTING. -/
theorem Head.retire_state {order : Retire} (aborts : order ≠ .release) (x : Head) (now : Nat) :
    (x.retire order now).state = .parked ∨ (x.retire order now).state = .retracting := by
  cases order
  · exact absurd rfl aborts
  · exact x.retract_state now
  · exact .inl x.immediate_state

theorem Head.dwell_of_away (away : x.state = .parked ∨ x.state = .retracting) (now : Nat) : (x.dwell now).1 = x := by
  unfold Head.dwell
  obtain e | e := away <;> rw [e]

/-! ### The end of one head's band -/

/-- From `s` to `t` head h has lost its band: its Band Sequencer, head and axis as given, its buffers EMPTY, its queue kept,
the head FED, and BAND_END posted; its other entries and the rest of the board are kept. -/
structure State.Ends (s t : State) (h : HeadId) (q : BandSequencer) (x : Head) (a : Axis) : Prop where
  board : s.SameBoard t
  bands : t.bands.get h = q
  head : t.heads.get h = x
  axis : t.axes.get h = a
  buffers : s.emptiesBuffers t h
  queue : t.store.queues.get h = s.store.queues.get h
  fed : t.store.starved.get h = false
  posted : t.endPosted h
  entries : ∀ id : NoticeId, id.head? = some h → id ≠ .bandEnd h → t.link.entry id = s.link.entry id

theorem State.record_eq (s : State) (h : HeadId) (b : Band) (cls : ResultClass) (cause : Cause) (detail : Option CauseDetail)
    (position : Option Nat) :
    s.record h b cls cause detail position = b.recorded h cls cause detail s.ctu.revs s.timestamp position := rfl

/-- The newest record and its BAND_END entry (R145, R146). -/
theorem State.file_posted (s : State) (h : HeadId) (r : ResultRecord) : (s.file h r).endPosted h := by
  refine ⟨r, by simp [State.file, State.post], ?_⟩
  simp [State.file, State.post, Link.entry_post]

theorem State.file_entries (s : State) (h : HeadId) (r : ResultRecord) {id : NoticeId} (ne : id ≠ .bandEnd h) :
    (s.file h r).link.entry id = s.link.entry id :=
  Link.entry_post_ne _ _ ne

/-- The end of a band that has left its place (R140). -/
theorem State.closeBand_ends (idle : s.active h = none) (b : Band) (cls : ResultClass) (cause : Cause)
    (detail : Option CauseDetail) (order : Retire) (atBoundary : Bool) :
    s.Ends (s.closeBand h b cls cause detail order atBoundary) h
      { s.bands.get h with results := (s.bands.get h).results ++ [b.recorded h cls cause detail s.ctu.revs s.timestamp
        ((s.axes.get h).endOrder atBoundary).reported] }
      ((s.heads.get h).retire order s.clock) ((s.axes.get h).endOrder atBoundary) := by
  have hclose : s.closeBand h b cls cause detail order atBoundary =
      ((((s.updBuffers h LineBuffers.emptied).setStarved h false).updHead h fun x => x.retire order s.clock).updAxis h
        fun a => a.endOrder atBoundary).file h
        (b.recorded h cls cause detail s.ctu.revs s.timestamp ((s.axes.get h).endOrder atBoundary).reported) := by
    rw [State.closeBand, State.evalStarvation_idle (s := s.updBuffers h LineBuffers.emptied) idle]
    simp only [State.updAxis_get_same]
    rfl
  have hboard := (s.closeBand_moves h b cls cause detail order atBoundary).board
  rw [hclose] at hboard ⊢
  refine ⟨hboard, ?_, ?_, ?_, ?_, rfl, ?_, State.file_posted .., fun id _ ne => State.file_entries _ _ _ ne⟩
  · rw [State.file_bands]; simp
  · simp [State.file, State.post]
  · simp [State.file, State.post]
  · simp [State.emptiesBuffers, State.file, State.post, LineBuffers.emptied]
  · simp [State.file, State.post, State.setStarved]

/-- The pending band behind it ends too (R141, R142). -/
theorem State.Ends.endPending (e : s.Ends t h q x a) (cls : ResultClass) (cause : Cause) :
    s.Ends (t.endPending h cls cause) h ⟨q.active, none, q.results ++
      q.waiting.toList.map fun p => p.recorded h cls cause none s.ctu.revs s.timestamp none⟩ x a := by
  have hboard := e.board.trans (t.endPending_works h cls cause).moves.board
  unfold State.endPending at hboard ⊢
  cases hw : (t.bands.get h).waiting with
  | none =>
    have hq : q.waiting = none := e.bands ▸ hw
    refine { e with bands := e.bands.trans ?_ }
    obtain ⟨active, waiting, results⟩ := q
    subst hq
    simp
  | some p =>
    rw [hw] at hboard
    have hq : q.waiting = some p := e.bands ▸ hw
    refine ⟨hboard, ?_, e.head, e.axis, e.buffers, e.queue, e.fed, State.file_posted .., fun id hid ne =>
      (State.file_entries _ _ _ ne).trans (e.entries id hid ne)⟩
    have hrecord : ∀ f, (t.updBands h f).record h p cls cause none none =
        p.recorded h cls cause none s.ctu.revs s.timestamp none := fun f => by
      rw [State.record_eq, State.updBands_ctu, e.board.ctu]
      exact congrArg (p.recorded h cls cause none s.ctu.revs · none) e.board.timestamp
    simp only [State.fileNeverActive, State.file_bands, hrecord]
    simp [e.bands, hq]

/-- A head with no band dwells (R95). -/
theorem State.Ends.dwellIdle (e : s.Ends t h q x a) (idle : q.active = none) :
    s.Ends (t.dwellIdle h) h q (x.dwell s.clock).1 a := by
  have hactive : t.active h = none := (congrArg BandSequencer.active e.bands).trans idle
  have hdwell : t.dwellIdle h = t.updHead h fun x => (x.dwell t.clock).1 := by rw [State.dwellIdle, hactive]
  have hboard := e.board.trans (t.dwellIdle_works h).moves.board
  rw [hdwell] at hboard ⊢
  exact ⟨hboard, e.bands, by rw [State.updHead_get_same, e.head, e.board.clock], e.axis, e.buffers, e.queue, e.fed, e.posted,
    e.entries⟩

/-! ### The stop of a copy or fill (R79, R84) -/

/-- Stopping the fetch of a head with no band leaves the head as it is but for its fill. -/
theorem State.stopFetch_sameAt (idle : s.active h = none) :
    State.SameAt { s with fetch := { s.fetch with fills := s.fetch.fills.set h none } } (s.stopFetch h) h := by
  unfold State.stopFetch
  dsimp only
  split
  · exact .refl _ h
  · next c _ =>
    have hgiven := State.arbitrate_sameAt (g := h) (s := { s with
      store := s.store.giveBack c.pages, fetch := ⟨none, s.fetch.fills.set h none⟩ }) idle
    refine State.SameAt.trans ?_ hgiven
    exact ⟨rfl, rfl, rfl, rfl, rfl, rfl, rfl, fun _ _ => rfl⟩

theorem State.withDiscard_eq (s : State) (h : HeadId) (b : Band) : s.withDiscard h b = s.discarding h b := by
  have hcopy : (s.copyOf h).isSome = s.fetch.copy.any fun c => c.head = h := by
    unfold State.copyOf
    cases s.fetch.copy with
    | none => rfl
    | some c => by_cases e : c.head = h <;> simp [Option.filter, e]
  simp only [State.withDiscard, State.discarding, hcopy]
  rfl

/-- From `s` to `u` head h's band has left its place, and its fetch has been stopped (action 1 of R140). -/
theorem State.stopFetch_board (s : State) (h : HeadId) : s.SameBoard ((s.setActive h none).stopFetch h) :=
  State.SameBoard.trans (t := s.setActive h none) ⟨rfl, rfl, rfl, rfl, rfl, rfl, rfl, rfl, rfl, rfl, fun _ _ => rfl⟩
    ((s.setActive h none).stopFetch_works h).moves.board

/-- The later actions of a band's end, after its fetch has been stopped. -/
theorem State.Ends.afterStop (e : ((s.setActive h none).stopFetch h).Ends t h q x a) : s.Ends t h q x a := by
  have hsame := State.stopFetch_sameAt (s.setActive_active h none)
  refine ⟨(s.stopFetch_board h).trans e.board, e.bands, e.head, e.axis, ?_, e.queue.trans hsame.queue, e.fed, e.posted,
    fun id hid ne => (e.entries id hid ne).trans (hsame.entries id hid)⟩
  have hbuffers := e.buffers
  rw [State.emptiesBuffers, hsame.buffers] at hbuffers
  exact hbuffers

/-- The end of an active band up to its record (R140). -/
theorem State.closeActive_ends (s : State) (h : HeadId) (b : Band) (cls : ResultClass) (cause : Cause)
    (detail : Option CauseDetail) (order : Retire) (atBoundary : Bool) :
    s.Ends (((s.setActive h none).stopFetch h).closeBand h (s.discarding h b) cls cause detail order atBoundary) h
      ⟨none, (s.bands.get h).waiting, (s.bands.get h).results ++ [(s.discarding h b).recorded h cls cause detail s.ctu.revs
        s.timestamp ((s.axes.get h).endOrder atBoundary).reported]⟩
      ((s.heads.get h).retire order s.clock) ((s.axes.get h).endOrder atBoundary) := by
  have hsame := State.stopFetch_sameAt (s.setActive_active h none)
  have hboard := s.stopFetch_board h
  have hidle : ((s.setActive h none).stopFetch h).active h = none := hsame.active.trans (s.setActive_active h none)
  have e := State.closeBand_ends hidle (s.discarding h b) cls cause detail order atBoundary
  rw [State.stopFetch_setActive, hsame.head, hsame.axis, hboard.ctu, hboard.timestamp, hboard.clock] at e
  exact e.afterStop

/-- An ABORTED end of the active band of head h, with the pending band behind it (R139, R140, R142). -/
theorem State.abortActive_ends (hb : s.active h = some b) (cause : Cause) (detail : Option CauseDetail) {order : Retire}
    (aborts : order ≠ .release) (atBoundary : Bool) :
    s.Ends (s.abortActive h cause detail order atBoundary) h
      ⟨none, none, (s.bands.get h).results ++ (s.discarding h b).recorded h .aborted cause detail s.ctu.revs s.timestamp
        ((s.axes.get h).endOrder atBoundary).reported ::
        (s.bands.get h).waiting.toList.map fun p => p.recorded h .aborted .precedingAbort none s.ctu.revs s.timestamp none⟩
      ((s.heads.get h).retire order s.clock) ((s.axes.get h).endOrder atBoundary) := by
  have hclosed := ((s.closeActive_ends h b .aborted cause detail order atBoundary).endPending .aborted .precedingAbort).dwellIdle
    rfl
  rw [Head.dwell_of_away (Head.retire_state aborts _ _), List.append_assoc] at hclosed
  rw [State.abortActive, hb]
  simp only [State.withDiscard_eq]
  exact hclosed

/-- A COMPLETE or ENDED end of the active band with no band pending (R140, R142). -/
theorem State.finishActive_ends (hb : s.active h = some b) (alone : (s.bands.get h).waiting = none) (cls : ResultClass)
    (cause : Cause) (atBoundary : Bool) :
    s.Ends (s.finishActive h cls cause atBoundary) h
      ⟨none, none, (s.bands.get h).results ++ [(s.discarding h b).recorded h cls cause none s.ctu.revs s.timestamp
        ((s.axes.get h).endOrder atBoundary).reported]⟩
      ((s.heads.get h).uncut.dwell s.clock).1 ((s.axes.get h).endOrder atBoundary) := by
  have hclosed := s.closeActive_ends h b cls cause none .release atBoundary
  rw [alone] at hclosed
  have hwait := congrArg BandSequencer.waiting hclosed.bands
  rw [State.finishActive, hb]
  simp only [State.withDiscard_eq, State.handOn, hwait]
  exact hclosed.dwellIdle rfl

/-! ### The two ways in which a statement says it -/

theorem State.Ends.aborts {cause : Cause} {detail : Option CauseDetail} {rev now : Nat} (hrev : rev = s.ctu.revs)
    (hnow : now = s.clock)
    (e : s.Ends t h ⟨none, none, (s.bands.get h).results ++ (s.discarding h b).recorded h .aborted cause detail s.ctu.revs
        s.timestamp ((s.axes.get h).endOrder false).reported ::
        (s.bands.get h).waiting.toList.map fun p => p.recorded h .aborted .precedingAbort none s.ctu.revs s.timestamp none⟩
      ((s.heads.get h).retire .retract s.clock) ((s.axes.get h).endOrder false)) : s.abortsBand t h b cause detail rev now := by
  subst hrev hnow
  refine ⟨?_, e.posted, ?_, fun homed => ?_, e.buffers⟩
  · rw [e.bands, Axis.endOrder_reported]; rfl
  · rw [e.head]; exact Head.retract_retracts ..
  · rw [e.axis, Axis.endOrder_homed homed]

/-- An end with one record and no band behind it. -/
theorem State.Ends.ends {c : Band} {cls : ResultClass} {cause : Cause} {atBoundary : Bool}
    (e : s.Ends t h ⟨none, none, (s.bands.get h).results ++ [c.recorded h cls cause none s.ctu.revs s.timestamp
      ((s.axes.get h).endOrder atBoundary).reported]⟩ x ((s.axes.get h).endOrder atBoundary))
    (hx : if cls = .aborted then (s.heads.get h).retracts x s.clock else (s.heads.get h).releases x s.clock) :
    s.endsBand t h c cls cause atBoundary := by
  refine ⟨congrArg BandSequencer.active e.bands, by rwa [e.head], fun homed => ?_, ?_, e.buffers, e.posted, _,
    congrArg BandSequencer.results e.bands, fun homed => ?_, fun plain => ?_⟩
  · rw [e.axis, Axis.endOrder_homed homed]
  · rw [e.axis, Axis.endOrder_feed]
  · rw [Axis.endOrder_homed homed]; rfl
  · obtain unhomed | rfl := plain
    · exact Axis.endOrder_reported_unhomed unhomed _
    · exact Axis.endOrder_reported _

end Sys2Proof.Machine
end

section
/-! A limit switch that becomes active (R114). -/

namespace Sys2Proof.Machine

variable {s : State} {k : HeadId}

/-- What the limit fault leaves of its axis (R105, R114). -/
theorem Axis.lost_reported (a : Axis) (f : AxisFault) : (a.lost f).reported = a.known := rfl

theorem Axis.lost_endOrder (a : Axis) (f : AxisFault) : (a.lost f).endOrder false = a.lost f :=
  Axis.endOrder_unhomed rfl

theorem Axis.watched_known {a : Axis} (watched : a.watched = true) :
    a.known = if a.state = .homing then a.lastKnown else a.position := by
  unfold Axis.watched at watched
  unfold Axis.known Axis.homed
  split at watched <;> simp_all

theorem State.limitCheck_off (off : s.onLimit k = false) : s.limitCheck k = s := by
  simp [State.limitCheck, off]

/-- The switch of an axis that is not under a band (R114). -/
theorem State.limitCheck_still (on : s.onLimit k = true) (still : (s.axes.get k).state ≠ .feeding) :
    s.limitCheck k = s.limitStop k := by
  rw [State.limitCheck, if_pos on, State.limitFault, if_neg still]

/-- The switch of a FEEDING axis, with the band that it ends. -/
theorem State.limitCheck_feeding (on : s.onLimit k = true) (feeding : (s.axes.get k).state = .feeding) :
    s.limitCheck k = (s.limitStop k).abortActive k .axisFault none .retract false := by
  rw [State.limitCheck, if_pos on, State.limitFault, if_pos feeding]

end Sys2Proof.Machine

open Sys2Proof Sys2Proof.Machine

/-- Settles O53: outside FEEDING the switch stops the axis alone; in FEEDING the axis is stopped first, and then its band
ends with the position that the axis has lost. -/
theorem limitSwitchUnhomes : Obligations.LimitSwitchUnhomes := by
  intro k level a known s ha hknown
  subst ha
  obtain ⟨u, hu⟩ : ∃ u : State, u = { s with pins := { s.pins with limitSwitch := s.pins.limitSwitch.set k level } } := ⟨_, rfl⟩
  have hexec : exec (.limitSwitchActive k level) s = .next (u.limitCheck k).settled := by rw [hu]; rfl
  have hon : u.onLimit k = (level && (s.axes.get k).watched) := by subst hu; simp [State.onLimit]
  have hlost : (s.axes.get k).watched = true → (s.axes.get k).lost .limitSwitch = { s.axes.get k with
      state := .unhomed, position := none, lastKnown := known, target := none, move := none
      homeSteps := none, lastFault := .limitSwitch, feed := none } := fun watched => by
    rw [Axis.lost, Axis.watched_known watched, hknown]
  refine ⟨fun off => ?_, fun on moving => ?_, fun b on feeding hb => ?_⟩
  · have hoff : u.onLimit k = false := by
      rw [hon]
      obtain e | e | e := off <;> simp [Axis.watched, e]
    rw [hexec, State.limitCheck_off hoff, hu]
    rfl
  · have watched : (s.axes.get k).watched = true := by obtain e | e := moving <;> simp [Axis.watched, e]
    have still : (u.axes.get k).state ≠ .feeding := by
      subst hu
      obtain e | e := moving <;> simp [e]
    subst on
    rw [hexec, State.limitCheck_still (by rw [hon, watched]; rfl) still, State.limitStop_eq, ← hlost watched]
    have hk : (s.axes.get k).known = known := (Axis.watched_known watched).trans hknown.symm
    subst hu
    rw [← hk]
    rfl
  · have watched : (s.axes.get k).watched = true := by simp [Axis.watched, feeding]
    have hk : (s.axes.get k).known = known := (Axis.watched_known watched).trans hknown.symm
    subst on
    rw [hexec, State.limitCheck_feeding (by rw [hon, watched]; rfl) (by subst hu; exact feeding)]
    have haxis : (u.limitStop k).axes.get k = (s.axes.get k).lost .limitSwitch := by
      rw [State.limitStop_eq, hu]; simp
    have hbands : (u.limitStop k).bands = s.bands := by rw [State.limitStop_eq, hu]
    have hbuffers : (u.limitStop k).buffers = s.buffers := by rw [State.limitStop_eq, hu]
    have e := State.abortActive_ends (s := u.limitStop k) (h := k) (b := b)
      ((congrArg (fun q => (Quad.get q k).active) hbands).trans hb) .axisFault none (order := .retract) (by decide) false
    have hentry : ((u.limitStop k).link.entry (.axis k)).content =
        some (.axis .limitSwitch .unhomed .limitSwitch known s.timestamp) := by
      rw [State.limitStop_eq, hu, ← hk]
      exact Link.post_content ..
    generalize (u.limitStop k) = v at *
    refine ⟨_, rfl, ?_, ?_, ?_, ?_, ?_, ?_, ?_⟩
    · rw [State.settled_axes, e.axis, haxis, Axis.lost_endOrder, hlost watched]
    · rw [State.settled_content, e.entries (.axis k) rfl (by simp), hentry]
    · rw [State.settled_bands, e.bands]
    · rw [State.settled_bands, e.bands]
    · obtain ⟨r, hr, hc⟩ := e.posted
      exact ⟨r, hr, (State.settled_content _ _).trans hc⟩
    · have hb := e.buffers
      rw [State.emptiesBuffers, hbuffers] at hb
      exact hb
    · rw [State.settled_bands, e.bands, haxis, hbands, Axis.lost_endOrder, Axis.lost_reported, hk]
      have hd : (v.discarding k b).tag = b.tag := by unfold State.discarding; split <;> rfl
      simp only [List.map_append, List.map_cons, List.map_map, Band.recorded, hd]
      rfl
end

section
/-! Events that are handed to every fitted head in turn, and what each of them brings to one head (R8, R10, R13). -/

namespace Sys2Proof.Machine

variable {s t u v w : State} {h : HeadId} {b : Band} {cause : Cause} {detail : Option CauseDetail}

/-! ### One head's turn in an event for all -/

/-- An event that reaches each head alone finds it as it stood before, and leaves it as its turn leaves it. -/
theorem State.forFitted_turn {f : HeadId → State → State} (works : ∀ g (u : State), u.SameBoard (f g u))
    (one : ∀ g (u : State), u.fetch.copy = s.fetch.copy → State.Local g u (f g u)) (fit : s.fitted h = true) :
    ∃ u, s.SameAt u h ∧ s.SameBoard u ∧ u.fetch.copy = s.fetch.copy ∧ (f h u).SameAt (s.forFitted f) h := by
  have key := State.forFitted_at (s := s) (f := f) (h := h)
    (P := fun u => s.SameAt u h ∧ s.SameBoard u ∧ u.fetch.copy = s.fetch.copy)
    (Q := fun t => ∃ u, (s.SameAt u h ∧ s.SameBoard u ∧ u.fetch.copy = s.fetch.copy) ∧ (f h u).SameAt t h ∧
      t.fetch.copy = s.fetch.copy)
    ⟨.refl s h, .refl s, rfl⟩
    (fun u hu => by rw [State.fitted, hu.2.1.ctu]; exact fit)
    (fun g u ne hu => ⟨hu.1.trans ((one g u hu.2.2).others h (Ne.symm ne)), hu.2.1.trans (works g u),
      (one g u hu.2.2).copy.trans hu.2.2⟩)
    (fun u hu => ⟨u, hu, .refl _ h, (one h u hu.2.2).copy.trans hu.2.2⟩)
    (fun g t ne ⟨u, hu, hsame, hfree⟩ =>
      ⟨u, hu, hsame.trans ((one g t hfree).others h (Ne.symm ne)), (one g t hfree).copy.trans hfree⟩)
  obtain ⟨u, ⟨hsame, hboard, hfree⟩, hlast, -⟩ := key
  exact ⟨u, hsame, hboard, hfree, hlast⟩

/-- A head for which an event does nothing is left as it is. -/
theorem State.forFitted_passes {f : HeadId → State → State}
    (one : ∀ g (u : State), u.fetch.copy = none → State.Local g u (f g u)) (free : s.fetch.copy = none)
    (still : ∀ u, s.SameAt u h → f h u = u) : s.SameAt (s.forFitted f) h := by
  have key := State.forFitted_keeps (s := s) (f := f) (P := fun u => s.SameAt u h ∧ u.fetch.copy = none) ⟨.refl s h, free⟩
    fun g u ⟨hsame, hfree⟩ => by
      by_cases e : h = g
      · subst e
        rw [still u hsame]
        exact ⟨hsame, hfree⟩
      · exact ⟨hsame.trans ((one g u hfree).others h e), (one g u hfree).copy.trans hfree⟩
  exact key.1

theorem State.forFitted_free {f : HeadId → State → State}
    (one : ∀ g (u : State), u.fetch.copy = none → State.Local g u (f g u)) (free : s.fetch.copy = none) :
    (s.forFitted f).fetch.copy = none :=
  State.forFitted_keeps (P := fun u => u.fetch.copy = none) free fun g u hu => (one g u hu).copy.trans hu

/-! ### The presentation of the angle -/

theorem State.presentAll_still (free : s.fetch.copy = none) (notCutting : (s.heads.get h).state ≠ .cutting)
    (notFeeding : (s.axes.get h).state ≠ .feeding) : s.SameAt s.presentAll h :=
  State.forFitted_passes (fun g u _ => u.present_local g) free fun u hu =>
    State.present_idle (by rw [hu.head]; exact notCutting) (by rw [hu.axis]; exact notFeeding)

/-- A head that is not CUTTING delivers no cell, and its bands stay. -/
theorem State.presentAll_bandsAt (notCutting : (s.heads.get h).state ≠ .cutting) :
    s.presentAll.bands.get h = s.bands.get h := by
  have key : s.presentAll.bands.get h = s.bands.get h ∧ s.presentAll.heads.get h = s.heads.get h := by
    refine State.forFitted_keeps (P := fun u => u.bands.get h = s.bands.get h ∧ u.heads.get h = s.heads.get h) ⟨rfl, rfl⟩
      fun g u ⟨hb, hh⟩ => ?_
    by_cases e : h = g
    · subst e
      rw [State.present, State.deliverCells_of_not_cutting (by rw [hh]; exact notCutting)]
      exact ⟨hb, hh⟩
    · have hsame := (u.present_local g).others h e
      exact ⟨hsame.bands.trans hb, hsame.head.trans hh⟩
  exact key.1

/-! ### Statements of one head's end, seen from states that are the same at the head -/

theorem State.SameAt.endPosted (e : t.SameAt v h) (p : t.endPosted h) : v.endPosted h := by
  unfold State.endPosted
  rw [e.bands, e.entries _ rfl]
  exact p

theorem State.SameAt.discarding (e : s.SameAt u h) (free : s.fetch.copy = none) (freed : u.fetch.copy = none) (b : Band) :
    u.discarding h b = s.discarding h b := by
  simp only [State.discarding, free, freed, e.fill]

theorem State.SameAt.abortsBand (e : s.SameAt u h) (free : s.fetch.copy = none) (freed : u.fetch.copy = none)
    (after : t.SameAt v h) {cause : Cause} {detail : Option CauseDetail} {rev now : Nat}
    (p : u.abortsBand t h b cause detail rev now) : s.abortsBand v h b cause detail rev now := by
  obtain ⟨hbands, hposted, hhead, haxis, hbuffers⟩ := p
  rw [e.bands, e.discarding free freed, e.axis] at hbands
  rw [e.head] at hhead
  rw [e.axis] at haxis
  rw [State.emptiesBuffers, e.buffers] at hbuffers
  refine ⟨after.bands.trans hbands, after.endPosted hposted, by rwa [after.head], by rwa [after.axis],
    after.buffers.trans hbuffers⟩

theorem State.endPosted_settled (p : t.endPosted h) : t.settled.endPosted h := by
  obtain ⟨r, hr, hc⟩ := p
  exact ⟨r, hr, (t.settled_content _).trans hc⟩

theorem State.abortsBand_settled {cause : Cause} {detail : Option CauseDetail} {rev now : Nat}
    (p : s.abortsBand t h b cause detail rev now) : s.abortsBand t.settled h b cause detail rev now := by
  obtain ⟨hbands, hposted, hhead, haxis, hbuffers⟩ := p
  exact ⟨hbands, State.endPosted_settled hposted, hhead, haxis, hbuffers⟩

/-- An axis whose band has ended is not FEEDING. -/
theorem Axis.endOrder_not_feeding (a : Axis) : (a.endOrder false).state ≠ .feeding := by
  cases hh : a.homed with
  | true => simp [Axis.endOrder_homed hh]
  | false =>
    rw [Axis.endOrder_unhomed hh]
    rintro (e : a.state = .feeding)
    simp [Axis.homed, e] at hh

/-! ### One head's turn in a timing loss and a SPEED event -/

/-- An ABORTED end within a revolution, as the statements say it, and that the angle passes its head by. -/
theorem State.abortActive_passes (hb : s.active h = some b) (cause : Cause) (detail : Option CauseDetail) :
    s.abortsBand (s.abortActive h cause detail .retract false) h b cause detail s.ctu.revs s.clock ∧
      ((s.abortActive h cause detail .retract false).heads.get h).state ≠ .cutting ∧
      ((s.abortActive h cause detail .retract false).axes.get h).state ≠ .feeding := by
  have e := State.abortActive_ends hb cause detail (order := .retract) (by decide) false
  refine ⟨e.aborts rfl rfl, ?_, ?_⟩
  · rw [e.head]
    obtain hs | hs := Head.retire_state (order := .retract) (by decide) (s.heads.get h) s.clock <;> simp [hs]
  · rw [e.axis]
    exact Axis.endOrder_not_feeding _

/-- A band that a timing loss or a SPEED event ends. -/
theorem State.timingLoss_cutting (hb : s.active h = some b) (hp : b.phase = .cutting ∨ b.phase = .suspended) (e : CylEvent) :
    s.timingLoss h e = s.abortActive h .timingFault (some (.timing e)) .retract false := by
  obtain hp | hp := hp <;> simp only [State.timingLoss, hb, hp]

theorem State.timingLoss_waiting (hb : s.active h = some b) (hp : b.phase = .waitSync) (e : CylEvent) :
    s.timingLoss h e = s.setActive h (some { b with waitCount := 0 }) := by
  simp only [State.timingLoss, hb, hp]

theorem State.timingLoss_before (hb : s.active h = some b) (hp : b.phase = .positioning ∨ b.phase = .engaging) (e : CylEvent) :
    s.timingLoss h e = s := by
  obtain hp | hp := hp <;> simp only [State.timingLoss, hb, hp]

theorem State.speedEvent_cutting (hb : s.active h = some b) (hp : b.phase = .cutting ∨ b.phase = .suspended) :
    s.speedEvent h = s.abortActive h .speedFault none .retract false := by
  obtain hp | hp := hp <;> simp only [State.speedEvent, hb, hp]

theorem State.speedEvent_before (hb : s.active h = some b)
    (hp : b.phase = .waitSync ∨ b.phase = .positioning ∨ b.phase = .engaging) : s.speedEvent h = s := by
  obtain hp | hp | hp := hp <;> simp only [State.speedEvent, hb, hp]

/-! ### Timing losses as they are handed out -/

/-- What comes after an event leaves a head that is not CUTTING its bands, and, with an axis that is not FEEDING, all it
has. -/
structure State.PassesIdle (t v : State) (h : HeadId) : Prop where
  bands : (t.heads.get h).state ≠ .cutting → v.bands.get h = t.bands.get h
  all : (t.heads.get h).state ≠ .cutting → (t.axes.get h).state ≠ .feeding → t.SameAt v h

theorem State.PassesIdle.refl (t : State) (h : HeadId) : t.PassesIdle t h := ⟨fun _ => rfl, fun _ _ => .refl t h⟩

theorem State.presentAll_passes (free : t.fetch.copy = none) (h : HeadId) : t.PassesIdle t.presentAll h :=
  ⟨State.presentAll_bandsAt, State.presentAll_still free⟩

/-- The states of one head before and after its turn, as the event's own state changes stand around them. -/
structure State.Turn (s v : State) (h : HeadId) (u w : State) : Prop where
  before : s.SameAt u h
  clock : u.clock = s.clock
  free : u.fetch.copy = none
  after : w.PassesIdle v h

theorem State.Turn.aborts (r : s.Turn v h u (u.abortActive h cause detail .retract false)) (free : s.fetch.copy = none)
    (hb : s.active h = some b) : s.abortsBand v h b cause detail u.ctu.revs s.clock := by
  obtain ⟨hend, hcut, hfeed⟩ := State.abortActive_passes (s := u) (b := b) (r.before.active.trans hb) cause detail
  rw [r.clock] at hend
  exact r.before.abortsBand free r.free (r.after.all hcut hfeed) hend

theorem State.Turn.bands (r : s.Turn v h u w) (hw : w.heads.get h = u.heads.get h) (still : (s.heads.get h).state ≠ .cutting) :
    v.bands.get h = w.bands.get h :=
  r.after.bands (by rw [hw, r.before.head]; exact still)

/-- A timing fault that leaves SYNCED, with whatever comes after it (R8, R139). -/
theorem State.timingFault_loses (synced : s.ctu.timing = .synced) (free : s.fetch.copy = none) {e : CylEvent} {c : Ctu}
    (acting : c.acting = s.ctu.acting) (revs : c.revs = s.ctu.revs)
    (later : ∀ h, (s.timingFault e c).PassesIdle v h) : s.timingLost v e s.clock := by
  intro h b fit hb
  obtain ⟨p, hp⟩ : ∃ p, p = ({ s with ctu := c } : State).postCylinder e := ⟨_, rfl⟩
  have hfault : s.timingFault e c = p.forFitted fun h u => u.timingLoss h e := by rw [hp]; exact if_pos synced
  have hposted : s.SameAt p h := by
    rw [hp]
    exact ⟨rfl, rfl, rfl, rfl, rfl, rfl, rfl, fun id hid => Link.entry_post_ne _ _ fun e => by subst e; cases hid⟩
  have hpfit : p.fitted h = true := by
    rw [hp]
    exact (congrArg (fun a : Acting => decide (h.val < a.fitted)) acting).trans fit
  have hpfree : p.fetch.copy = none := hp ▸ free
  obtain ⟨u, hsame, hboard, hcopy, hlast⟩ := State.forFitted_turn (s := p) (f := fun h u => u.timingLoss h e) (h := h)
    (fun g u => (u.timingLoss_works g e).moves.board) (fun g u hu => State.timingLoss_local (hu.trans hpfree) g e) hpfit
  have r : s.Turn v h u (u.timingLoss h e) := by
    have hlater := later h
    rw [hfault] at hlater
    refine ⟨hposted.trans hsame, hboard.clock.trans (hp ▸ rfl), hcopy.trans hpfree, ?_, fun hc hf => ?_⟩
    · exact fun hc => (hlater.bands (by rwa [hlast.head])).trans hlast.bands
    · exact hlast.trans (hlater.all (by rwa [hlast.head]) (by rwa [hlast.axis]))
  have hrevs : u.ctu.revs = s.ctu.revs := (congrArg Ctu.revs (hboard.ctu.trans (hp ▸ rfl : p.ctu = c))).trans revs
  have hub : u.active h = some b := r.before.active.trans hb
  refine ⟨fun hphase => ?_, fun hphase still => ?_, fun hphase still => ?_⟩
  · rw [State.timingLoss_cutting hub hphase] at r
    exact hrevs ▸ r.aborts free hb
  · rw [State.timingLoss_waiting hub hphase] at r
    rw [r.bands rfl still]
    exact State.setActive_active ..
  · rw [State.timingLoss_before hub hphase] at r
    exact (r.bands rfl still).trans r.before.bands

theorem State.timingLost_settled {e : CylEvent} {now : Nat} (p : s.timingLost t e now) : s.timingLost t.settled e now :=
  fun h b fit hb =>
    have ⟨hcut, hwait, hbefore⟩ := p h b fit hb
    ⟨fun hp => State.abortsBand_settled (hcut hp), hwait, hbefore⟩

end Sys2Proof.Machine
end

section
/-! Timing losses and SPEED events as each command brings them (sections 1.2 to 1.5). -/

namespace Sys2Proof.Machine

variable {s t u v : State} {h : HeadId} {b : Band} {e : CylEvent} {c : Ctu}

theorem State.timingFault_free (free : s.fetch.copy = none) : (s.timingFault e c).fetch.copy = none := by
  unfold State.timingFault
  dsimp only
  split
  · exact State.forFitted_free (fun g u hu => State.timingLoss_local hu g e) free
  · exact free

theorem State.timingFault_content (synced : s.ctu.timing = .synced) {m : TimingState} (hm : c.timing = m) :
    ((s.timingFault e c).link.entry .cylinder).content = some (.cylinder e m c.ready c.revs s.timestamp) := by
  rw [State.timingFault, if_pos synced]
  exact (congrArg NoticeEntry.content (State.forFitted_runs (fun g u => (u.timingLoss_works g e).runs) _).board.cylinder).trans
    (State.postCylinder_content c e hm)

/-- A change of the CTU alone is none at a head. -/
theorem State.passesIdle_setCtu (t : State) (c : Ctu) (h : HeadId) : t.PassesIdle { t with ctu := c } h :=
  ⟨fun _ => rfl, fun _ _ => ⟨rfl, rfl, rfl, rfl, rfl, rfl, rfl, fun _ _ => rfl⟩⟩

theorem State.count_timing (s : State) (forward : Bool) : (s.count forward).ctu.timing = s.ctu.timing := rfl

theorem State.judgeCount_reverse (synced : s.ctu.timing = .synced) :
    s.judgeCount false = s.timingFault .direction s.ctu.unoriginated := by
  simp only [State.judgeCount, synced]

theorem State.judgeCount_over (synced : s.ctu.timing = .synced) (past : s.pastWindow = true) :
    s.judgeCount true = s.timingFault .indexMissing s.ctu.unoriginated := by
  simp only [State.judgeCount, synced, past, if_true]

/-- A count that loses the origin of a SYNCED cylinder (R6, R7). -/
theorem State.countFault_loses (synced : s.ctu.timing = .synced) (free : s.fetch.copy = none) {forward : Bool}
    (judge : (s.count forward).judgeCount forward = (s.count forward).timingFault e (s.count forward).ctu.unoriginated) :
    ∃ t, exec (.countEvent forward) s = .next t ∧
      (t.link.entry .cylinder).content = some (.cylinder e .unsynced s.ctu.ready s.ctu.revs s.timestamp) ∧
      s.takeUp.timingLost t e s.clock := by
  have hsynced : (s.count forward).ctu.timing = .synced := synced
  have hfree : (s.count forward).fetch.copy = none := free
  have hm : (s.count forward).ctu.unoriginated.timing = .unsynced := if_neg (by rw [hsynced]; decide)
  refine ⟨_, exec_countEvent s forward, ?_, ?_⟩
  · rw [State.settled_content, (State.presentAll_runs _).board.cylinder, judge, State.timingFault_content hsynced hm]
    rfl
  · have hlost : (s.count forward).timingLost ((s.count forward).judgeCount forward).presentAll e s.clock :=
      State.timingFault_loses hsynced hfree (c := (s.count forward).ctu.unoriginated) rfl rfl
        (judge ▸ State.presentAll_passes (judge ▸ State.timingFault_free hfree))
    exact State.timingLost_settled hlost

/-- The settle and dwell timers alone count the time that passes at a head. -/
theorem State.elapse_head (s : State) (n : Nat) (h : HeadId) : (s.elapse n).heads.get h = ((s.heads.get h).elapse n) :=
  s.elapse_heads n h

/-- The stopped timeout of a SYNCED cylinder (R2). -/
theorem State.stoppedFault_loses (synced : s.ctu.timing = .synced) (free : s.fetch.copy = none) :
    ∃ t, exec .stoppedTimeout s = .next t ∧
      (t.link.entry .cylinder).content = some (.cylinder .stopped .stopped s.ctu.ready s.ctu.revs
        (s.elapse (50000 - s.ctu.stoppedTimer)).timestamp) ∧
      s.timingLost t .stopped (s.elapse (50000 - s.ctu.stoppedTimer)).clock := by
  obtain ⟨n, hn⟩ : ∃ n, n = 50000 - s.ctu.stoppedTimer := ⟨_, rfl⟩
  rw [← hn]
  have running : ¬s.ctu.timing = .stopped := by rw [synced]; decide
  have hnext : exec .stoppedTimeout s =
      .next ((s.elapse n).timingFault .stopped (s.elapse n).ctu.stopped).settled := by
    simp only [exec, execStoppedTimeout, if_neg running, stoppedLimit, ← hn]
    rfl
  have hsynced : (s.elapse n).ctu.timing = .synced := (s.elapse_timing n).trans synced
  have hfree : (s.elapse n).fetch.copy = none := by rw [State.elapse_fetch]; exact free
  have hctu : (s.elapse n).ctu.ready = s.ctu.ready ∧ (s.elapse n).ctu.revs = s.ctu.revs ∧
      (s.elapse n).ctu.acting = s.ctu.acting := by
    unfold State.elapse; split <;> exact ⟨rfl, rfl, rfl⟩
  refine ⟨_, hnext, ?_, fun h b fit hb => ?_⟩
  · rw [State.settled_content, State.timingFault_content hsynced (m := .stopped) rfl]
    simp only [Ctu.stopped, hctu.1, hctu.2.1]
  · have hlost := State.timingLost_settled (State.timingFault_loses hsynced hfree (e := .stopped) (c := (s.elapse n).ctu.stopped)
      rfl rfl fun g => .refl _ g)
    generalize ((s.elapse n).timingFault .stopped (s.elapse n).ctu.stopped).settled = t at hlost ⊢
    obtain ⟨hcut, hwait, hbefore⟩ := hlost h b (by rw [State.fitted, hctu.2.2]; exact fit) ((s.elapse_active n ▸ hb))
    rw [s.elapse_head] at hwait hbefore
    refine ⟨fun hp => ?_, hwait, fun hp still => ?_⟩
    · obtain ⟨hbands, hposted, hhead, haxis, hbuffers⟩ := hcut hp
      rw [s.elapse_head] at hhead
      rw [State.elapse_bands, State.elapse_axes, hctu.2.1] at hbands
      rw [State.elapse_axes] at haxis
      rw [State.emptiesBuffers, State.elapse_buffers] at hbuffers
      have hdis : (s.elapse n).discarding h b = s.discarding h b := by simp only [State.discarding, State.elapse_fetch]
      exact ⟨hdis ▸ hbands, hposted, hhead, haxis, hbuffers⟩
    · exact (hbefore hp still).trans (by rw [State.elapse_bands])

/-! ### A good index at which the speed is lost (R10) -/

theorem State.boundaries_none {due : HeadId → Bool} (none_ : ∀ g, s.fitted g = true → due g = false) : s.boundaries due = s := by
  unfold State.boundaries State.forFitted
  refine List.foldlRecOn (motive := fun u => u = s) heads4 _ rfl fun u hu g _ => ?_
  · subst hu
    split
    · next fit => exact if_neg (by simp [none_ g fit])
    · rfl

theorem State.serveReport_same (s : State) (h : HeadId) : s.SameAt s.serveReport h ∧ s.serveReport.ctu.acting = s.ctu.acting ∧
    s.serveReport.fetch = s.fetch := by
  unfold State.serveReport
  split
  · exact ⟨.refl s h, rfl, rfl⟩
  · split
    · exact ⟨⟨rfl, rfl, rfl, rfl, rfl, rfl, rfl, fun id hid => Link.entry_post_ne _ _ fun e => by subst e; cases hid⟩, rfl, rfl⟩
    · exact ⟨⟨rfl, rfl, rfl, rfl, rfl, rfl, rfl, fun _ _ => rfl⟩, rfl, rfl⟩

theorem State.speedEvents_free (free : s.fetch.copy = none) : (s.forFitted fun h u => u.speedEvent h).fetch.copy = none :=
  State.forFitted_free (fun g _ hu => State.speedEvent_local hu g) free

theorem State.goodIndex_eq (s : State) : s.goodIndex = s.measured.checkSpeed.serveReport.zeroBoundaries.presentAll := rfl

theorem State.checkSpeed_lost (was : s.ctu.speedOk = true) (fails : speedOkFor s.machine (s.ctu.lastPeriod.getD 0) = false) :
    s.checkSpeed = (({ s with ctu := { s.ctu with speedOk := false } } : State).postCylinder .speedLost).forFitted
      fun h u => u.speedEvent h := by
  simp only [State.checkSpeed, was, fails]

/-- The card as a SPEED_LOST event leaves it, before it is handed to the bands. -/
def State.speedFailed (s : State) : State :=
  ({ s.measured with ctu := { s.measured.ctu with speedOk := false } } : State).postCylinder .speedLost

theorem State.speedFailed_ctu (s : State) : s.speedFailed.ctu = { s.measured.ctu with speedOk := false } := rfl

theorem State.speedFailed_rest (s : State) : s.speedFailed.clock = s.measured.clock ∧ s.speedFailed.fetch = s.measured.fetch ∧
    ∀ h, s.measured.SameAt s.speedFailed h :=
  ⟨rfl, rfl, fun h => ⟨rfl, rfl, rfl, rfl, rfl, rfl, rfl, fun id hid => Link.entry_post_ne _ _ fun e => by subst e; cases hid⟩⟩

theorem Ctu.revolved_acting (c : Ctu) (now : Nat) : (c.revolved now).acting = c.acting := rfl

theorem Ctu.revolved_lastPeriod (c : Ctu) (now : Nat) : (c.revolved now).lastPeriod = some (c.period now) := rfl

theorem State.sameAt_setCtu (s : State) (c : Ctu) (h : HeadId) : s.SameAt { s with ctu := c } h :=
  ⟨rfl, rfl, rfl, rfl, rfl, rfl, rfl, fun _ _ => rfl⟩

theorem State.measured_eq (howed : s.owedBoundaries = s) : s.measured = { s with ctu := s.ctu.revolved s.timestamp } := by
  rw [State.measured, howed]

/-- What a good index with no boundary of its own leaves behind its SPEED event. -/
theorem State.goodIndex_speedLost (quiet : ∀ g, s.fitted g = true → s.startAngle g ≠ 0 ∧ (s.startAngle g : Int) ≤ s.ctu.elapsed)
    (was : s.ctu.speedOk = true) (fails : speedOkFor s.machine (s.ctu.period s.timestamp) = false) :
    s.measured = { s with ctu := s.ctu.revolved s.timestamp } ∧
      s.goodIndex = (s.speedFailed.forFitted fun h u => u.speedEvent h).serveReport.presentAll := by
  have howed : s.owedBoundaries = s := by
    unfold State.owedBoundaries
    split
    · exact State.boundaries_none fun g fit => decide_eq_false (Int.not_lt.mpr (quiet g fit).2)
    · rfl
  have hm := State.measured_eq howed
  refine ⟨hm, ?_⟩
  have hcheck : s.measured.checkSpeed = s.speedFailed.forFitted fun h u => u.speedEvent h :=
    State.checkSpeed_lost (by rw [hm]; exact was) (by rw [hm, Ctu.revolved_lastPeriod, Option.getD_some]; exact fails)
  have hspeed : s.speedFailed.ctu.acting = s.ctu.acting := by
    rw [s.speedFailed_ctu, hm]
    exact s.ctu.revolved_acting s.timestamp
  have hacting : (s.speedFailed.forFitted fun h u => u.speedEvent h).serveReport.ctu.acting = s.ctu.acting := by
    rw [((s.speedFailed.forFitted fun h u => u.speedEvent h).serveReport_same 0).2.1,
      (State.forFitted_runs (fun g u => (u.speedEvent_works g).runs) s.speedFailed).board.ctu, hspeed]
  have hzero : (s.speedFailed.forFitted fun h u => u.speedEvent h).serveReport.zeroBoundaries =
      (s.speedFailed.forFitted fun h u => u.speedEvent h).serveReport := by
    unfold State.zeroBoundaries
    split
    · refine State.boundaries_none fun g fit => decide_eq_false ?_
      rw [State.startAngle, hacting]
      rw [State.fitted, hacting] at fit
      exact (quiet g fit).1
    · rfl
  rw [s.goodIndex_eq, hcheck, hzero]

end Sys2Proof.Machine

open Sys2Proof Sys2Proof.Machine

/-- Settles O31: each fault hands its timing loss to every head in turn, with the copy free so that no head reaches another;
then the angle passes the heads by. -/
theorem timingLossEndsCuttingBands : Obligations.TimingLossEndsCuttingBands := by
  refine fun s free => ⟨fun synced => ⟨?_, fun known past => ?_, fun known low => ?_, fun known high => ?_, ?_⟩,
    fun p running known low high hp was nominal off quiet => ?_⟩
  · have hreverse : (s.count false).ctu.timing = .synced := (s.count_timing false).trans synced
    exact State.countFault_loses (forward := false) synced free (State.judgeCount_reverse hreverse)
  · have hover := State.judgeCount_over (s := s.count true) synced
    exact State.countFault_loses (forward := true) synced free (hover (s.count_pastWindow.mpr ⟨known, past⟩))
  · have running : s.ctu.timing ≠ .stopped := by rw [synced]; decide
    have inside : ¬s.pastWindow = true := by rw [State.pastWindow, decide_eq_true_iff]; omega
    have hnext : s.judgeIndex = s.timingFault .indexSlip (s.ctu.origin s.timestamp) := by
      rw [State.judgeIndex, if_neg inside, if_pos low]
    rw [exec_indexEvent running known, hnext]
    refine ⟨_, rfl, ?_, State.timingLost_settled
      (State.timingFault_loses synced free (c := s.ctu.origin s.timestamp) rfl rfl fun g => .refl _ g)⟩
    rw [State.settled_content, State.timingFault_content synced (m := .unsynced) (if_neg running)]
    rfl
  · have running : s.ctu.timing ≠ .stopped := by rw [synced]; decide
    have hnext : s.judgeIndex = { s.timingFault .indexMissing s.ctu.unoriginated with
        ctu := (s.timingFault .indexMissing s.ctu.unoriginated).ctu.origin
          (s.timingFault .indexMissing s.ctu.unoriginated).timestamp } := by
      rw [State.judgeIndex, if_pos (by rwa [State.pastWindow, decide_eq_true_iff])]
    rw [exec_indexEvent running known, hnext]
    refine ⟨_, rfl, ?_, State.timingLost_settled (State.timingFault_loses synced free (c := s.ctu.unoriginated) rfl rfl
      fun g => State.passesIdle_setCtu _ _ g)⟩
    rw [State.settled_content]
    exact State.timingFault_content synced (c := s.ctu.unoriginated) (m := .unsynced) (if_neg running)
  · exact State.stoppedFault_loses synced free
  · have period : s.ctu.period s.timestamp = p := hp.symm
    have fails : speedOkFor s.machine (s.ctu.period s.timestamp) = false := by
      rw [period, speedOkFor, Bool.or_eq_false_iff, decide_eq_false_iff_not, decide_eq_false_iff_not]
      exact ⟨nominal, by omega⟩
    have inside : ¬s.pastWindow = true := by rw [State.pastWindow, decide_eq_true_iff]; omega
    have hnext : s.judgeIndex = s.goodIndex := by rw [State.judgeIndex, if_neg inside, if_neg (by omega)]
    obtain ⟨hm, hgood⟩ := State.goodIndex_speedLost quiet was fails
    rw [exec_indexEvent running known, hnext]
    refine ⟨_, rfl, ?_, fun h b fit hb => ?_⟩
    · rw [State.settled_content]
      exact (s.goodIndex_judged known fails).2.1 (by simp [was])
    · obtain ⟨hclock, hfetch, hposted⟩ := s.speedFailed_rest
      have hctu := s.speedFailed_ctu
      rw [hm] at hclock hfetch hposted hctu
      rw [Ctu.revolved_of_known known] at hctu
      have hfree : s.speedFailed.fetch.copy = none := (congrArg FetchEngine.copy hfetch).trans free
      have hrevs : s.speedFailed.ctu.revs = (s.ctu.revs + 1) % 4294967296 := by rw [hctu]
      have hfit : s.speedFailed.fitted h = true := by rw [State.fitted, hctu]; exact fit
      obtain ⟨u, hsame, hboard, hcopy, hlast⟩ := State.forFitted_turn (s := s.speedFailed) (f := fun h u => u.speedEvent h)
        (h := h) (fun g u => (u.speedEvent_works g).moves.board) (fun g u hu => State.speedEvent_local (hu.trans hfree) g) hfit
      obtain ⟨hserved, -, hsfree⟩ := (s.speedFailed.forFitted fun h u => u.speedEvent h).serveReport_same h
      have hlater := State.presentAll_passes (t := (s.speedFailed.forFitted fun h u => u.speedEvent h).serveReport)
        (by rw [hsfree]; exact State.speedEvents_free hfree) h
      rw [← hgood] at hlater
      have hall := hlast.trans hserved
      have r : s.Turn s.goodIndex h u (u.speedEvent h) :=
        ⟨((s.sameAt_setCtu _ h).trans (hposted h)).trans hsame, hboard.clock.trans hclock, hcopy.trans hfree,
          fun hc => (hlater.bands (by rwa [hall.head])).trans hall.bands,
          fun hc hf => hall.trans (hlater.all (by rwa [hall.head]) (by rwa [hall.axis]))⟩
      have hub : u.active h = some b := r.before.active.trans hb
      refine ⟨fun hphase => State.abortsBand_settled ?_, fun hphase still => ?_⟩
      · rw [State.speedEvent_cutting hub hphase] at r
        have habort := r.aborts free hb
        rwa [hboard.ctu, hrevs] at habort
      · rw [State.speedEvent_before hub hphase] at r
        have hsame := (r.bands rfl still).trans r.before.bands
        rw [State.settled_bands]
        exact hsame
end

section
/-! What a count without a boundary brings to one head: its due cells, its trigger and its helical steps (R28, R98, R120,
R121). -/

namespace Sys2Proof.Machine

variable {s u : State} {h : HeadId} {x : Head} {c : PlacementContext} {t : BufferTrack} {tones : Memory} {rel : Nat}

/-! ### The cells that are due -/

/-- How many of the cells i to j − 1 have a mark. -/
def Head.marked (x : Head) (kind : BufferKind) (tones : Memory) (i j : Nat) (m : ClampMark) : Nat :=
  ((List.range' i (j - i)).filter fun k => (x.cellEntry kind tones k).mark = m).length

theorem Head.marked_self (x : Head) (kind : BufferKind) (tones : Memory) (i : Nat) (m : ClampMark) :
    x.marked kind tones i i m = 0 := by simp [Head.marked]

theorem Head.marked_from {i j : Nat} (lt : i < j) (x : Head) (kind : BufferKind) (tones : Memory) (m : ClampMark) :
    x.marked kind tones i j m =
      (if (x.cellEntry kind tones i).mark = m then 1 else 0) + x.marked kind tones (i + 1) j m := by
  have hlen : j - i = (j - (i + 1)) + 1 := by omega
  rw [Head.marked, hlen, List.range'_succ, List.filter_cons, Head.marked]
  split <;> rename_i hm <;> simp only [decide_eq_true_eq] at hm
  · rw [if_pos hm, List.length_cons, Nat.add_comm]
  · rw [if_neg hm, Nat.zero_add]

/-- What delivering the due cells of a track leaves (R28, R45, R98). -/
structure Head.Delivers (x : Head) (c : PlacementContext) (t : BufferTrack) (tones : Memory) (rel left : Nat)
    (d e : Delivery) : Prop where
  starts : d.next ≤ e.next
  ends : e.next ≤ d.next + left
  due : ∀ i, d.next ≤ i → i < e.next → c.fireCount t.number i ≤ rel
  early : e.next < d.next + left → rel < c.fireCount t.number e.next
  kept : e.next = d.next → e.depth = d.depth
  depth : d.next < e.next → e.depth = (x.cellEntry t.kind tones (e.next - 1)).depth
  lows : e.lows = d.lows + x.marked t.kind tones d.next e.next .low
  highs : e.highs = d.highs + x.marked t.kind tones d.next e.next .high

theorem Head.Delivers.refl {left : Nat} {d : Delivery} (early : d.next < d.next + left → rel < c.fireCount t.number d.next) :
    x.Delivers c t tones rel left d d := by
  refine ⟨Nat.le_refl _, Nat.le_add_right _ _, fun i hi hj => absurd hi (Nat.not_le.mpr hj), early, fun _ => rfl,
    fun lt => absurd lt (Nat.lt_irrefl _), ?_, ?_⟩ <;> rw [Head.marked_self] <;> rfl

theorem Head.deliver_delivers (x : Head) (c : PlacementContext) (t : BufferTrack) (tones : Memory) (rel : Nat) :
    ∀ (left : Nat) (d : Delivery), x.Delivers c t tones rel left d (x.deliver c t tones rel left d)
  | 0, _ => .refl fun lt => absurd lt (Nat.lt_irrefl _)
  | left + 1, d => by
    unfold Head.deliver
    split
    · next due =>
      have e := deliver_delivers x c t tones rel left (d.cell (x.cellEntry t.kind tones d.next))
      generalize x.deliver c t tones rel left (d.cell (x.cellEntry t.kind tones d.next)) = y at e
      have hstart : d.next + 1 ≤ y.next := e.starts
      have hend : y.next ≤ d.next + 1 + left := e.ends
      refine ⟨by omega, by omega, fun i hi hj => ?_, fun lt => ?_, fun eq => by omega, fun _ => ?_, ?_, ?_⟩
      · obtain rfl | hlt := Nat.eq_or_lt_of_le hi
        · exact due
        · exact e.due i hlt hj
      · exact e.early (by show y.next < d.next + 1 + left; omega)
      · obtain eq | lt := Nat.eq_or_lt_of_le hstart
        · have hk := e.kept eq.symm
          rw [← eq, Nat.add_sub_cancel]
          exact hk
        · exact e.depth lt
      · rw [e.lows, Head.marked_from (Nat.lt_of_succ_le hstart), ← Nat.add_assoc]; rfl
      · rw [e.highs, Head.marked_from (Nat.lt_of_succ_le hstart), ← Nat.add_assoc]; rfl
    · next early => exact .refl fun _ => Nat.not_le.mp early

/-- The cells of a CUTTING head that holds a LOADED ACTIVE buffer. -/
theorem State.deliverCells_cutting {i : Nat} (cutting : (s.heads.get h).state = .cutting)
    (next : (s.heads.get h).nextCell = some i) (context : (s.heads.get h).context = some c)
    (loaded : (s.buffers.get h).active.held = .loaded t) : s.deliverCells h =
      (s.updHead h fun y => { y with
        nextCell := some ((s.heads.get h).deliver c t (s.buffers.get h).active.tones (s.relCount h) (c.n - i)
          ⟨i, (s.heads.get h).depth, 0, 0⟩).next
        depth := ((s.heads.get h).deliver c t (s.buffers.get h).active.tones (s.relCount h) (c.n - i)
          ⟨i, (s.heads.get h).depth, 0, 0⟩).depth }).updActive h fun b =>
        { b with
          clampedLow := addCount b.clampedLow ((s.heads.get h).deliver c t (s.buffers.get h).active.tones (s.relCount h)
            (c.n - i) ⟨i, (s.heads.get h).depth, 0, 0⟩).lows
          clampedHigh := addCount b.clampedHigh ((s.heads.get h).deliver c t (s.buffers.get h).active.tones (s.relCount h)
            (c.n - i) ⟨i, (s.heads.get h).depth, 0, 0⟩).highs } := by
  simp only [State.deliverCells, cutting, next, context, loaded]

/-! ### The helical steps that are due -/

/-- The steps from the pointer on whose counts have been reached, in order (R121). -/
theorem helicalSteps_spec (pitch rel : Nat) : ∀ left j : Nat, helicalSteps pitch rel left j ≤ left ∧
    (∀ i, j ≤ i → i < j + helicalSteps pitch rel left j → helicalDue pitch i ≤ rel) ∧
    (helicalSteps pitch rel left j < left → rel < helicalDue pitch (j + helicalSteps pitch rel left j))
  | 0, j => ⟨Nat.le_refl _, fun i hi hj => absurd hi (Nat.not_le.mpr hj), fun lt => absurd lt (Nat.lt_irrefl _)⟩
  | left + 1, j => by
    unfold helicalSteps
    split
    · next due =>
      obtain ⟨hle, hdue, hearly⟩ := helicalSteps_spec pitch rel left (j + 1)
      refine ⟨by omega, fun i hi hj => ?_, fun lt => ?_⟩
      · obtain rfl | hlt := Nat.eq_or_lt_of_le hi
        · exact due
        · exact hdue i hlt (by omega)
      · have hnext := hearly (by omega)
        rwa [Nat.add_assoc] at hnext
    · next early =>
      exact ⟨Nat.zero_le _, fun i hi hj => absurd hi (Nat.not_le.mpr hj), fun _ => Nat.not_le.mp early⟩

/-! ### The count -/

/-- A count in which no head's boundary falls. -/
theorem State.judgeCount_none (running : s.ctu.timing ≠ .stopped) (inside : s.pastWindow = false)
    (none_ : ∀ g, s.startAngle g = 0 ∨ s.ctu.elapsed ≠ s.startAngle g) : s.judgeCount true = s := by
  unfold State.judgeCount
  rw [inside]
  cases ht : s.ctu.timing with
  | stopped => exact absurd ht running
  | unsynced => rfl
  | synced =>
    exact State.boundaries_none fun g _ => decide_eq_false fun ⟨hne, heq⟩ => (none_ g).elim hne fun h => h heq

/-- A head's turn in the presentation of a count's angle. -/
theorem State.presentAll_turn (fit : s.fitted h = true) :
    ∃ u, s.SameAt u h ∧ s.SameBoard u ∧ (u.present h).SameAt s.presentAll h := by
  obtain ⟨u, hsame, hboard, -, hlast⟩ := State.forFitted_turn (s := s) (f := fun h t => t.present h)
    (fun g u => (u.present_works g).moves.board) (fun g u _ => u.present_local g) fit
  exact ⟨u, hsame, hboard, hlast⟩

theorem State.deliverCells_axes (s : State) (h : HeadId) : (s.deliverCells h).axes = s.axes := by
  unfold State.deliverCells
  dsimp only
  split <;> rfl

theorem State.deliverCells_clock (s : State) (h : HeadId) : (s.deliverCells h).clock = s.clock := by
  unfold State.deliverCells
  dsimp only
  split <;> rfl

theorem State.deliverCells_ctu (s : State) (h : HeadId) : (s.deliverCells h).ctu = s.ctu := by
  unfold State.deliverCells
  dsimp only
  split <;> rfl

/-- What the axis takes of the presented angle. -/
theorem State.present_axis (s : State) (h : HeadId) :
    (s.present h).axes.get h = (s.axes.get h).takeCount (s.relCount h) s.clock := by
  rw [State.present, State.updAxis_get_same, State.deliverCells_axes, State.deliverCells_clock, State.relCount, State.startAngle,
    State.deliverCells_ctu]
  rfl

theorem State.present_heads (s : State) (h : HeadId) : (s.present h).heads = (s.deliverCells h).heads := rfl

theorem State.present_bands (s : State) (h : HeadId) : (s.present h).bands = (s.deliverCells h).bands := rfl

theorem State.SameBoard.relCount {t : State} (b : s.SameBoard t) (h : HeadId) : t.relCount h = s.relCount h := by
  rw [State.relCount, State.startAngle, b.ctu]; rfl

/-- Head h and its axis at a forward count that loses no origin and raises no boundary: they stand as before it, and are
left as the presented angle leaves them. -/
theorem State.countServes {r : Nat} (fit : h.val < s.machine.fitted) (running : s.ctu.timing ≠ .stopped)
    (known : s.ctu.streak ≠ 0) (inside : s.ctu.elapsed + 1 ≤ 65536 + s.machine.indexTol)
    (none_ : ∀ g, (s.heads.get g).settings.startAngle = 0 ∨ s.ctu.elapsed + 1 ≠ (s.heads.get g).settings.startAngle)
    (hr : r = ((s.ctu.angle + 1) % 65536 + 65536 - (s.heads.get h).settings.startAngle) % 65536) :
    ∃ u t, exec (.countEvent true) s = .next t ∧ s.SameAt u h ∧ u.relCount h = r ∧ u.clock = s.clock ∧
      t.heads.get h = (u.deliverCells h).heads.get h ∧ t.bands.get h = (u.deliverCells h).bands.get h ∧
      t.axes.get h = (s.axes.get h).takeCount r s.clock := by
  have hctu := State.countedCtu_kept running (.inr inside)
  have hstart : ∀ g, (s.count true).startAngle g = (s.heads.get g).settings.startAngle := fun g => by
    rw [State.startAngle, hctu]
    exact Quad.get_map ..
  have hinside : (s.count true).pastWindow = false := by
    rw [Bool.eq_false_iff, Ne, s.count_pastWindow]; omega
  have helapsed : (s.count true).ctu.elapsed = s.ctu.elapsed + 1 := by
    rw [hctu]; exact if_pos ⟨rfl, running, known, inside⟩
  have hangle : (s.count true).ctu.angle = (s.ctu.angle + 1) % 65536 := by rw [hctu]; rfl
  have hjudge : (s.count true).judgeCount true = s.count true :=
    State.judgeCount_none (by rw [State.count_timing]; exact running) hinside fun g => by
      rw [hstart, helapsed]; exact none_ g
  have hfit : (s.count true).fitted h = true := by
    rw [State.fitted, hctu]; exact decide_eq_true fit
  obtain ⟨u, hsame, hboard, hlast⟩ := State.presentAll_turn hfit
  have hrel : u.relCount h = r := by
    rw [hboard.relCount, State.relCount, hstart, hangle, hr]; rfl
  have hclock : u.clock = s.clock := hboard.clock
  have hserved : s.SameAt u h := State.SameAt.trans (s.sameAt_setCtu _ h) hsame
  refine ⟨u, _, exec_countEvent s true, hserved, hrel, hclock, ?_, ?_, ?_⟩
  · rw [State.settled_heads, hjudge, hlast.head, State.present_heads]
  · rw [State.settled_bands, hjudge, hlast.bands, State.present_bands]
  · rw [State.settled_axes, hjudge, hlast.axis, State.present_axis, hserved.axis, hrel, hclock]

end Sys2Proof.Machine

open Sys2Proof Sys2Proof.Machine

/-- Settles O25: the delivery loop and the helical steps, each taken as exactly what is due at the count. -/
theorem countServesCellsAndFeed : Obligations.CountServesCellsAndFeed := by
  intro h s r fit running known inside none_ hr
  obtain ⟨u, t, hexec, hsame, hrel, hclock, hhead, hbands, haxis⟩ := State.countServes fit running known inside none_ hr
  refine ⟨fun i c tr cutting next context loaded hi => ?_, fun x feeding hx stepped armed => ?_,
    fun x j feeding hx helical hj low high => ?_⟩
  · rw [← hsame.head] at cutting next context
    rw [← hsame.buffers] at loaded
    rw [State.deliverCells_cutting cutting next context loaded, hrel] at hhead hbands
    have e := (u.heads.get h).deliver_delivers c tr (u.buffers.get h).active.tones r (c.n - i) ⟨i, (u.heads.get h).depth, 0, 0⟩
    generalize (u.heads.get h).deliver c tr (u.buffers.get h).active.tones r (c.n - i) ⟨i, (u.heads.get h).depth, 0, 0⟩ = d
      at e hhead hbands
    have hend : d.next ≤ i + (c.n - i) := e.ends
    rw [hsame.head, hsame.buffers] at e
    refine ⟨t, d.next, d.depth, hexec, ?_, e.starts, by omega, e.due, fun lt => ?_, e.kept, e.depth, fun b marks hb hm => ?_⟩
    · rw [hhead, State.updActive_heads, State.updHead_get_same, hsame.head]
    · exact e.early (by show d.next < i + (c.n - i); omega)
    · have hub : u.active h = some b := hsame.active.trans hb
      have hlows : d.lows = marks .low := by rw [hm]; exact e.lows.trans (Nat.zero_add _)
      have hhighs : d.highs = marks .high := by rw [hm]; exact e.highs.trans (Nat.zero_add _)
      rw [State.active, hbands, ← hlows, ← hhighs]
      have hactive : (u.updHead h fun y => { y with nextCell := some d.next, depth := d.depth }).active h = some b := hub
      rw [State.updActive, hactive]
      exact State.setActive_active ..
  · refine ⟨t, hexec, haxis.trans ?_⟩
    simp only [Axis.takeCount, feeding, hx, stepped, armed, true_and]
    rfl
  · have hun : x.unissued = x.pitch + 1 - j := by rw [FeedContext.unissued, helical, hj]
    obtain ⟨hle, hdue, hearly⟩ := helicalSteps_spec x.pitch r x.unissued j
    refine ⟨t, j + helicalSteps x.pitch r x.unissued j, hexec, haxis.trans ?_, by omega, by omega, hdue,
      fun lt => hearly (by omega)⟩
    simp only [Axis.takeCount, feeding, hx, helical, hj, Nat.add_sub_cancel_left]
    rfl
end

section
/-! READY_LOST and the retract alarms (R92, R99, R115, R139, R156): what they leave of a head, whatever the arbiter does for
the other heads meanwhile. -/

namespace Sys2Proof.Machine

variable {s t u : State} {h g : HeadId}

/-! ### What a head's reports and orders keep of its band and axis -/

/-- From `s` to `t` head h keeps its bands, but for what an order may change of the active one, and what its axis knows. -/
structure State.Eases (s t : State) (h : HeadId) : Prop where
  known : (t.axes.get h).known = (s.axes.get h).known
  waiting : (t.bands.get h).waiting = (s.bands.get h).waiting
  results : (t.bands.get h).results = (s.bands.get h).results
  active : (t.active h).map Band.tag = (s.active h).map Band.tag

theorem State.Eases.refl (s : State) (h : HeadId) : s.Eases s h := ⟨rfl, rfl, rfl, rfl⟩

theorem State.Eases.trans (a : s.Eases t h) (b : t.Eases u h) : s.Eases u h :=
  ⟨b.known.trans a.known, b.waiting.trans a.waiting, b.results.trans a.results, b.active.trans a.active⟩

theorem State.Eases.updHead (s : State) (h : HeadId) (f : Head → Head) : s.Eases (s.updHead h f) h := ⟨rfl, rfl, rfl, rfl⟩

theorem State.Eases.updAxis {f : Axis → Axis} (known : (f (s.axes.get h)).known = (s.axes.get h).known) :
    s.Eases (s.updAxis h f) h := ⟨by rw [State.updAxis_get_same, known], rfl, rfl, rfl⟩

theorem State.Eases.setActive {b c : Band} (hb : s.active h = some b) (tag : c.tag = b.tag) :
    s.Eases (s.setActive h (some c)) h :=
  ⟨rfl, by simp, by simp, by rw [State.setActive_active, hb, Option.map_some, Option.map_some, tag]⟩

theorem State.dwellIdle_eases (s : State) (h : HeadId) : s.Eases (s.dwellIdle h) h := by
  unfold State.dwellIdle
  split
  · exact .refl s h
  · exact .updHead ..

theorem State.onEngaged_eases (s : State) (h : HeadId) : s.Eases (s.onEngaged h) h := by
  unfold State.onEngaged
  split
  · exact s.dwellIdle_eases h
  · next hb =>
    split
    · exact .setActive hb rfl
    · exact .refl s h

theorem State.engageOrder_eases (s : State) (h : HeadId) : s.Eases (s.engageOrder h) h := by
  unfold State.engageOrder
  dsimp only
  split
  · exact (Eases.updHead s h _).trans (State.onEngaged_eases _ h)
  · exact .updHead ..
  · exact .updHead ..

theorem State.onAtStart_eases (s : State) (h : HeadId) : s.Eases (s.onAtStart h) h := by
  unfold State.onAtStart
  split
  · exact .refl s h
  · next b hb =>
    split
    · exact (Eases.setActive hb (c := { b with phase := .engaging }) rfl).trans (State.engageOrder_eases _ h)
    · exact .refl s h

theorem State.positionOrder_eases (s : State) (h : HeadId) : s.Eases (s.positionOrder h) h := by
  unfold State.positionOrder
  dsimp only
  split
  · exact .refl s h
  · split
    · split
      · exact (Eases.updAxis (s := s) (h := h) (f := fun x => x.setStage .hold) rfl).trans (State.onAtStart_eases _ h)
      · exact .updAxis rfl
    · exact s.onAtStart_eases h
    · exact .refl s h

theorem State.onParked_eases (s : State) (h : HeadId) : s.Eases (s.onParked h) h := by
  unfold State.onParked
  split
  · split
    · exact s.positionOrder_eases h
    · exact .refl s h
  · exact .refl s h
  · exact .refl s h

theorem State.onReport_eases (s : State) (h : HeadId) (r : HeadReport) : s.Eases (s.onReport h r) h := by
  cases r
  · exact .refl s h
  · exact s.onEngaged_eases h
  · exact s.onParked_eases h

theorem State.retractOrder_eases (s : State) (h : HeadId) : s.Eases (s.retractOrder h) h :=
  (Eases.updHead s h _).trans (State.onReport_eases _ h _)

theorem State.immediateRetract_eases (s : State) (h : HeadId) : s.Eases (s.immediateRetract h) h :=
  (Eases.updHead s h _).trans (State.onReport_eases _ h _)

/-! ### What other heads' events keep of a head -/

/-- From `s` to `t` the axis of head g knows what it knew, and a pending band still follows an active one. -/
structure State.Mild (s t : State) (g : HeadId) : Prop where
  known : (t.axes.get g).known = (s.axes.get g).known
  follows : (s.bands.get g).pendingFollows → (t.bands.get g).pendingFollows

theorem State.Mild.refl (s : State) (g : HeadId) : s.Mild s g := ⟨rfl, id⟩

theorem State.Mild.trans (a : s.Mild t g) (b : t.Mild u g) : s.Mild u g := ⟨b.known.trans a.known, b.follows ∘ a.follows⟩

theorem State.SameAt.mild (a : s.SameAt t g) : s.Mild t g := ⟨by rw [a.axis], by rw [a.bands]; exact id⟩

/-- The end order within a revolution keeps what the axis knows. -/
theorem Axis.endOrder_known (a : Axis) : (a.endOrder false).known = a.known := by
  cases hh : a.homed with
  | true =>
    rw [Axis.known_of_homed hh, Axis.endOrder_homed hh]
    show a.position.map (fun p => p + 0) = a.position
    cases a.position <;> rfl
  | false => rw [Axis.endOrder_unhomed hh]; rfl

theorem State.endPending_waiting (s : State) (h : HeadId) (cls : ResultClass) (cause : Cause) :
    ((s.endPending h cls cause).bands.get h).waiting = none := by
  rw [State.endPending_bands, Quad.get_set_same]

/-- An end of a band within a revolution is mild to every head, its own too. -/
theorem State.abortClosed_mild (s : State) (h g : HeadId) (b : Band) (cause : Cause) (detail : Option CauseDetail)
    (order : Retire) : s.Mild (s.abortClosed h b cause detail order false) g := by
  by_cases e : g = h
  · subst e
    refine ⟨?_, fun _ => fun hw => ?_⟩
    · have hclose : ((s.closeBand g b .aborted cause detail order false).axes.get g) = (s.axes.get g).endOrder false := by
        simp [State.closeBand, State.file, State.post]
      have hend : (s.abortClosed g b cause detail order false).axes =
          (s.closeBand g b .aborted cause detail order false).axes := by
        unfold State.abortClosed State.dwellIdle State.endPending
        split <;> split <;> rfl
      rw [hend, hclose, Axis.endOrder_known]
    · rw [State.abortClosed, State.dwellIdle_bands, State.endPending_waiting] at hw
      cases hw
  · exact ((s.abortClosed_local h b cause detail order false).others g e).mild

theorem State.startCopy_mild (s : State) (h g : HeadId) (d : Descriptor) : s.Mild (s.startCopy h d) g :=
  ⟨by rw [State.startCopy, State.evalStarvation_axes]; rfl, by rw [State.startCopy, State.evalStarvation_bands]; exact id⟩

theorem State.refuseGrant_mild (s : State) (h g : HeadId) (d : Descriptor) : s.Mild (s.refuseGrant h d) g := by
  have hleft : s.Mild { s with store := (s.store.grantFront h).giveBack d.pages } g := ⟨rfl, id⟩
  unfold State.refuseGrant
  dsimp only
  split
  · exact hleft
  · next b _ =>
    by_cases e : g = h
    · subst e
      refine ⟨?_, fun _ hw => ?_⟩
      · exact (State.abortClosed_mild _ g g b _ _ _).known.trans rfl
      · rw [State.abortClosed, State.dwellIdle_bands, State.endPending_waiting] at hw
        cases hw
    · have hset : s.Mild (({ s with store := (s.store.grantFront h).giveBack d.pages } : State).setActive h none) g :=
        hleft.trans ((Local.setActive _ h none).others g e).mild
      exact hset.trans (State.abortClosed_mild _ h g b _ _ _)

/-- The arbiter's decision is mild to every head. -/
theorem State.arbitrateUpTo_mild (s : State) (tries : Nat) (g : HeadId) : s.Mild (s.arbitrateUpTo tries) g := by
  induction tries generalizing s with
  | zero => exact .refl s g
  | succ tries ih =>
    unfold State.arbitrateUpTo
    split
    · exact .refl s g
    · exact .refl s g
    · split
      · exact .refl s g
      · split
        · exact s.startCopy_mild _ g _
        · exact (s.refuseGrant_mild _ g _).trans (ih _)

theorem State.arbitrate_mild (s : State) (g : HeadId) : s.Mild s.arbitrate g := s.arbitrateUpTo_mild 5 g

theorem State.stopFetch_mild (s : State) (h g : HeadId) : s.Mild (s.stopFetch h) g := by
  unfold State.stopFetch
  dsimp only
  split
  · exact ⟨rfl, id⟩
  · refine State.Mild.trans ?_ (State.arbitrate_mild _ g)
    exact ⟨rfl, id⟩

/-- An abort of another head's band. -/
theorem State.abortActive_mild (s : State) {h g : HeadId} (ne : g ≠ h) (cause : Cause) (detail : Option CauseDetail)
    (order : Retire) : s.Mild (s.abortActive h cause detail order false) g := by
  unfold State.abortActive
  split
  · exact .refl s g
  · exact (((Local.setActive s h none).others g ne).mild.trans (State.stopFetch_mild _ h g)).trans
      (State.abortClosed_mild _ h g _ _ _ _)

theorem State.readyLost_mild (s : State) {h g : HeadId} (ne : g ≠ h) : s.Mild (s.readyLost h) g :=
  ((s.immediateRetract_local h).trans (.updAxis _ h fun a => a.lost .readyLost)).others g ne |>.mild.trans
    (State.abortActive_mild _ ne ..)

/-! ### A head in a READY_LOST -/

/-- An immediate retract leaves a lawful head PARKED at level and depth 0, with no ramp and no cell to come (R92). -/
theorem Head.immediate_parked {x : Head} (lawful : x.outputsLawful) :
    x.immediate.1.state = .parked ∧ x.immediate.1.level = 0 ∧ x.immediate.1.depth = 0 ∧ x.immediate.1.ramp = none ∧
      x.immediate.1.nextCell = none := by
  obtain ⟨hlevel, hcut, hramp, -, -⟩ := lawful
  unfold Head.immediate
  cases e : x.state
  · obtain ⟨hdepth, hnext⟩ := hcut (by simp [e])
    exact ⟨e, hlevel e, hdepth, by simpa [e] using hramp, hnext⟩
  all_goals exact ⟨rfl, rfl, rfl, rfl, rfl⟩

/-- What a READY_LOST leaves of a head. -/
structure State.Stopped (t : State) (h : HeadId) (known : Option Nat) : Prop where
  head : (t.heads.get h).state = .parked ∧ (t.heads.get h).level = 0 ∧ (t.heads.get h).depth = 0 ∧
    (t.heads.get h).ramp = none ∧ (t.heads.get h).nextCell = none
  axis : (t.axes.get h).state = .unhomed ∧ (t.axes.get h).lastFault = .readyLost ∧ (t.axes.get h).position = none ∧
    (t.axes.get h).move = none ∧ (t.axes.get h).feed = none
  known : (t.axes.get h).lastKnown = known
  idle : t.active h = none
  alone : (t.bands.get h).waiting = none

theorem State.SameAt.stopped {known : Option Nat} (e : s.SameAt t h) (p : s.Stopped h known) : t.Stopped h known :=
  ⟨by rw [e.head]; exact p.head, by rw [e.axis]; exact p.axis, by rw [e.axis]; exact p.known, e.active.trans p.idle,
    by rw [e.bands]; exact p.alone⟩

theorem Axis.lost_stops (a : Axis) : (a.lost .readyLost).state = .unhomed ∧ (a.lost .readyLost).lastFault = .readyLost ∧
    (a.lost .readyLost).position = none ∧ (a.lost .readyLost).move = none ∧ (a.lost .readyLost).feed = none :=
  ⟨rfl, rfl, rfl, rfl, rfl⟩

/-- The records of the bands of a head, as tag, class and cause. -/
def State.ended (s : State) (h : HeadId) : List (Nat × ResultClass × Cause) :=
  (s.bands.get h).results.map fun r => (r.tag, r.cls, r.cause)

theorem State.readyLost_stops (lawful : ∀ g, (s.heads.get g).outputsLawful) (follows : (s.bands.get h).pendingFollows) :
    (s.readyLost h).Stopped h (s.axes.get h).known ∧ (s.readyLost h).ended h = s.ended h ++
      (s.bands.get h).active.toList.map (fun b => (b.tag, .aborted, .machineNotReady)) ++
      (s.bands.get h).waiting.toList.map fun b => (b.tag, .aborted, .precedingAbort) := by
  obtain ⟨w, hw⟩ : ∃ w, w = (s.immediateRetract h).updAxis h fun a => a.lost .readyLost := ⟨_, rfl⟩
  have hlost : s.readyLost h = w.abortActive h .machineNotReady none .immediate false := by rw [hw]; rfl
  have heases := s.immediateRetract_eases h
  have haxis : w.axes.get h = ((s.immediateRetract h).axes.get h).lost .readyLost := by rw [hw]; simp
  have hbands : w.bands = (s.immediateRetract h).bands := by rw [hw]; rfl
  have hheads : w.heads = (s.immediateRetract h).heads := by rw [hw]; rfl
  have hknown : (w.axes.get h).lastKnown = (s.axes.get h).known := by rw [haxis]; exact heases.known
  cases hb : s.active h with
  | none =>
    have hwait : (s.bands.get h).waiting = none := by
      cases hq : (s.bands.get h).waiting with
      | none => rfl
      | some p =>
        have hsome := follows (by rw [hq]; rfl)
        rw [show (s.bands.get h).active = none from hb] at hsome
        cases hsome
    have hidle : w.active h = none := by
      have := heases.active
      rw [hb, Option.map_none, Option.map_eq_none_iff] at this
      rw [State.active, hbands]; exact this
    have hkeep : s.readyLost h = w := by rw [hlost, State.abortActive, hidle]
    have hhead : w.heads.get h = (s.heads.get h).immediate.1 := by
      rw [hheads, State.immediateRetract_idle hb, State.updHead_get_same]
      unfold Head.parkedNow Head.immediate
      cases (s.heads.get h).state <;> rfl
    rw [hkeep]
    refine ⟨⟨by rw [hhead]; exact Head.immediate_parked (lawful h), by rw [haxis]; exact Axis.lost_stops _, hknown, hidle,
      by rw [hbands]; exact heases.waiting.trans hwait⟩, ?_⟩
    rw [State.ended, hbands, heases.results, show (s.bands.get h).active = none from hb, hwait]
    simp [State.ended]
  | some b =>
    obtain ⟨c, hc, htag⟩ : ∃ c, w.active h = some c ∧ c.tag = b.tag := by
      have := heases.active
      rw [hb, Option.map_some, Option.map_eq_some_iff] at this
      obtain ⟨c, hc, htag⟩ := this
      exact ⟨c, by rw [State.active, hbands]; exact hc, htag⟩
    have e := State.abortActive_ends hc .machineNotReady none (order := .immediate) (by decide) false
    rw [← hlost] at e
    have hlawful : (w.heads.get h).outputsLawful := by rw [hheads]; exact (s.immediateRetract_works h).moves.keeps .heads lawful h
    have hend : (w.axes.get h).endOrder false = w.axes.get h := by rw [haxis, Axis.lost_endOrder]
    refine ⟨⟨by rw [e.head]; exact Head.immediate_parked hlawful, by rw [e.axis, hend, haxis]; exact Axis.lost_stops _,
      by rw [e.axis, hend]; exact hknown, by rw [State.active, e.bands], by rw [e.bands]⟩, ?_⟩
    have hd : (w.discarding h c).tag = b.tag := by unfold State.discarding; split <;> exact htag
    rw [State.ended, e.bands, hbands, heases.results, heases.waiting, show (s.bands.get h).active = some b from hb]
    simp only [List.map_append, List.map_cons, List.map_map, Band.recorded, hd, State.ended, Option.toList_some, List.map_nil,
      List.append_assoc]
    rfl

end Sys2Proof.Machine
end

section
/-! READY_LOST as it is handed to every fitted head, and the alarms that pull heads back. -/

namespace Sys2Proof.Machine

variable {s t u : State} {h g : HeadId}

/-- A head that is not fitted is not reached by an event that reaches each fitted head alone. -/
theorem State.forFitted_unfitted {f : HeadId → State → State} (works : ∀ g (u : State), u.SameBoard (f g u))
    (one : ∀ g (u : State), u.fetch.copy = none → State.Local g u (f g u)) (free : s.fetch.copy = none)
    (unfit : s.fitted h = false) : s.SameAt (s.forFitted f) h := by
  unfold State.forFitted
  refine (List.foldlRecOn (motive := fun u => s.SameAt u h ∧ s.SameBoard u ∧ u.fetch.copy = none) heads4 _
    ⟨.refl s h, .refl s, free⟩ fun u hu g _ => ?_).1
  obtain ⟨hsame, hboard, hfree⟩ := hu
  split
  · next fit =>
    have ne : h ≠ g := fun e => by
      rw [← e, State.fitted, hboard.ctu] at fit
      exact absurd (unfit.symm.trans fit) (by simp)
    exact ⟨hsame.trans ((one g u hfree).others h ne), hboard.trans (works g u), (one g u hfree).copy.trans hfree⟩
  · exact ⟨hsame, hboard, hfree⟩

/-- The heads that an alarm acts on (R155). -/
theorem actedMask_getLsbD (x : Slot) (fitted : Nat) {k : Nat} (hk : k < 8) : (actedMask x fitted).getLsbD k =
    decide ((x.action = .retract ∨ x.action = .retractFast) ∧ k < fitted ∧ x.mask.getLsbD k = true) := by
  unfold actedMask
  cases x.action
  case none => simp [AlarmAction.retracts]
  case notify => simp [AlarmAction.retracts]
  all_goals
    have hmask : (fittedMask fitted).getLsbD k = decide (k < fitted) := by
      rw [fittedMask, BitVec.getLsbD_ofNat, Nat.testBit_two_pow_sub_one]
      simp [hk]
    rw [AlarmAction.retracts, if_pos rfl, BitVec.getLsbD_and, hmask, Bool.and_comm]
    simp

theorem State.elapse_acting (s : State) (n : Nat) : (s.elapse n).ctu.acting = s.ctu.acting := by
  unfold State.elapse
  split <;> rfl

/-- READY_LOST handed to every fitted head: each is stopped at its turn, and no later turn reaches a head with no band. -/
theorem State.readyLost_all (lawful : ∀ g, (s.heads.get g).outputsLawful) (follows : (s.bands.get h).pendingFollows)
    (fit : s.fitted h = true) :
    (s.forFitted fun h u => u.readyLost h).Stopped h (s.axes.get h).known ∧
      (s.fetch.copy = none → (s.forFitted fun h u => u.readyLost h).ended h = s.ended h ++
        (s.bands.get h).active.toList.map (fun b => (b.tag, .aborted, .machineNotReady)) ++
        (s.bands.get h).waiting.toList.map fun b => (b.tag, .aborted, .precedingAbort)) := by
  refine State.forFitted_at
    (P := fun u => u.fitted h = true ∧ (∀ g, (u.heads.get g).outputsLawful) ∧ s.Mild u h ∧
      (s.fetch.copy = none → s.SameAt u h ∧ u.fetch.copy = none))
    (Q := fun t => t.Stopped h (s.axes.get h).known ∧ (s.fetch.copy = none → t.ended h = s.ended h ++
        (s.bands.get h).active.toList.map (fun b => (b.tag, .aborted, .machineNotReady)) ++
        (s.bands.get h).waiting.toList.map fun b => (b.tag, .aborted, .precedingAbort)))
    ⟨fit, lawful, .refl s h, fun free => ⟨.refl s h, free⟩⟩ (fun u hu => hu.1) (fun g u ne hu => ?_) (fun u hu => ?_)
    (fun g t ne ht => ?_)
  · obtain ⟨hfit, hlaw, hmild, hfree⟩ := hu
    have hworks := u.readyLost_works g
    refine ⟨?_, hworks.moves.keeps .heads hlaw, hmild.trans (u.readyLost_mild (Ne.symm ne)), fun free => ?_⟩
    · rw [State.fitted, hworks.moves.board.ctu]; exact hfit
    · obtain ⟨hsame, hcopy⟩ := hfree free
      have hone := State.readyLost_local hcopy g
      exact ⟨hsame.trans (hone.others h (Ne.symm ne)), hone.copy.trans hcopy⟩
  · obtain ⟨-, hlaw, hmild, hfree⟩ := hu
    obtain ⟨hstops, hended⟩ := State.readyLost_stops hlaw (hmild.follows follows)
    refine ⟨hmild.known ▸ hstops, fun free => ?_⟩
    rw [hended, State.ended, State.ended, (hfree free).1.bands]
  · obtain ⟨hstops, hended⟩ := ht
    have hsame := (t.readyLost_works g).moves.spares h (Ne.symm ne) hstops.idle
    refine ⟨hsame.stopped hstops, fun free => ?_⟩
    rw [State.ended, hsame.bands]
    exact hended free

/-! ### Retract alarms -/

/-- A retract order reports parked or nothing. -/
theorem Head.retract_report (x : Head) (now : Nat) : (x.retract now).2 ≠ .engaged := by
  have start : ∀ y : Head, (y.startRamp .retracting 0 now).2 ≠ .engaged := fun y => by
    unfold Head.startRamp
    dsimp only
    split <;> exact fun e => by cases e
  unfold Head.retract
  cases x.state
  · exact fun e => by cases e
  · exact start _
  · exact start _
  · exact start _
  · exact start _
  · exact fun e => by cases e

/-- A retract order to a head with no band. -/
theorem State.retractOrder_idle (idle : s.active h = none) :
    s.retractOrder h = s.updHead h fun _ => ((s.heads.get h).retract s.clock).1 := by
  rw [State.retractOrder]
  have hidle : (s.updHead h fun _ => ((s.heads.get h).retract s.clock).1).active h = none := idle
  cases e : ((s.heads.get h).retract s.clock).2 with
  | none => rfl
  | engaged => exact absurd e (Head.retract_report _ _)
  | parked => exact State.onParked_idle hidle

/-- What a retract alarm leaves of a head. -/
structure State.PulledBack (t : State) (h : HeadId) (fast : Bool) : Prop where
  inhibit : (t.heads.get h).inhibit = true
  idle : t.active h = none
  back : (t.heads.get h).state = .parked ∨ (t.heads.get h).state = .retracting
  fast : fast = true → (t.heads.get h).state = .parked

theorem State.SameAt.pulledBack {fast : Bool} (e : s.SameAt t h) (p : s.PulledBack h fast) : t.PulledBack h fast :=
  ⟨by rw [e.head]; exact p.inhibit, e.active.trans p.idle, by rw [e.head]; exact p.back, fun f => by rw [e.head]; exact p.fast f⟩

/-- The two retract orders that an alarm gives. -/
def Head.pulled (x : Head) (fast : Bool) (now : Nat) : Head := x.retire (if fast then .immediate else .retract) now

theorem Head.pulled_state (x : Head) (fast : Bool) (now : Nat) :
    ((x.pulled fast now).state = .parked ∨ (x.pulled fast now).state = .retracting) ∧
      (fast = true → (x.pulled fast now).state = .parked) := by
  cases fast
  · exact ⟨x.retract_state now, fun e => by cases e⟩
  · exact ⟨.inl x.immediate_state, fun _ => x.immediate_state⟩

theorem Head.startRamp_inhibit (x : Head) (state : HeadState) (target now : Nat) :
    (x.startRamp state target now).1.inhibit = x.inhibit := by
  unfold Head.startRamp Head.rampEnd
  dsimp only
  split
  · cases state
    case engaging => dsimp only; split <;> rfl
    all_goals rfl
  · rfl

theorem Head.pulled_inhibit (x : Head) (fast : Bool) (now : Nat) : (x.pulled fast now).inhibit = x.inhibit := by
  cases fast
  · show (x.retract now).1.inhibit = x.inhibit
    unfold Head.retract
    cases x.state
    · rfl
    · exact Head.startRamp_inhibit ..
    · exact Head.startRamp_inhibit ..
    · exact Head.startRamp_inhibit ..
    · exact Head.startRamp_inhibit ..
    · rfl
  · show x.immediate.1.inhibit = x.inhibit
    unfold Head.immediate
    cases x.state <;> rfl

/-- The orders of a retract alarm to a head, before its band ends. -/
def State.alarmOrders (s : State) (fast : Bool) (h : HeadId) : State :=
  (if fast then s.immediateRetract h else s.retractOrder h).updHead h fun x => { x with inhibit := true }

theorem State.alarmOn_eq (s : State) (slot : Nat) (fast : Bool) (h : HeadId) : s.alarmOn slot fast h =
    (s.alarmOrders fast h).abortActive h .alarm (some (.slot slot)) (if fast then .immediate else .retract) false := rfl

theorem State.alarmOrders_eases (s : State) (fast : Bool) (h : HeadId) : s.Eases (s.alarmOrders fast h) h := by
  cases fast
  · exact (s.retractOrder_eases h).trans (.updHead ..)
  · exact (s.immediateRetract_eases h).trans (.updHead ..)

theorem State.alarmOrders_idle (idle : s.active h = none) (fast : Bool) :
    (s.alarmOrders fast h).heads.get h = { (s.heads.get h).pulled fast s.clock with inhibit := true } := by
  cases fast
  · have := State.retractOrder_idle idle
    simp only [State.alarmOrders, this]
    simp [Head.pulled, Head.retire]
  · have := State.immediateRetract_idle idle
    simp only [State.alarmOrders, this]
    simp only [if_true, State.updHead_get_same, Head.pulled, Head.retire, Head.parkedNow, Head.immediate]
    cases (s.heads.get h).state <;> rfl

/-- A retract alarm at its head's turn. -/
theorem State.alarmOn_pulls (s : State) (slot : Nat) (fast : Bool) (h : HeadId) :
    (s.alarmOn slot fast h).PulledBack h fast ∧
      ∀ b, s.active h = some b → (s.bands.get h).waiting = none →
        ∃ r, ((s.alarmOn slot fast h).bands.get h).results = (s.bands.get h).results ++ [r] ∧ r.tag = b.tag ∧
          r.cls = .aborted ∧ r.cause = .alarm ∧ r.detail = some (.slot slot) := by
  have heases := s.alarmOrders_eases fast h
  rw [State.alarmOn_eq]
  cases hb : s.active h with
  | none =>
    have hidle : (s.alarmOrders fast h).active h = none := by
      have := heases.active
      rwa [hb, Option.map_none, Option.map_eq_none_iff] at this
    rw [State.abortActive, hidle]
    obtain ⟨hback, hfast⟩ := (s.heads.get h).pulled_state fast s.clock
    have hhead := State.alarmOrders_idle hb fast
    exact ⟨⟨by rw [hhead], hidle, by rw [hhead]; exact hback, fun f => by rw [hhead]; exact hfast f⟩, fun b e => by cases e⟩
  | some b =>
    obtain ⟨c, hc, htag⟩ : ∃ c, (s.alarmOrders fast h).active h = some c ∧ c.tag = b.tag := by
      have := heases.active
      rwa [hb, Option.map_some, Option.map_eq_some_iff] at this
    have hinhibit : ((s.alarmOrders fast h).heads.get h).inhibit = true := by simp [State.alarmOrders]
    have e := State.abortActive_ends hc .alarm (some (.slot slot)) (order := if fast then .immediate else .retract)
      (by cases fast <;> decide) false
    obtain ⟨hback, hfast⟩ := ((s.alarmOrders fast h).heads.get h).pulled_state fast (s.alarmOrders fast h).clock
    have hhead : ((s.alarmOrders fast h).abortActive h .alarm (some (.slot slot)) (if fast then .immediate else .retract)
        false).heads.get h = ((s.alarmOrders fast h).heads.get h).pulled fast (s.alarmOrders fast h).clock := e.head
    refine ⟨⟨by rw [hhead, Head.pulled_inhibit]; exact hinhibit, by rw [State.active, e.bands], by rw [hhead]; exact hback,
      fun f => by rw [hhead]; exact hfast f⟩, fun b' hb' alone => ?_⟩
    obtain rfl : b = b' := Option.some.inj hb'
    have hd : ((s.alarmOrders fast h).discarding h c).tag = b.tag := by unfold State.discarding; split <;> exact htag
    refine ⟨((s.alarmOrders fast h).discarding h c).recorded h .aborted .alarm (some (.slot slot))
      (s.alarmOrders fast h).ctu.revs (s.alarmOrders fast h).timestamp
      (((s.alarmOrders fast h).axes.get h).endOrder false).reported, ?_, hd, rfl, rfl, rfl⟩
    rw [e.bands, heases.waiting, alone, heases.results]
    rfl

/-- A retract alarm handed to every fitted head that its mask names. -/
theorem State.alarmAll_pulls {i : Fin 16} {x : Slot} (retracts : x.action.retracts = true) (fit : s.fitted h = true)
    (mask : masked x.mask h = true) : (s.alarmAll i x).PulledBack h (decide (x.action = .retractFast)) ∧
      ∀ b, s.active h = some b → s.fetch.copy = none → (s.bands.get h).waiting = none →
        ∃ r, ((s.alarmAll i x).bands.get h).results = (s.bands.get h).results ++ [r] ∧ r.tag = b.tag ∧
          r.cls = .aborted ∧ r.cause = .alarm ∧ r.detail = some (.slot i.val) := by
  rw [State.alarmAll, if_pos retracts]
  refine State.forFitted_at
    (P := fun u => u.fitted h = true ∧ (s.fetch.copy = none → s.SameAt u h ∧ u.fetch.copy = none))
    (Q := fun t => t.PulledBack h (decide (x.action = .retractFast)) ∧
      ∀ b, s.active h = some b → s.fetch.copy = none → (s.bands.get h).waiting = none →
        ∃ r, (t.bands.get h).results = (s.bands.get h).results ++ [r] ∧ r.tag = b.tag ∧
          r.cls = .aborted ∧ r.cause = .alarm ∧ r.detail = some (.slot i.val))
    ⟨fit, fun free => ⟨.refl s h, free⟩⟩ (fun u hu => hu.1) (fun g u ne hu => ?_) (fun u hu => ?_) (fun g t ne ht => ?_)
  · obtain ⟨hfit, hfree⟩ := hu
    split
    · refine ⟨?_, fun free => ?_⟩
      · rw [State.fitted, (u.alarmOn_works _ _ g).moves.board.ctu]; exact hfit
      · obtain ⟨hsame, hcopy⟩ := hfree free
        have hone := State.alarmOn_local hcopy i.val (decide (x.action = .retractFast)) g
        exact ⟨hsame.trans (hone.others h (Ne.symm ne)), hone.copy.trans hcopy⟩
    · exact ⟨hfit, hfree⟩
  · obtain ⟨hpulled, hrecord⟩ := u.alarmOn_pulls i.val (decide (x.action = .retractFast)) h
    rw [if_pos mask]
    refine ⟨hpulled, fun b hb free alone => ?_⟩
    obtain ⟨hsame, -⟩ := hu.2 free
    rw [← hsame.bands]
    exact hrecord b (hsame.active.trans hb) (by rw [hsame.bands]; exact alone)
  · split
    · have hsame := (t.alarmOn_works i.val (decide (x.action = .retractFast)) g).moves.spares h (Ne.symm ne) ht.1.idle
      exact ⟨hsame.pulledBack ht.1, by rw [hsame.bands]; exact ht.2⟩
    · exact ht

end Sys2Proof.Machine

open Sys2Proof Sys2Proof.Machine

/-- Settles O29: each fitted head is stopped at its turn; a copy in flight lets the arbiter reach a head before its turn, but
not what its axis knows, nor that a pending band follows an active one. -/
theorem readyLostStopsEverything : Obligations.ReadyLostStopsEverything := by
  intro s low ready lawful follows
  have differ : ¬s.pins.readyLine = s.ctu.ready := by simp [low, ready]
  obtain ⟨n, hn⟩ : ∃ n, n = 10000 - s.ctu.debounce := ⟨_, rfl⟩
  obtain ⟨p, hp⟩ : ∃ p, p = ({ s.elapse n with ctu := { (s.elapse n).ctu with ready := false, debounce := 0 } } : State).postCylinder
    .readyLost := ⟨_, rfl⟩
  have hline : (s.elapse n).pins.readyLine = false := by rw [State.elapse_pins]; exact low
  obtain ⟨t, ht⟩ : ∃ t, t = p.forFitted fun h u => u.readyLost h := ⟨_, rfl⟩
  have hexec : exec .readyDebounceExpiry s = .next t.settled := by
    simp only [exec, execReadyDebounceExpiry, if_neg differ, debounceLimit, ← hn, State.takeReady, hline, ht, hp]
    rfl
  have hheads : ∀ g, p.heads.get g = (s.heads.get g).elapse n := fun g => by rw [hp]; exact s.elapse_heads n g
  have hbands : p.bands = s.bands := by rw [hp]; exact s.elapse_bands n
  have haxes : p.axes = s.axes := by rw [hp]; exact s.elapse_axes n
  have hfetch : p.fetch = s.fetch := by rw [hp]; exact s.elapse_fetch n
  have hctu : p.ctu = { (s.elapse n).ctu with ready := false, debounce := 0 } := by rw [hp]; rfl
  have hready : p.ctu.ready = false := by rw [hctu]
  have hacting : p.ctu.acting = s.ctu.acting := by
    rw [hctu]
    exact s.elapse_acting n
  have hfit : ∀ h, p.fitted h = s.fitted h := fun h => by rw [State.fitted, State.fitted, hacting]
  refine ⟨_, hexec, ?_, fun h fit => ?_, fun free h unfit => ?_⟩
  · rw [State.settled_ctu, ht, (State.forFitted_runs (fun g u => (u.readyLost_works g).runs) p).board.ctu, hready]
  · obtain ⟨hstops, hended⟩ := State.readyLost_all (s := p) (h := h) (fun g => by rw [hheads]; exact Head.elapse_lawful (lawful g) n)
      (by rw [hbands]; exact follows h) ((hfit h).trans fit)
    rw [haxes, ← ht] at hstops
    rw [← ht] at hended
    rw [State.ended, State.ended, hbands, hfetch] at hended
    obtain ⟨hstate, hlevel, hdepth, hramp, hnext⟩ := hstops.head
    obtain ⟨haxis, hfault, hposition, hmove, hfeed⟩ := hstops.axis
    exact ⟨hstate, hlevel, hdepth, hramp, hnext, haxis, hfault, hposition, hmove, hfeed, hstops.known, hstops.idle,
      hstops.alone, hended⟩
  · have hsame := State.forFitted_unfitted (s := p) (h := h) (f := fun h u => u.readyLost h)
      (fun g u => (u.readyLost_works g).moves.board) (fun g u hu => State.readyLost_local hu g) (by rw [hfetch]; exact free)
      ((hfit h).trans unfit)
    rw [State.settled_bands, State.settled_axes, ht, hsame.bands, hsame.axis, hbands, haxes]
    exact ⟨rfl, rfl⟩

/-- Settles O60: the entry is posted before the action, which no head's operation reaches; then each head that the alarm names
is pulled back at its turn. -/
theorem alarmsLatchAndAct : Obligations.AlarmsLatchAndAct := by
  intro v c n run x acted s t hc ht hn hx hrun out full clear acts hacted
  have hmonitor : t.monitor = s.monitor := by rw [ht, s.reach_eq]
  have hbands : t.bands = s.bands := by rw [ht, s.reach_eq]
  have haxes : t.axes = s.axes := by rw [ht, s.reach_eq]
  have hfetch : t.fetch = s.fetch := by rw [ht, s.reach_eq]
  have hacting : t.ctu.acting = s.ctu.acting := by rw [ht]; exact s.elapse_acting _
  have hrevs : t.ctu.revs = s.ctu.revs := by rw [ht, State.reach, State.elapse]; split <;> rfl
  have hslot : t.monitor.slot c.slot = x := by rw [hmonitor, hx]; rfl
  have hvalue : convertedValue c.slot v = n := hn.symm
  obtain ⟨y, hy⟩ : ∃ y : Slot, y = { x with value := some n, valueTime := some t.timestamp, run := run } := ⟨_, rfl⟩
  have hconv : x.converted n t.timestamp = y := by
    have hin : x.inRange n = false := by
      rw [Bool.eq_false_iff, Ne, Slot.inRange_iff]; omega
    rw [hy, hrun, Slot.converted, hin]
    rfl
  have hlatches : y.latches n = true := by
    rw [Slot.latches_iff, hy]
    have hout : ¬(x.low ≤ n ∧ n ≤ x.high) := by omega
    exact ⟨hout, full, clear, acts⟩
  have hjudge : t.judgeConversion c.slot n = (t.alarmPosted c.slot y n).alarmAll c.slot y := by
    rw [State.judgeConversion, hslot, hconv, if_pos hlatches, State.latchAlarm_eq]
  have hexec := exec_conversionComplete v hc ht
  rw [hvalue] at hexec
  obtain ⟨p, hp⟩ : ∃ p, p = t.alarmPosted c.slot y n := ⟨_, rfl⟩
  rw [← hp] at hjudge
  rw [hjudge] at hexec
  have hmask : actedMask y t.ctu.acting.fitted = acted := by
    refine BitVec.eq_of_getLsbD_eq fun k hk => ?_
    rw [hacted k hk, hacting, hy]
    exact actedMask_getLsbD x s.ctu.acting.fitted hk
  have hboard := (State.alarmAll_runs p c.slot y).board
  have hpmonitor : (p.monitor.slots.get c.slot) = { y with latched := true } := by
    rw [hp, State.alarmPosted]
    simp only [State.setMonitor, State.post, Monitor.slots_setSlot, if_true]
  have hpentry : (p.link.entry (.alarm c.slot)).content =
      some (.alarm n x.low x.high run x.action x.mask acted t.timestamp s.ctu.revs) := by
    rw [hp, State.alarmPosted, ← hmask, ← hrevs, hy]
    exact Link.post_content ..
  refine ⟨_, hexec, ?_, ?_, fun notify => ?_, fun h retracts fit mask => ?_⟩
  · obtain ⟨hslots, -, -, -⟩ := (p.alarmAll c.slot y).monitor.follow_keeps c.slot (p.alarmAll c.slot y).clock
    have : ((p.alarmAll c.slot y).monitor.follow c.slot (p.alarmAll c.slot y).clock).slots.get c.slot =
        { y with latched := true } := by rw [hslots, hboard.monitor, hpmonitor]
    exact congrArg Slot.latched this
  · rw [State.settled_content]
    exact (congrArg NoticeEntry.content (hboard.entries (.alarm c.slot) rfl)).trans hpentry
  · have hnone : p.alarmAll c.slot y = p := if_neg (by rw [hy]; simp [AlarmAction.retracts, notify])
    rw [hnone, hp, ← hbands, ← haxes]
    exact ⟨rfl, rfl, rfl⟩
  · have hretracts : y.action.retracts = true := by
      rw [hy]
      obtain e | e := retracts <;> simp [e, AlarmAction.retracts]
    have hfit : p.fitted h = true := by
      rw [hp]
      exact (congrArg (fun a : Acting => decide (h.val < a.fitted)) hacting).trans fit
    have haction : y.action = x.action := by rw [hy]
    obtain ⟨hpulled, hrecord⟩ := State.alarmAll_pulls (s := p) (h := h) (i := c.slot) hretracts hfit (by rw [hy]; exact mask)
    rw [haction] at hpulled
    have hpbands : p.bands = s.bands := by rw [hp, ← hbands]; rfl
    have hpfetch : p.fetch = s.fetch := by rw [hp, ← hfetch]; rfl
    rw [hpbands, hpfetch, State.active, hpbands] at hrecord
    exact ⟨hpulled.inhibit, hpulled.idle, hpulled.back, fun fast => hpulled.fast (decide_eq_true fast), hrecord⟩
end

section
/-! The activation of a band (R128, R129): the card that its actions leave, and the first look behind them. -/

namespace Sys2Proof.Machine

variable {s t u : State} {h g : HeadId} {b c : Band} {x y : Head} {a z : Axis} {start now : Nat}

/-! ### The card with a band, a head and an axis in place -/

/-- The card with a band active on head h, and a head and an axis. -/
def State.placed (s : State) (h : HeadId) (c : Band) (y : Head) (z : Axis) : State :=
  { s with
    bands := s.bands.set h { s.bands.get h with active := some c }
    heads := s.heads.set h y
    axes := s.axes.set h z }

theorem State.placed_active (s : State) (h : HeadId) (c : Band) (y : Head) (z : Axis) :
    (s.placed h c y z).active h = some c := by simp [State.placed, State.active]

theorem State.placed_bands (s : State) (h : HeadId) (c : Band) (y : Head) (z : Axis) :
    (s.placed h c y z).bands.get h = { s.bands.get h with active := some c } := by simp [State.placed]

theorem State.placed_head (s : State) (h : HeadId) (c : Band) (y : Head) (z : Axis) :
    (s.placed h c y z).heads.get h = y := by simp [State.placed]

theorem State.placed_axis (s : State) (h : HeadId) (c : Band) (y : Head) (z : Axis) :
    (s.placed h c y z).axes.get h = z := by simp [State.placed]

theorem State.placed_updHead (s : State) (h : HeadId) (c : Band) (y : Head) (z : Axis) (f : Head → Head) :
    (s.placed h c y z).updHead h f = s.placed h c (f y) z := by simp [State.placed, State.updHead]

theorem State.placed_updAxis (s : State) (h : HeadId) (c : Band) (y : Head) (z : Axis) (f : Axis → Axis) :
    (s.placed h c y z).updAxis h f = s.placed h c y (f z) := by simp [State.placed, State.updAxis]

/-- The other heads, and all but the band, the head and the axis, are as before. -/
theorem State.placed_local (s : State) (h : HeadId) (c : Band) (y : Head) (z : Axis) : State.Local h s (s.placed h c y z) :=
  ⟨fun g ne => ⟨by simp [State.placed, ne], by simp [State.placed, ne], by simp [State.placed, ne], rfl, rfl, rfl, rfl,
    fun _ _ => rfl⟩, rfl⟩

theorem State.placed_board (s : State) (h : HeadId) (c : Band) (y : Head) (z : Axis) : s.SameBoard (s.placed h c y z) :=
  ⟨rfl, rfl, rfl, rfl, rfl, rfl, rfl, rfl, rfl, rfl, fun _ _ => rfl⟩

/-! ### Orders on that card -/

theorem State.placed_engageOrder {now : Nat} (hnow : s.clock = now) (quiet : (y.engage now).2 = .none) :
    (s.placed h c y z).engageOrder h = s.placed h c (y.engage now).1 z := by
  subst hnow
  rw [State.engageOrder_quiet (by rw [State.placed_head]; exact quiet), State.placed_updHead, State.placed_head]
  rfl

theorem State.placed_positionOrder_engaging {f : FeedContext} (hf : z.feed = some f) (stage : f.stage = .hold)
    (phase : c.phase = .engaging) : (s.placed h c y z).positionOrder h = s.placed h c y z := by
  have hstart : (s.placed h c y z).onAtStart h = s.placed h c y z := by
    rw [State.onAtStart, State.placed_active]
    exact if_neg (by rw [phase]; decide)
  rw [State.positionOrder, State.placed_axis, hf]
  simp only [stage, hstart]

theorem State.placed_positionOrder {f : FeedContext} {now : Nat} (hnow : s.clock = now) (hf : z.feed = some f)
    (stage : f.stage = .positioning) (away : z.pos ≠ f.start) :
    (s.placed h c y z).positionOrder h = s.placed h c y (z.drive (z.moveTo f.start now)) := by
  subst hnow
  rw [State.positionOrder, State.placed_axis, hf]
  simp only [stage, if_neg away, State.placed_updAxis]
  rfl

/-- A retracting order reports parked exactly when it leaves the head PARKED. -/
theorem Head.retract_reported (engaged : x.state ≠ .parked) (now : Nat) :
    (x.retract now).2 = if (x.retract now).1.state = .parked then .parked else .none := by
  have start : ∀ v : Head, (v.startRamp .retracting 0 now).2 =
      if (v.startRamp .retracting 0 now).1.state = .parked then .parked else .none := fun v => by
    unfold Head.startRamp
    dsimp only
    split <;> simp [Head.rampEnd]
  unfold Head.retract
  cases e : x.state
  · exact absurd e engaged
  · exact start _
  · exact start _
  · exact start _
  · exact start _
  · simp [e]

/-- The retract order to a head whose band is POSITIONING: once it is PARKED the axis starts its move. -/
theorem State.placed_retractOrder {f : FeedContext} {now : Nat} (hnow : s.clock = now) (phase : c.phase = .positioning)
    (hf : z.feed = some f) (stage : f.stage = .positioning) (away : z.pos ≠ f.start) (engaged : y.state ≠ .parked) :
    (s.placed h c y z).retractOrder h = s.placed h c (y.retract now).1
      (if (y.retract now).1.state = .parked then z.drive (z.moveTo f.start now) else z) := by
  subst hnow
  have hretract : (s.placed h c y z).retractOrder h =
      (s.placed h c (y.retract s.clock).1 z).onReport h (y.retract s.clock).2 := by
    rw [State.retractOrder, State.placed_head, State.placed_updHead]
    rfl
  rw [hretract, Head.retract_reported engaged]
  split
  · have hparked := State.onParked_positioning (s := s.placed h c (y.retract s.clock).1 z) (State.placed_active ..) phase
      (by rw [State.placed_axis]; exact hf) stage (by rw [State.placed_axis]; exact away)
    rw [State.onReport_parked, hparked, State.placed_updAxis]
    rfl
  · rfl

/-! ### The phase and the orders of R129 -/

/-- An engage order to a head that is not READY reports nothing, unless it is at LE already and need not settle. -/
theorem Head.engage_still (notReady : x.state ≠ .ready)
    (slow : x.settings.settle ≠ 0 ∨ x.level ≠ x.settings.level) (now : Nat) : (x.engage now).2 = .none := by
  have start : (x.startRamp .engaging x.settings.level now).2 = .none := by
    unfold Head.startRamp
    dsimp only
    split
    · next same => simp [Head.rampEnd, slow.resolve_right (not_not.mpr same)]
    · rfl
  unfold Head.engage
  cases e : x.state
  · exact start
  · rfl
  · rfl
  · exact absurd e notReady
  · rfl
  · exact start

theorem Head.startRamp_keeps (x : Head) (state : HeadState) (target now : Nat) :
    (x.startRamp state target now).1.context = x.context ∧ (x.startRamp state target now).1.table = x.table ∧
      (x.startRamp state target now).1.level = x.level := by
  unfold Head.startRamp Head.rampEnd
  dsimp only
  split
  · cases state
    case engaging => dsimp only; split <;> exact ⟨rfl, rfl, rfl⟩
    all_goals exact ⟨rfl, rfl, rfl⟩
  · exact ⟨rfl, rfl, rfl⟩

theorem Head.engage_keeps (x : Head) (now : Nat) :
    (x.engage now).1.context = x.context ∧ (x.engage now).1.table = x.table ∧ (x.engage now).1.level = x.level := by
  unfold Head.engage
  cases x.state
  · exact x.startRamp_keeps ..
  · exact ⟨rfl, rfl, rfl⟩
  · exact ⟨rfl, rfl, rfl⟩
  · exact ⟨rfl, rfl, rfl⟩
  · exact ⟨rfl, rfl, rfl⟩
  · exact x.startRamp_keeps ..

theorem Head.retract_keeps (x : Head) (now : Nat) :
    (x.retract now).1.context = x.context ∧ (x.retract now).1.table = x.table ∧ (x.retract now).1.level = x.level := by
  unfold Head.retract
  cases x.state
  · exact ⟨rfl, rfl, rfl⟩
  · exact x.startRamp_keeps ..
  · exact Head.startRamp_keeps { x with settleTimer := none } ..
  · exact Head.startRamp_keeps { x with dwellTimer := none } ..
  · exact Head.startRamp_keeps { x with depth := 0, nextCell := none } ..
  · exact ⟨rfl, rfl, rfl⟩

/-- The phase of R129. -/
def startPhase (x : Head) (a : Axis) (start : Nat) : Phase :=
  if a.pos ≠ start then .positioning else if x.state = .ready then .waitSync else .engaging

/-- What the orders of R129 make of a head `x` and an axis `a` that has been taken into FEEDING. -/
structure OrdersTaken (x y : Head) (a z : Axis) (start now : Nat) : Prop where
  context : y.context = x.context
  table : y.table = x.table
  level : y.level = x.level
  axis : z = { a with move := z.move, outputs := z.outputs }
  orders : ordersGiven x y a z start now

/-- The head engages or holds, with the carriage in place. -/
theorem OrdersTaken.inPlace (here : a.pos = start) (still : a.move = none) (kept : y.context = x.context ∧ y.table = x.table ∧
      y.level = x.level)
    (ready : x.state = .ready → y.state = .ready ∧ y.dwellTimer = none)
    (engages : (x.state = .parked ∨ x.state = .retracting) → x.engages y now)
    (goes : (x.state = .engaging ∨ x.state = .settling) → y = x) : OrdersTaken x y a a start now := by
  obtain ⟨hcontext, htable, hlevel⟩ := kept
  refine ⟨hcontext, htable, hlevel, rfl, fun _ => ⟨still, rfl, fun hr => ?_, engages, fun hg => ?_⟩, fun away => absurd here away⟩
  · obtain ⟨hs, hd⟩ := ready hr
    exact ⟨hs, hlevel, hd⟩
  · rw [goes hg]
    exact ⟨rfl, rfl, rfl, rfl⟩

/-- The head retracts, and the axis of a PARKED one moves, with the carriage away. -/
theorem OrdersTaken.away (away : a.pos ≠ start) (still : a.move = none) :
    OrdersTaken x (x.retract now).1 a
      (if (x.retract now).1.state = .parked then a.drive (a.moveTo start now) else a) start now := by
  obtain ⟨hcontext, htable, hlevel⟩ := x.retract_keeps now
  refine ⟨hcontext, htable, hlevel, ?_, fun here => absurd here away, fun _ => ⟨x.retract_retracts now, fun hs => ?_, fun hs => ?_⟩⟩
  · split <;> rfl
  · rw [if_neg hs]
    exact ⟨still, rfl⟩
  · rw [if_pos hs, Axis.moveTo_away away]
    exact ⟨rfl, rfl⟩

/-- Actions 4 of an activation: the table of R129, on a card whose axis has been taken into FEEDING. -/
theorem State.beginPhase_placed {f : FeedContext} (hf : (s.axes.get h).feed = some f) (hstart : f.start = b.start)
    (hstage : f.stage = if (s.axes.get h).pos = b.start then .hold else .positioning) (still : (s.axes.get h).move = none)
    (notCutting : (s.heads.get h).state ≠ .cutting)
    (slow : (s.heads.get h).state = .ready ∨ (s.heads.get h).settings.settle ≠ 0 ∨
      (s.heads.get h).level ≠ (s.heads.get h).settings.level) :
    ∃ y z, s.beginPhase h b (decide ((s.axes.get h).pos = b.start)) =
        s.placed h { b with phase := startPhase (s.heads.get h) (s.axes.get h) b.start } y z ∧
      OrdersTaken (s.heads.get h) y (s.axes.get h) z b.start s.clock := by
  have henter : ∀ p, s.enter h b p = s.placed h { b with phase := p } (s.heads.get h) (s.axes.get h) := fun p => by
    simp [State.enter, State.placed, State.setActive, State.updBands]
  by_cases here : (s.axes.get h).pos = b.start
  · have hhold : f.stage = .hold := hstage.trans (if_pos here)
    have hphase : startPhase (s.heads.get h) (s.axes.get h) b.start =
        if (s.heads.get h).state = .ready then .waitSync else .engaging := if_neg (not_not.mpr here)
    rw [hphase, decide_eq_true here]
    by_cases hready : (s.heads.get h).state = .ready
    · refine ⟨{ s.heads.get h with dwellTimer := none }, s.axes.get h, ?_, .inPlace here still ⟨rfl, rfl, rfl⟩
        (fun _ => ⟨hready, rfl⟩) (fun e => by simp [hready] at e) fun e => by simp [hready] at e⟩
      rw [if_pos hready]
      simp only [State.beginPhase, hready, henter, State.placed_updHead]
    · have hquiet := Head.engage_still hready (slow.resolve_left hready) s.clock
      refine ⟨((s.heads.get h).engage s.clock).1, s.axes.get h, ?_, .inPlace here still (Head.engage_keeps _ _)
        (fun e => absurd e hready) (Head.engage_engages _ _) fun e => ?_⟩
      · rw [if_neg hready]
        have horder : (s.enter h b .engaging).engageOrder h = s.placed h { b with phase := .engaging }
            ((s.heads.get h).engage s.clock).1 (s.axes.get h) := by rw [henter, State.placed_engageOrder rfl hquiet]
        have hposition : ((s.enter h b .engaging).positionOrder h) = s.enter h b .engaging := by
          rw [henter, State.placed_positionOrder_engaging hf hhold rfl]
        unfold State.beginPhase
        cases e : (s.heads.get h).state
        · simp only [hposition, horder]
        · exact horder
        · exact horder
        · exact absurd e hready
        · exact absurd e notCutting
        · exact horder
      · unfold Head.engage
        obtain e | e := e <;> rw [e]
  · have hpos : f.stage = .positioning := hstage.trans (if_neg here)
    have hphase : startPhase (s.heads.get h) (s.axes.get h) b.start = .positioning := if_pos here
    rw [hphase, decide_eq_false here]
    refine ⟨_, _, ?_, .away here still⟩
    have hmove := State.placed_positionOrder (s := s) (h := h) (c := { b with phase := .positioning }) (y := s.heads.get h) rfl
      hf hpos (by rw [hstart]; exact here)
    have hretract := State.placed_retractOrder (s := s) (h := h) (c := { b with phase := .positioning }) (y := s.heads.get h) rfl
      rfl hf hpos (by rw [hstart]; exact here)
    rw [hstart] at hmove hretract
    unfold State.beginPhase
    cases e : (s.heads.get h).state
    · have hstay : ((s.heads.get h).retract s.clock).1 = s.heads.get h := by simp [Head.retract, e]
      simp only [henter, hmove, hstay, e, if_true]
    · simp only [henter, hretract (by simp [e])]
    · simp only [henter, hretract (by simp [e])]
    · simp only [henter, hretract (by simp [e])]
    · exact absurd e notCutting
    · have hstay : ((s.heads.get h).retract s.clock).1 = s.heads.get h := by simp [Head.retract, e]
      simp only [henter, hstay, e]
      rfl

end Sys2Proof.Machine
end

section
/-! An activated band, and the first look or fill behind its activation (R72, R83, R128). -/

namespace Sys2Proof.Machine

variable {s t u : State} {h g : HeadId} {b c : Band} {x y : Head} {a z : Axis}

/-- What the activation of a band makes of its head and its axis (R27, R43, R118, R129). -/
structure State.Prepares (s : State) (h : HeadId) (b : Band) (y : Head) (z : Axis) : Prop where
  context : y.context = some (PlacementContext.build b.screen (s.screen b.screen) (s.ctu.lastPeriod.getD 0))
  table : y.table = some (DepthTable.build b.curve (s.curve b.curve) (s.heads.get h).settings.calibration)
  level : y.level = (s.heads.get h).level
  axis : z = { (s.axes.get h).takeFor b (s.screen b.screen) with move := z.move, outputs := z.outputs }
  orders : ordersGiven (s.heads.get h) y (s.axes.get h) z b.start s.clock

/-- The band as its activation makes it active. -/
def State.started (s : State) (h : HeadId) (b : Band) : Band :=
  { b with phase := startPhase (s.heads.get h) (s.axes.get h) b.start }

/-- Actions 2 to 4 of an activation (R128). -/
theorem State.prepareBand_placed (notCutting : (s.heads.get h).state ≠ .cutting)
    (slow : (s.heads.get h).state = .ready ∨ (s.heads.get h).settings.settle ≠ 0 ∨
      (s.heads.get h).level ≠ (s.heads.get h).settings.level) :
    ∃ y z, s.prepareBand h b = s.placed h (s.started h b) y z ∧ s.Prepares h b y z := by
  obtain ⟨u, hu⟩ : ∃ u, u = (s.updHead h fun y => y.prepare
    (PlacementContext.build b.screen (s.screen b.screen) (s.ctu.lastPeriod.getD 0))
    (DepthTable.build b.curve (s.curve b.curve) y.settings.calibration)).updAxis h fun a => a.takeFor b (s.screen b.screen) := ⟨_, rfl⟩
  have hhead : u.heads.get h = (s.heads.get h).prepare
      (PlacementContext.build b.screen (s.screen b.screen) (s.ctu.lastPeriod.getD 0))
      (DepthTable.build b.curve (s.curve b.curve) (s.heads.get h).settings.calibration) := by rw [hu]; simp
  have haxis : u.axes.get h = (s.axes.get h).takeFor b (s.screen b.screen) := by rw [hu]; simp
  obtain ⟨f, hf, hstart, hstage⟩ : ∃ f, (u.axes.get h).feed = some f ∧ f.start = b.start ∧
      f.stage = if (u.axes.get h).pos = b.start then .hold else .positioning := by
    rw [haxis]; exact ⟨_, rfl, rfl, rfl⟩
  obtain ⟨y, z, hphase, horders⟩ := State.beginPhase_placed hf hstart hstage (by rw [haxis]; rfl) (by rw [hhead]; exact notCutting)
    (by rw [hhead]; exact slow)
  have hprepare : s.prepareBand h b = u.beginPhase h b (decide ((u.axes.get h).pos = b.start)) := by rw [haxis, hu]; rfl
  have hclock : u.clock = s.clock := by rw [hu]; rfl
  have hplaced : ∀ c, u.placed h c y z = s.placed h c y z := fun c => by
    rw [hu]; simp [State.placed, State.updHead, State.updAxis]
  rw [hhead, haxis] at hphase horders
  rw [hclock] at horders
  refine ⟨y, z, ?_, horders.context, horders.table, horders.level, horders.axis, horders.orders⟩
  rw [hprepare, haxis, hphase, hplaced]
  rfl

/-! ### The first look -/

theorem State.evalStarvation_entries (s : State) (h : HeadId) {id : NoticeId} (ne : id ≠ .starving h) :
    (s.evalStarvation h).link.entry id = s.link.entry id := by
  unfold State.evalStarvation
  split
  · rfl
  · dsimp only
    split
    · split
      · rfl
      · split
        · rfl
        · exact Link.entry_post_ne _ _ ne
    · rfl

@[simp] theorem State.evalStarvation_queues (s : State) (h : HeadId) :
    (s.evalStarvation h).store.queues = s.store.queues := by
  obtain ⟨x, l, e⟩ := s.evalStarvation_eq h; rw [e]

theorem staleFront_nil (m : Nat) : staleFront m [] = [] := rfl

/-- A look at an empty queue finds nothing (R72). -/
theorem State.look_empty (empty : s.store.queues.get h = []) (m : Nat) : s.look h m = s := by
  have hdiscard : s.discardStale h m = s := by
    rw [State.discardStale, empty, staleFront_nil]; rfl
  have heligible : s.eligibleFor h = none := by
    unfold State.eligibleFor
    rw [empty]
    split
    · next e => simp at e
    · rfl
    · rfl
  rw [State.look, hdiscard, heligible]

theorem State.wants_active {m : Nat} (hw : s.wants h = some (b, m)) : s.active h = some b := by
  unfold State.wants at hw
  split at hw
  · cases hw
  · next hb =>
    dsimp only at hw
    split at hw
    · obtain ⟨rfl, -⟩ := Prod.mk.inj (Option.some.inj hw); exact hb
    · cases hw

/-- For a STORE band with an empty queue only the starvation state is evaluated (R58, R66). -/
theorem State.service_empty (hb : s.active h = some b) (store : b.source = .store) (empty : s.store.queues.get h = []) :
    s.service h = s.evalStarvation h := by
  unfold State.service
  dsimp only
  split
  · rfl
  · next b' m hw =>
    obtain rfl : b = b' := Option.some.inj (hb.symm.trans ((s.evalStarvation_active h h).symm.trans (State.wants_active hw)))
    rw [store]
    exact State.look_empty (by rw [State.evalStarvation_queues]; exact empty) m

/-- The next track of a PATCH band is filled when its STANDBY is EMPTY (R83). -/
theorem State.service_patch (hb : s.active h = some b) (patch : b.source = .patch) : s.service h = s.evalStarvation h ∨
    ∃ m, s.service h = (s.evalStarvation h).startFill h m := by
  unfold State.service
  dsimp only
  split
  · exact .inl rfl
  · next b' m hw =>
    obtain rfl : b = b' := Option.some.inj (hb.symm.trans ((s.evalStarvation_active h h).symm.trans (State.wants_active hw)))
    rw [patch]
    exact .inr ⟨m, rfl⟩

/-- What a look at an empty queue, or the start of a fill, leaves of its head: the head, the axis, the bands and the queue,
and every entry but STARVING. -/
structure State.Looks (s t : State) (h : HeadId) : Prop where
  board : s.SameBoard t
  reach : State.Local h s t
  heads : t.heads = s.heads
  axes : t.axes = s.axes
  bands : t.bands = s.bands
  queues : t.store.queues = s.store.queues
  entries : ∀ id : NoticeId, id ≠ .starving h → t.link.entry id = s.link.entry id

theorem State.evalStarvation_looks (s : State) (h : HeadId) : s.Looks (s.evalStarvation h) h :=
  ⟨(s.evalStarvation_works h).moves.board, s.evalStarvation_local h, s.evalStarvation_heads h, s.evalStarvation_axes h,
    s.evalStarvation_bands h, s.evalStarvation_queues h, fun _ => s.evalStarvation_entries h⟩

theorem State.Looks.trans (a : s.Looks t h) (b : t.Looks u h) : s.Looks u h :=
  ⟨a.board.trans b.board, a.reach.trans b.reach, b.heads.trans a.heads, b.axes.trans a.axes, b.bands.trans a.bands,
    b.queues.trans a.queues, fun id ne => (b.entries id ne).trans (a.entries id ne)⟩

theorem State.startFill_looks (s : State) (h : HeadId) (m : Nat) : s.Looks (s.startFill h m) h := by
  refine State.Looks.trans (t := ({ s with fetch := { s.fetch with
    fills := s.fetch.fills.set h (some (s.clock + ceilDiv (s.contextN h) 256)) } } : State).setStandby h
    (.loading ⟨m, .patch, s.contextN h⟩)) ?_ (State.evalStarvation_looks _ h)
  exact ⟨⟨rfl, rfl, rfl, rfl, rfl, rfl, rfl, rfl, rfl, rfl, fun _ _ => rfl⟩,
    ⟨fun g ne => ⟨rfl, rfl, rfl, by simp [State.setStandby, ne], rfl, rfl, by simp [State.setStandby, ne], fun _ _ => rfl⟩, rfl⟩,
    rfl, rfl, rfl, rfl, fun _ _ => rfl⟩

theorem State.service_looks (hb : s.active h = some b) (empty : s.store.queues.get h = []) : s.Looks (s.service h) h := by
  cases source : b.source with
  | store => rw [State.service_empty hb source empty]; exact s.evalStarvation_looks h
  | patch =>
    obtain e | ⟨m, e⟩ := State.service_patch hb source
    · rw [e]; exact s.evalStarvation_looks h
    · rw [e]; exact (s.evalStarvation_looks h).trans (State.startFill_looks _ h m)

/-! ### The activation as a whole -/

/-- From `s` to `t` the band `b` has become active on head h, with the actions of R128. -/
structure State.Starts (s t : State) (h : HeadId) (b : Band) : Prop where
  prepares : s.Prepares h b (t.heads.get h) (t.axes.get h)
  bands : t.bands.get h = { s.bands.get h with active := some (s.started h b) }
  board : s.SameBoard t
  reach : State.Local h s t
  queue : t.store.queues.get h = s.store.queues.get h
  entries : ∀ id : NoticeId, id ≠ .starving h → t.link.entry id = s.link.entry id
  store : b.source = .store → t.buffers = s.buffers ∧ t.fetch = s.fetch

/-- A prepared band whose axis is not on its limit switch is looked after at once (action 5 of R128). -/
theorem State.afterActivation_off (off : s.pins.limitSwitch.get h = false) : s.afterActivation h = s.service h := by
  rw [State.afterActivation, State.limitCheck_off (by simp [State.onLimit, off])]

/-- An activation with an empty queue and the limit switch inactive (R128). -/
theorem State.activate_starts (notCutting : (s.heads.get h).state ≠ .cutting)
    (slow : (s.heads.get h).state = .ready ∨ (s.heads.get h).settings.settle ≠ 0 ∨
      (s.heads.get h).level ≠ (s.heads.get h).settings.level)
    (off : s.pins.limitSwitch.get h = false) (empty : s.store.queues.get h = []) : s.Starts (s.activate h b) h b := by
  obtain ⟨y, z, hplaced, hprepares⟩ := State.prepareBand_placed (s := s) (h := h) (b := b) notCutting slow
  have hactive := s.placed_active h (s.started h b) y z
  have hactivate : s.activate h b = (s.placed h (s.started h b) y z).service h := by
    rw [State.activate, hplaced, State.afterActivation_off (s := s.placed h (s.started h b) y z) off]
  have hlooks := State.service_looks (s := s.placed h (s.started h b) y z) hactive empty
  rw [hactivate]
  refine ⟨?_, ?_, (s.placed_board h _ y z).trans hlooks.board, (s.placed_local h _ y z).trans hlooks.reach, ?_, hlooks.entries,
    fun store => ?_⟩
  · rw [hlooks.heads, hlooks.axes, State.placed_head, State.placed_axis]; exact hprepares
  · rw [hlooks.bands, State.placed_bands]
  · rw [hlooks.queues]; rfl
  · rw [State.service_empty hactive store empty, State.evalStarvation_buffers, State.evalStarvation_fetch]
    exact ⟨rfl, rfl⟩

/-! ### A band handed on at an orderly end (R142) -/

/-- An activation check looks at the cylinder, the screen, and the settings of the head and the axis alone (R127). -/
theorem State.activationFailure_congr (ctu : t.ctu = s.ctu) (screens : t.screens = s.screens)
    (head : (t.heads.get h).settings = (s.heads.get h).settings) (axis : (t.axes.get h).settings = (s.axes.get h).settings)
    (b : Band) : t.activationFailure h b = s.activationFailure h b := by
  have hscreen : ∀ i, t.screen i = s.screen i := fun i => by rw [State.screen, State.screen, screens]
  rw [State.activationFailure_eq, State.activationFailure_eq, ctu, head, axis, hscreen]

end Sys2Proof.Machine
end

section
/-! A band that ends in order, and the pending band that is handed on (R140, R142). -/

namespace Sys2Proof.Machine

variable {s t u w : State} {h : HeadId} {b p : Band} {q : BandSequencer} {x : Head} {a : Axis} {rs : List ResultRecord}

theorem Head.uncut_settings (x : Head) : x.uncut.settings = x.settings := by
  unfold Head.uncut; cases x.state <;> rfl

theorem Head.uncut_notCutting (x : Head) : x.uncut.state ≠ .cutting := by
  unfold Head.uncut
  cases e : x.state
  case cutting => exact fun e => by cases e
  all_goals rw [e]; exact fun e => by cases e

theorem Axis.endOrder_settings (a : Axis) (atBoundary : Bool) : (a.endOrder atBoundary).settings = a.settings := by
  have hclose : (if atBoundary then a.closeRevolution else a).settings = a.settings := by
    cases atBoundary
    · rfl
    · rw [Axis.closeRevolution_eq]; rfl
  unfold Axis.endOrder
  dsimp only
  generalize (if atBoundary then a.closeRevolution else a) = c at hclose ⊢
  split <;> exact hclose

/-- A band that was never active leaves the pending place with a record (R141). -/
theorem State.Ends.leave (e : s.Ends t h ⟨none, some p, rs⟩ x a) (cls : ResultClass) (cause : Cause)
    (detail : Option CauseDetail) :
    s.Ends ((t.updBands h fun q => { q with waiting := none }).fileNeverActive h p cls cause detail) h
      ⟨none, none, rs ++ [p.recorded h cls cause detail s.ctu.revs s.timestamp none]⟩ x a := by
  have hboard : s.SameBoard ((t.updBands h fun q => { q with waiting := none }).fileNeverActive h p cls cause detail) :=
    e.board.trans ((State.Moves.updBands t h _).trans (State.file_moves _ h _)).board
  refine ⟨hboard, ?_, e.head, e.axis, e.buffers, e.queue, e.fed, State.file_posted .., fun id hid ne =>
    (State.file_entries _ _ _ ne).trans (e.entries id hid ne)⟩
  have hrecord : ∀ f, (t.updBands h f).record h p cls cause detail none =
      p.recorded h cls cause detail s.ctu.revs s.timestamp none := fun f => by
    rw [State.record_eq, State.updBands_ctu, e.board.ctu]
    exact congrArg (p.recorded h cls cause detail s.ctu.revs · none) e.board.timestamp
  simp only [State.fileNeverActive, State.file_bands, hrecord]
  simp [e.bands]

/-- The pending place of an ended band is emptied. -/
theorem State.Ends.unwait (e : s.Ends t h ⟨none, some p, rs⟩ x a) :
    s.Ends (t.updBands h fun q => { q with waiting := none }) h ⟨none, none, rs⟩ x a := by
  have hbands : ((t.updBands h fun q => { q with waiting := none }).bands.get h) = ⟨none, none, rs⟩ := by simp [e.bands]
  refine ⟨e.board.trans (State.Moves.updBands t h _).board, hbands, e.head, e.axis, e.buffers, e.queue, e.fed, ?_, e.entries⟩
  obtain ⟨r, hr, hc⟩ := e.posted
  rw [e.bands] at hr hc
  exact ⟨r, by rw [hbands]; exact hr, by rw [hbands]; exact hc⟩

section
variable (e : s.Ends t h ⟨none, some p, rs⟩ x a) (head : x.settings = (s.heads.get h).settings)
  (axis : a.settings = (s.axes.get h).settings)
include e head axis

theorem State.Ends.activationFailure (f : BandSequencer → BandSequencer) :
    (t.updBands h f).activationFailure h p = s.activationFailure h p :=
  State.activationFailure_congr e.board.ctu e.board.screens ((congrArg Head.settings e.head).trans head)
    ((congrArg Axis.settings e.axis).trans axis) p

/-- A pending band whose activation check fails (R142). -/
theorem State.Ends.handOn_fails {r : Reason} (fails : s.activationFailure h p = some r) :
    s.Ends (t.handOn h) h ⟨none, none, rs ++ [p.recorded h .aborted .activation (some (.reason r)) s.ctu.revs s.timestamp none]⟩
      x a := by
  have hw : (t.bands.get h).waiting = some p := by rw [e.bands]
  have hfail := e.activationFailure head axis fun q => { q with waiting := none }
  rw [fails] at hfail
  have hleave := e.leave .aborted .activation (some (.reason r))
  have hhand : t.handOn h = (t.updBands h fun q => { q with waiting := none }).fileNeverActive h p .aborted .activation
      (some (.reason r)) := by
    simp only [State.handOn, hw, hfail]
  rw [hhand]
  exact hleave

/-- A pending band that passes the activation checks (R142). -/
theorem State.Ends.handOn_passes (passes : s.activationFailure h p = none) :
    t.handOn h = (t.updBands h fun q => { q with waiting := none }).activate h p := by
  have hw : (t.bands.get h).waiting = some p := by rw [e.bands]
  have hpass := e.activationFailure head axis fun q => { q with waiting := none }
  rw [passes] at hpass
  simp only [State.handOn, hw, hpass]

end

/-! ### The orderly end with a pending band -/

theorem State.finishActive_eq (hb : s.active h = some b) (cls : ResultClass) (cause : Cause) (atBoundary : Bool) :
    s.finishActive h cls cause atBoundary = ((((s.setActive h none).stopFetch h).closeBand h (s.discarding h b) cls cause none
      .release atBoundary).handOn h).dwellIdle h := by
  rw [State.finishActive, hb]
  simp only [State.withDiscard_eq]

/-- The record of an orderly end. -/
def State.finishRecord (s : State) (h : HeadId) (b : Band) (cls : ResultClass) (cause : Cause) (atBoundary : Bool) :
    ResultRecord :=
  (s.discarding h b).recorded h cls cause none s.ctu.revs s.timestamp ((s.axes.get h).endOrder atBoundary).reported

theorem State.closeActive_pending (s : State) (h : HeadId) (b : Band) (wait : (s.bands.get h).waiting = some p)
    (cls : ResultClass) (cause : Cause) (atBoundary : Bool) :
    s.Ends (((s.setActive h none).stopFetch h).closeBand h (s.discarding h b) cls cause none .release atBoundary) h
      ⟨none, some p, (s.bands.get h).results ++ [s.finishRecord h b cls cause atBoundary]⟩ (s.heads.get h).uncut
      ((s.axes.get h).endOrder atBoundary) := by
  have e := s.closeActive_ends h b cls cause none .release atBoundary
  rw [wait] at e
  exact e

/-- An orderly end behind which the pending band cannot start (R142). -/
theorem State.finishActive_fails (hb : s.active h = some b) (wait : (s.bands.get h).waiting = some p) (cls : ResultClass)
    (cause : Cause) (atBoundary : Bool) {r : Reason} (fails : s.activationFailure h p = some r) :
    s.Ends (s.finishActive h cls cause atBoundary) h
      ⟨none, none, (s.bands.get h).results ++ [s.finishRecord h b cls cause atBoundary,
        p.recorded h .aborted .activation (some (.reason r)) s.ctu.revs s.timestamp none]⟩
      ((s.heads.get h).uncut.dwell s.clock).1 ((s.axes.get h).endOrder atBoundary) := by
  have e := (s.closeActive_pending h b wait cls cause atBoundary).handOn_fails (Head.uncut_settings _)
    (Axis.endOrder_settings _ _) fails
  rw [List.append_assoc] at e
  rw [State.finishActive_eq hb]
  exact e.dwellIdle rfl

/-- An orderly end behind which the pending band starts at once (R142). -/
theorem State.finishActive_passes (hb : s.active h = some b) (wait : (s.bands.get h).waiting = some p) (cls : ResultClass)
    (cause : Cause) (atBoundary : Bool) (passes : s.activationFailure h p = none) (empty : s.store.queues.get h = [])
    (off : s.pins.limitSwitch.get h = false)
    (slow : (s.heads.get h).uncut.state = .ready ∨ (s.heads.get h).uncut.settings.settle ≠ 0 ∨
      (s.heads.get h).uncut.level ≠ (s.heads.get h).uncut.settings.level) :
    ∃ w, s.Ends w h ⟨none, none, (s.bands.get h).results ++ [s.finishRecord h b cls cause atBoundary]⟩ (s.heads.get h).uncut
        ((s.axes.get h).endOrder atBoundary) ∧
      w.Starts (s.finishActive h cls cause atBoundary) h p := by
  have hclosed := s.closeActive_pending h b wait cls cause atBoundary
  have hhand := hclosed.handOn_passes (Head.uncut_settings _) (Axis.endOrder_settings _ _) passes
  have e := hclosed.unwait
  rw [State.finishActive_eq hb, hhand]
  generalize (((s.setActive h none).stopFetch h).closeBand h (s.discarding h b) cls cause none .release atBoundary).updBands h
    (fun q => { q with waiting := none }) = w at e ⊢
  have hstarts := State.activate_starts (s := w) (h := h) (b := p) (by rw [e.head]; exact Head.uncut_notCutting _)
    (by rw [e.head]; exact slow) (by rw [e.board.pins]; exact off) (by rw [e.queue]; exact empty)
  have hactive : (w.activate h p).active h = some (w.started h p) := congrArg BandSequencer.active hstarts.bands
  have hdwell : (w.activate h p).dwellIdle h = w.activate h p := by rw [State.dwellIdle, hactive]
  rw [hdwell]
  exact ⟨w, e, hstarts⟩

/-- BAND_END as a hand-on leaves it. -/
theorem State.Starts.endPosted (st : w.Starts t h p) (posted : w.endPosted h) : t.endPosted h := by
  obtain ⟨r, hr, hc⟩ := posted
  refine ⟨r, by rw [st.bands]; exact hr, ?_⟩
  rw [st.entries (.bandEnd h) (by simp), st.bands]
  exact hc

theorem State.Starts.emptiesBuffers (st : w.Starts t h p) (store : p.source = .store) (empties : s.emptiesBuffers w h) :
    s.emptiesBuffers t h := by
  rw [State.emptiesBuffers, (st.store store).1]; exact empties

/-- The phase in which a band is handed on, seen from the card before the end. -/
theorem State.Ends.started (e : s.Ends w h q x a) (p : Band) : w.started h p = { p with phase := startPhase x a p.start } := by
  rw [State.started, e.head, e.axis]

/-- The orders of R129 look at where an axis stands, its outputs and its settings alone. -/
theorem ordersGiven_congr {y : Head} {c z : Axis} {start now : Nat} (position : c.position = a.position)
    (outputs : c.outputs = a.outputs) (settings : c.settings = a.settings) (g : ordersGiven x y c z start now) :
    ordersGiven x y a z start now := by
  unfold ordersGiven at g ⊢
  rw [position, outputs, settings] at g
  exact g

/-- What a hand-on leaves of its head: the band that follows in the phase of R129, and the orders of R129 to the head `x`
and the axis `a` that the end left. -/
structure State.HandsOn (s t : State) (h : HeadId) (rs : List ResultRecord) (x : Head) (a : Axis) (p : Band) : Prop where
  bands : t.bands.get h = ⟨some { p with phase := startPhase x a p.start }, none, rs⟩
  orders : ordersGiven x (t.heads.get h) a (t.axes.get h) p.start s.clock
  state : (t.axes.get h).state = .feeding
  position : (t.axes.get h).position = a.position
  feed : (t.axes.get h).feed = some ⟨p.tag, p.feed, p.start, (s.screen p.screen).gap, (s.screen p.screen).pitch,
    if a.position.getD 0 = p.start then .hold else .positioning, false, none⟩
  posted : t.endPosted h
  empties : p.source = .store → s.emptiesBuffers t h

theorem State.Ends.handsOn (e : s.Ends w h ⟨none, none, rs⟩ x a) (st : w.Starts t h p) : s.HandsOn t h rs x a p := by
  have horders := st.prepares.orders
  rw [e.head, e.axis, e.board.clock] at horders
  have haxis := st.prepares.axis
  have hscreen : w.screen p.screen = s.screen p.screen := by rw [State.screen, State.screen, e.board.screens]
  rw [e.axis, hscreen] at haxis
  refine ⟨?_, horders, ?_, ?_, ?_, st.endPosted e.posted, fun store => st.emptiesBuffers store e.buffers⟩
  · rw [st.bands, e.started, e.bands]
  · rw [haxis]; rfl
  · rw [haxis]; rfl
  · rw [haxis]; rfl

end Sys2Proof.Machine
end

section
/-! STOP_BAND, ABORT_BAND and READ_RESULT (R137, R138, R145). -/

namespace Sys2Proof.Machine

variable {s t u w : State} {h : HeadId} {b p : Band}

theorem twoBytes_head (h : HeadId) (c : Byte) : twoBytes (u8 h.val ++ [c]) = some (h.val, c.toNat) := by
  have hlt : h.val < 256 := Nat.lt_of_lt_of_le h.isLt (by decide)
  simp [twoBytes, u8, rd8, Nat.mod_eq_of_lt hlt]

theorem takeStopBand_active (hfit : s.fitted h = true) : takeStopBand (h.val, 0) s = stopActive h s := by
  simp only [takeStopBand, onFitted_of_fitted hfit]
  rfl

theorem takeStopBand_pending (hfit : s.fitted h = true) : takeStopBand (h.val, 1) s = stopPending h s := by
  simp only [takeStopBand, onFitted_of_fitted hfit]
  rfl

/-- A STOP outside CUTTING ends the band at once (R137). -/
theorem stopActive_ends (hb : s.active h = some b) (notCutting : b.phase ≠ .cutting) (held : b.phase ≠ .pending) :
    stopActive h s = (s.finishActive h .ended .stopRequest false, Response.ok (opt8 none)) := by
  rw [stopActive, hb]
  cases e : b.phase
  case cutting => exact absurd e notCutting
  case pending => exact absurd e held
  all_goals simp only [e]

theorem takeAbortBand_taken (hfit : s.fitted h = true) (hb : s.active h = some b) (immediate : Bool) :
    takeAbortBand (h.val, if immediate then 1 else 0) s =
      (s.abortActive h .abortRequest none (if immediate then .immediate else .retract) false, Response.ok []) := by
  have hflag : flagOf (if immediate then 1 else 0) = some immediate := by cases immediate <;> rfl
  rw [takeAbortBand]
  simp only [hflag, onFitted_of_fitted hfit, hb]

theorem takeAbortBand_none (hfit : s.fitted h = true) (hb : s.active h = none) (immediate : Bool) :
    takeAbortBand (h.val, if immediate then 1 else 0) s = (s, Response.refused .noBand []) := by
  have hflag : flagOf (if immediate then 1 else 0) = some immediate := by cases immediate <;> rfl
  rw [takeAbortBand]
  simp only [hflag, onFitted_of_fitted hfit, hb]

/-- A pending band that ends alone (R137, R141). -/
theorem State.endPending_cancels (hp : (s.bands.get h).waiting = some p) (cls : ResultClass) (cause : Cause) :
    (s.endPending h cls cause).bands.get h = ⟨(s.bands.get h).active, none,
        (s.bands.get h).results ++ [p.recorded h cls cause none s.ctu.revs s.timestamp none]⟩ ∧
      (s.endPending h cls cause).endPosted h ∧ (s.endPending h cls cause).heads = s.heads ∧
      (s.endPending h cls cause).axes = s.axes ∧ (s.endPending h cls cause).store = s.store ∧
      (s.endPending h cls cause).buffers = s.buffers ∧ (s.endPending h cls cause).fetch = s.fetch := by
  have hbands := s.endPending_bands h cls cause
  have hleft : s.endPending h cls cause =
      (s.updBands h fun q => { q with waiting := none }).fileNeverActive h p cls cause none := by
    simp only [State.endPending, hp]
  refine ⟨?_, ?_, ?_, ?_, ?_, ?_, ?_⟩
  · rw [hbands, Quad.get_set_same, hp]
    rfl
  · rw [hleft]
    exact State.file_posted ..
  all_goals rw [hleft]; rfl

/-! ### What the answer to a request leaves as it is -/

theorem State.endPosted_answered (p : t.endPosted h) (kind tag : Byte) (r : Response) :
    (t.respond kind tag r).settled.endPosted h :=
  State.endPosted_settled (t := t.respond kind tag r) p

theorem State.emptiesBuffers_answered (p : s.handed.emptiesBuffers t h) (kind tag : Byte) (r : Response) :
    s.emptiesBuffers (t.respond kind tag r).settled h := p

theorem Head.immediate_eq (x : Head) : x.immediate.1 = if x.state = .parked then x else { x with
    state := .parked, level := 0, depth := 0, ramp := none, settleTimer := none, dwellTimer := none, nextCell := none } := by
  unfold Head.immediate
  cases e : x.state
  · rw [if_pos rfl]
  all_goals exact (if_neg (by decide)).symm

theorem Axis.endOrder_idle {a : Axis} (homed : a.homed = true) (atBoundary : Bool) : (a.endOrder atBoundary).state = .idle := by
  rw [Axis.endOrder_homed homed]

theorem Axis.endOrder_within {a : Axis} (homed : a.homed = true) : (a.endOrder false).position = a.position ∧
    (a.endOrder false).outputs = a.outputs ∧ (a.endOrder false).settings = a.settings ∧
    (a.endOrder false).reported = a.position := by
  have hmap : a.position.map (fun p => p + 0) = a.position := by cases a.position <;> rfl
  rw [Axis.endOrder_homed homed]
  exact ⟨hmap, rfl, rfl, hmap⟩

/-! ### What each request runs as -/

/-- STOP_BAND with target ACTIVE runs as its owner takes it (R137). -/
theorem exec_stopBand_active (hfit : s.fitted h = true) (tag : Byte) (can : s.canHand ⟨0x21, tag, u8 h.val ++ [0]⟩ = true)
    {r : Response} (e : stopActive h s.handed = (t, r)) :
    exec (.stopBand tag (u8 h.val ++ [0])) s = .next (t.respond 0x21 tag r).settled :=
  State.request_done (owner := takeStopBand) can (twoBytes_head h 0) ((takeStopBand_active (s := s.handed) hfit).trans e)

/-- STOP_BAND with target PENDING runs as its owner takes it (R137). -/
theorem exec_stopBand_pending (hfit : s.fitted h = true) (tag : Byte) (can : s.canHand ⟨0x21, tag, u8 h.val ++ [1]⟩ = true)
    {r : Response} (e : stopPending h s.handed = (t, r)) :
    exec (.stopBand tag (u8 h.val ++ [1])) s = .next (t.respond 0x21 tag r).settled :=
  State.request_done (owner := takeStopBand) can (twoBytes_head h 1) ((takeStopBand_pending (s := s.handed) hfit).trans e)

/-- ABORT_BAND runs as its owner takes it (R138). -/
theorem exec_abortBand (hfit : s.fitted h = true) (tag : Byte) (immediate : Bool) (hb : s.active h = some b)
    (can : s.canHand ⟨0x22, tag, u8 h.val ++ [if immediate then 1 else 0]⟩ = true) :
    exec (.abortBand tag (u8 h.val ++ [if immediate then 1 else 0])) s =
      .next ((s.handed.abortActive h .abortRequest none (if immediate then .immediate else .retract) false).respond 0x22 tag
        (.ok [])).settled := by
  have hpay := twoBytes_head h (if immediate then 1 else 0)
  have hcode : (if immediate then (1 : Byte) else 0).toNat = if immediate then 1 else 0 := by cases immediate <;> rfl
  rw [hcode] at hpay
  exact State.request_done (owner := takeAbortBand) can hpay (takeAbortBand_taken (s := s.handed) hfit hb immediate)

/-- STOP_BAND in CUTTING waits for the next boundary (R137). -/
theorem stopActive_cutting (hb : s.active h = some b) (cutting : b.phase = .cutting) :
    stopActive h s = (s.stopCutting h b, Response.ok [1, 4]) := by
  rw [stopActive, hb]
  simp only [cutting]
  rfl

/-- The first STOP in CUTTING sets the flag and disarms the trigger (R137). -/
theorem exec_stopBand_fresh (hfit : s.fitted h = true) (tag : Byte) (can : s.canHand ⟨0x21, tag, u8 h.val ++ [0]⟩ = true)
    (hb : s.active h = some b) (cutting : b.phase = .cutting) (fresh : b.stopTaken = false) :
    exec (.stopBand tag (u8 h.val ++ [0])) s = .next { s with
      bands := s.bands.set h { s.bands.get h with active := some { b with stopTaken := true } }
      axes := s.axes.set h { s.axes.get h with feed := (s.axes.get h).feed.map fun x => { x with armed := false } }
      link := s.answered 0x21 tag ⟨.ok, none, [1, 4]⟩ } := by
  have hstop := stopActive_cutting (s := s.handed) hb cutting
  rw [State.stopCutting, if_neg (by simp [fresh])] at hstop
  rw [exec_stopBand_active hfit tag can hstop]
  rfl

/-- A further STOP in CUTTING changes nothing (R137). -/
theorem exec_stopBand_taken (hfit : s.fitted h = true) (tag : Byte) (can : s.canHand ⟨0x21, tag, u8 h.val ++ [0]⟩ = true)
    (hb : s.active h = some b) (cutting : b.phase = .cutting) (taken : b.stopTaken = true) :
    exec (.stopBand tag (u8 h.val ++ [0])) s = .next { s with link := s.answered 0x21 tag ⟨.ok, none, [1, 4]⟩ } := by
  have hstop := stopActive_cutting (s := s.handed) hb cutting
  rw [State.stopCutting, if_pos taken] at hstop
  rw [exec_stopBand_active hfit tag can hstop]
  rfl

/-- STOP_BAND outside CUTTING with no band pending (R137, R140). -/
theorem stopActive_alone (hb : s.active h = some b) (notCutting : b.phase ≠ .cutting) (held : b.phase ≠ .pending)
    (alone : (s.bands.get h).waiting = none) : ∃ t, stopActive h s = (t, Response.ok (opt8 none)) ∧
      s.endsBand t h (s.discarding h b) .ended .stopRequest false :=
  ⟨_, stopActive_ends hb notCutting held, (State.finishActive_ends hb alone .ended .stopRequest false).ends
    (by rw [if_neg (by decide)]; exact Head.release_releases _ _)⟩

/-- A hand-on looks at the axis's position, outputs and settings alone (R129). -/
theorem State.HandsOn.congr {rs : List ResultRecord} {x : Head} {a z : Axis} (e : s.HandsOn t h rs x z p)
    (position : z.position = a.position) (outputs : z.outputs = a.outputs) (settings : z.settings = a.settings) :
    s.HandsOn t h rs x a p := by
  have hphase : startPhase x z p.start = startPhase x a p.start := by rw [startPhase, startPhase, Axis.pos, position]; rfl
  obtain ⟨hbands, horders, hstate, hposition, hfeed, hposted, hempties⟩ := e
  rw [hphase] at hbands
  rw [position] at hposition hfeed
  exact ⟨hbands, ordersGiven_congr position outputs settings horders, hstate, hposition, hfeed, hposted, hempties⟩

/-- The record of a band that a STOP ends at once (R137, R144). -/
def State.stopRecord (s : State) (h : HeadId) (b : Band) : ResultRecord :=
  (s.discarding h b).recorded h .ended .stopRequest none s.ctu.revs s.timestamp (s.axes.get h).position

theorem State.finishRecord_stop (homed : (s.axes.get h).homed = true) (b : Band) :
    s.finishRecord h b .ended .stopRequest false = s.stopRecord h b := by
  rw [State.finishRecord, (Axis.endOrder_within homed).2.2.2]
  rfl

/-- STOP_BAND outside CUTTING before a pending band whose activation check fails (R137, R142). -/
theorem stopActive_fails (hb : s.active h = some b) (notCutting : b.phase ≠ .cutting) (held : b.phase ≠ .pending)
    (wait : (s.bands.get h).waiting = some p) (homed : (s.axes.get h).homed = true) {r : Reason}
    (fails : s.activationFailure h p = some r) : ∃ t, stopActive h s = (t, Response.ok (opt8 none)) ∧
      s.Ends t h ⟨none, none, (s.bands.get h).results ++ [s.stopRecord h b,
        p.recorded h .aborted .activation (some (.reason r)) s.ctu.revs s.timestamp none]⟩
        ((s.heads.get h).uncut.dwell s.clock).1 ((s.axes.get h).endOrder false) := by
  have e := State.finishActive_fails hb wait .ended .stopRequest false fails
  rw [State.finishRecord_stop homed] at e
  exact ⟨_, stopActive_ends hb notCutting held, e⟩

/-- STOP_BAND outside CUTTING before a pending band that is then active (R137, R142). -/
theorem stopActive_passes (hb : s.active h = some b) (notCutting : b.phase ≠ .cutting) (held : b.phase ≠ .pending)
    (wait : (s.bands.get h).waiting = some p) (homed : (s.axes.get h).homed = true)
    (passes : s.activationFailure h p = none) (empty : s.store.queues.get h = []) (off : s.pins.limitSwitch.get h = false)
    (still : (s.heads.get h).state ≠ .cutting)
    (slow : (s.heads.get h).settings.settle ≠ 0 ∨ (s.heads.get h).level ≠ (s.heads.get h).settings.level) :
    ∃ t, stopActive h s = (t, Response.ok (opt8 none)) ∧
      s.HandsOn t h ((s.bands.get h).results ++ [s.stopRecord h b]) (s.heads.get h) (s.axes.get h) p := by
  have huncut : (s.heads.get h).uncut = s.heads.get h := by
    unfold Head.uncut
    cases e : (s.heads.get h).state
    case cutting => exact absurd e still
    all_goals rfl
  obtain ⟨w, e, st⟩ := State.finishActive_passes hb wait .ended .stopRequest false passes empty off
    (.inr (huncut.symm ▸ slow))
  rw [huncut, State.finishRecord_stop homed] at e
  obtain ⟨hposition, houtputs, hsettings, -⟩ := Axis.endOrder_within homed
  exact ⟨_, stopActive_ends hb notCutting held, (e.handsOn st).congr hposition houtputs hsettings⟩

end Sys2Proof.Machine

open Sys2Proof Sys2Proof.Machine

/-- Settles O56: each request as its owner takes it, an end as the records of the bands that it ends, and a hand-on as the
activation of the pending band on the card that the end leaves. -/
theorem stopAbortAndReadResult : Obligations.StopAbortAndReadResult := by
  refine ⟨fun tag h b s hfit can hb => ⟨fun cutting fresh => ?_, fun cutting taken => ?_, fun notCutting held alone => ?_,
    fun p notCutting held wait homed => ⟨fun r fails => ?_, fun passes empty off still slow => ?_⟩⟩,
    fun tag h p s hfit can hp => ?_, fun tag h immediate b s hfit can hb => ?_, fun tag h r rest s hfit can hr => ?_,
    fun tag h s hfit => ⟨fun none_ can => ?_, fun none_ can => ?_, fun immediate none_ can => ?_, fun none_ can => ?_⟩⟩
  · exact exec_stopBand_fresh hfit tag can hb cutting fresh
  · exact exec_stopBand_taken hfit tag can hb cutting taken
  · obtain ⟨t, hstop, hidle, hhead, hhomed, hfeed, hbuffers, hposted, hrecord⟩ :=
      stopActive_alone (s := s.handed) hb notCutting held alone
    exact ⟨_, exec_stopBand_active hfit tag can hstop, hidle, hhead, hhomed, hfeed, hbuffers,
      State.endPosted_answered hposted .., hrecord⟩
  · obtain ⟨t, hstop, e⟩ := stopActive_fails (s := s.handed) hb notCutting held wait homed fails
    have hrel := (s.heads.get h).release_releases s.clock
    rw [← show t.heads.get h = ((s.heads.get h).uncut.dwell s.clock).1 from e.head] at hrel
    exact ⟨_, exec_stopBand_active hfit tag can hstop, congrArg BandSequencer.active e.bands,
      congrArg BandSequencer.waiting e.bands, (congrArg Axis.state e.axis).trans (Axis.endOrder_idle homed _), hrel, e.buffers,
      State.endPosted_answered e.posted .., congrArg BandSequencer.results e.bands⟩
  · obtain ⟨t, hstop, ho⟩ := stopActive_passes (s := s.handed) hb notCutting held wait homed passes empty off still slow
    exact ⟨_, _, exec_stopBand_active hfit tag can hstop, rfl, congrArg BandSequencer.active ho.bands,
      congrArg BandSequencer.waiting ho.bands, congrArg BandSequencer.results ho.bands, State.endPosted_answered ho.posted ..,
      ho.empties, ho.orders, ho.state, ho.feed⟩
  · have hstop : stopPending h s.handed = (s.handed.endPending h .ended .cancelled, Response.ok []) := by
      rw [stopPending, State.handed_bands, hp]
    obtain ⟨hget, hposted, hheads, haxes, hstore, hbuffers, hfetch⟩ := State.endPending_cancels (s := s.handed) hp .ended .cancelled
    generalize s.handed.endPending h .ended .cancelled = v at hstop hget hposted hheads haxes hstore hbuffers hfetch
    refine ⟨_, exec_stopBand_pending hfit tag can hstop, ?_, ?_, State.endPosted_answered hposted .., ?_, hheads, haxes,
      hstore, hbuffers, hfetch⟩
    · exact (congrArg BandSequencer.active hget).trans rfl
    · exact (congrArg BandSequencer.waiting hget).trans rfl
    · exact (congrArg BandSequencer.results hget).trans rfl
  · have e := State.abortActive_ends (s := s.handed) hb .abortRequest none
      (order := if immediate then .immediate else .retract) (by cases immediate <;> decide) false
    have hexec := exec_abortBand hfit tag immediate hb can
    rw [Axis.endOrder_reported] at e
    have hhead := e.head
    generalize s.handed.abortActive h .abortRequest none (if immediate then .immediate else .retract) false = v
      at hexec e hhead
    refine ⟨_, hexec, e.bands, fun imm => ?_, fun slow => ?_,
      fun homed => (congrArg Axis.state e.axis).trans (Axis.endOrder_idle homed _),
      (congrArg Axis.feed e.axis).trans (Axis.endOrder_feed _ _), State.emptiesBuffers_answered e.buffers ..,
      State.endPosted_answered e.posted ..⟩
    · subst imm
      exact hhead.trans (Head.immediate_eq _)
    · subst slow
      have hret := (s.heads.get h).retract_retracts s.clock
      have hv : v.heads.get h = ((s.heads.get h).retract s.clock).1 := hhead
      rw [← hv] at hret
      exact hret
  · have htake : takeReadResult h.val s.handed = (s.handed.updBands h fun q => { q with results := rest },
        Response.ok (recordBytes r)) := by
      rw [takeReadResult, onFitted_of_fitted (s := s.handed) hfit, State.handed_bands, hr]
    exact (State.request_done (owner := takeReadResult) can (oneByte_u8_head h) htake).trans rfl
  · refine State.request_refused (owner := takeStopBand) can (twoBytes_head h 0) ?_
    refine (takeStopBand_active (s := s.handed) hfit).trans ?_
    rw [stopActive, show s.handed.active h = none from none_]
    rfl
  · refine State.request_refused (owner := takeStopBand) can (twoBytes_head h 1) ?_
    refine (takeStopBand_pending (s := s.handed) hfit).trans ?_
    rw [stopPending, State.handed_bands, none_]
    rfl
  · have hpay := twoBytes_head h (if immediate then 1 else 0)
    have hcode : (if immediate then (1 : Byte) else 0).toNat = if immediate then 1 else 0 := by cases immediate <;> rfl
    rw [hcode] at hpay
    exact State.request_refused (owner := takeAbortBand) can hpay (takeAbortBand_none (s := s.handed) hfit none_ immediate)
  · refine State.request_refused (owner := takeReadResult) can (oneByte_u8_head h) ?_
    rw [takeReadResult, onFitted_of_fitted (s := s.handed) hfit, State.handed_bands, none_]
    rfl
end

section
/-! A boundary of a head, case by case (R131 to R134). -/

namespace Sys2Proof.Machine

variable {s t u : State} {h : HeadId} {b c : Band} {q : BandSequencer} {x : Head} {a : Axis}

/-! ### Ends from a card whose band has been counted -/

theorem State.setActive_board (s : State) (h : HeadId) (b : Option Band) : s.SameBoard (s.setActive h b) :=
  ⟨rfl, rfl, rfl, rfl, rfl, rfl, rfl, rfl, rfl, rfl, fun _ _ => rfl⟩

/-- An end of the band that a boundary has counted is one of the band as it stood before. -/
theorem State.Ends.ofCounted {d : Option Band} (e : (s.setActive h d).Ends t h q x a) : s.Ends t h q x a :=
  ⟨(s.setActive_board h d).trans e.board, e.bands, e.head, e.axis, e.buffers, e.queue, e.fed, e.posted, e.entries⟩

theorem State.setActive_places (s : State) (h : HeadId) (d : Option Band) :
    ((s.setActive h d).bands.get h).waiting = (s.bands.get h).waiting ∧
      ((s.setActive h d).bands.get h).results = (s.bands.get h).results := by
  rw [State.setActive_get_same]; exact ⟨rfl, rfl⟩

/-- What an end without a band behind it leaves, for the statement's own form of it and for its entries. -/
theorem State.abortAt (s : State) (h : HeadId) (c : Band) (alone : (s.bands.get h).waiting = none) (cause : Cause) :
    s.endsBand ((s.setActive h (some c)).abortActive h cause none .retract true) h (s.discarding h c) .aborted cause true ∧
      ((s.setActive h (some c)).abortActive h cause none .retract true).link.entry (.progress h) =
        s.link.entry (.progress h) := by
  obtain ⟨hwait, hresults⟩ := s.setActive_places h (some c)
  have e := (State.abortActive_ends (s.setActive_active h (some c)) cause none (order := .retract) (by decide) true).ofCounted
  rw [hwait, alone, hresults] at e
  exact ⟨e.ends (by rw [if_pos rfl]; exact Head.retract_retracts _ _), e.entries _ rfl (by simp)⟩

theorem State.finishAt (s : State) (h : HeadId) (c : Band) (alone : (s.bands.get h).waiting = none) {cls : ResultClass}
    (ends : cls ≠ .aborted) (cause : Cause) :
    s.endsBand ((s.setActive h (some c)).finishActive h cls cause true) h (s.discarding h c) cls cause true ∧
      ((s.setActive h (some c)).finishActive h cls cause true).link.entry (.progress h) = s.link.entry (.progress h) := by
  obtain ⟨hwait, hresults⟩ := s.setActive_places h (some c)
  have e := (State.finishActive_ends (s.setActive_active h (some c)) (hwait.trans alone) cls cause true).ofCounted
  rw [hresults] at e
  exact ⟨e.ends (by rw [if_neg ends]; exact Head.release_releases _ _), e.entries _ rfl (by simp)⟩

/-! ### Cutting the next track (R133, R134) -/

theorem Head.cut_eq (x : Head) : x.cut = if x.state = .ready ∨ x.state = .cutting then
    { x with state := .cutting, nextCell := some 0 } else x := by
  unfold Head.cut
  cases e : x.state
  case ready => exact (if_pos (.inl rfl)).symm
  case cutting => rw [if_pos (.inr rfl)]
  all_goals exact (if_neg (by decide)).symm

theorem Head.uncut_eq (x : Head) : x.uncut = if x.state = .cutting then
    { x with state := .ready, depth := 0, nextCell := none } else x := by
  unfold Head.uncut
  cases e : x.state
  case cutting => exact (if_pos rfl).symm
  all_goals exact (if_neg (by decide)).symm

/-- The lead looks at the head's STANDBY, queue and band alone (R65). -/
theorem State.lead_congr (active : t.active h = s.active h) (buffers : t.buffers.get h = s.buffers.get h)
    (queue : t.store.queues.get h = s.store.queues.get h) : t.lead h = s.lead h := by
  have hcounts : ∀ n, t.counts h n = s.counts h n := fun n => by rw [State.counts, State.counts, buffers, queue]
  have hfrom : ∀ limit n, t.leadFrom h limit n = s.leadFrom h limit n := fun limit => by
    induction limit with
    | zero => exact fun _ => rfl
    | succ limit ih => exact fun n => by rw [State.leadFrom, State.leadFrom, hcounts, ih]
  simp only [State.lead, active, hfrom]

theorem State.evalStarvation_lead (s : State) (h : HeadId) : (s.evalStarvation h).lead h = s.lead h :=
  State.lead_congr (s.evalStarvation_active h h) (by rw [State.evalStarvation_buffers])
    (by rw [State.evalStarvation_queues])

/-- A posting of BAND_PROGRESS, with the lead as it then stands (R136). -/
theorem State.postProgress_entry (s : State) (h : HeadId) (b : Band) : (s.postProgress h b).link.entry (.progress h) =
    ⟨true, min 255 ((s.link.entry (.progress h)).count + 1),
      some (.progress b.tag b.phase b.lastCut s.ctu.revs s.timestamp ((s.postProgress h b).lead h))⟩ := by
  rw [State.lead_congr (t := s.postProgress h b) (s := s) rfl rfl rfl]
  exact Link.entry_post ..

/-- The card on which a band's next track is cut, before its change of the buffers is served. -/
def State.cutting (s : State) (h : HeadId) (c : Band) : State :=
  ((((s.updBuffers h LineBuffers.swapped).updHead h Head.cut).updAxis h fun a => a.cutOrder (decide (c.next = c.last))).setActive h
    (some { c with next := c.next + 1, phase := .cutting })).postProgress h { c with next := c.next + 1, phase := .cutting }

theorem State.cutNext_eq (s : State) (h : HeadId) (c : Band) : s.cutNext h c = (s.cutting h c).service h := rfl

theorem State.cutting_active (s : State) (h : HeadId) (c : Band) :
    (s.cutting h c).active h = some { c with next := c.next + 1, phase := .cutting } :=
  State.setActive_active ..

/-- A track of a STORE band with an empty queue that is cut (R133, R134). -/
theorem State.cutNext_cuts (store : c.source = .store) (empty : s.store.queues.get h = []) : s.cutsTrack (s.cutNext h c) h c := by
  have hactive := s.cutting_active h c
  rw [State.cutNext_eq, State.service_empty (s := s.cutting h c) hactive store empty]
  obtain ⟨hactiveSwap, hstandby⟩ : (s.buffers.get h).swapped.active = (s.buffers.get h).standby ∧
      (s.buffers.get h).swapped.standby.held = .empty := by
    unfold LineBuffers.swapped LineBuffers.active LineBuffers.standby
    cases (s.buffers.get h).oneActive <;> exact ⟨rfl, rfl⟩
  have hbuffers : (s.cutting h c).buffers.get h = (s.buffers.get h).swapped := by
    simp [State.cutting, State.postProgress, State.post]
  refine ⟨?_, ?_, ?_, ?_, ?_, ?_⟩
  · rw [State.evalStarvation_active]; exact hactive
  · rw [State.evalStarvation_buffers, hbuffers]; exact hactiveSwap
  · rw [State.evalStarvation_buffers, hbuffers]; exact hstandby
  · rw [State.evalStarvation_heads, ← Head.cut_eq]
    simp [State.cutting, State.postProgress, State.post]
  · have haxis : (s.cutting h c).axes.get h = (s.axes.get h).cutOrder (decide (c.next = c.last)) := by
      simp [State.cutting, State.postProgress, State.post]
    rw [State.evalStarvation_axes, haxis]
    exact Axis.cutOrder_takes _ _
  · rw [State.postsProgress, State.evalStarvation_entries _ _ (by simp), State.evalStarvation_lead]
    exact State.postProgress_entry ..

/-! ### The boundary by the phase of its band -/

theorem State.trackCut_eq {tr : BufferTrack} (ht : (s.buffers.get h).active.held.track? = some tr) :
    s.trackCut h = some tr.number := by rw [State.trackCut, ht]; rfl

theorem State.boundary_cutting (hb : s.active h = some b) (phase : b.phase = .cutting) : s.boundary h = s.cuttingBoundary h b := by
  rw [State.boundary, hb]; simp only [phase]

theorem State.boundary_waiting (hb : s.active h = some b) (phase : b.phase = .waitSync) :
    s.boundary h = s.waitSyncBoundary h b := by
  rw [State.boundary, hb]; simp only [phase]

theorem State.boundary_suspended (hb : s.active h = some b) (phase : b.phase = .suspended) :
    s.boundary h = s.suspendedBoundary h b := by
  rw [State.boundary, hb]; simp only [phase]

/-- The card of a band that passes into SUSPENDED, before its posting (R134). -/
def State.suspending (s : State) (h : HeadId) (c : Band) : State :=
  ((s.setActive h (some { c with phase := .suspended })).updHead h Head.uncut).updAxis h Axis.disarm

theorem State.suspend_eq (s : State) (h : HeadId) (c : Band) :
    (s.setActive h (some c)).suspend h c = (s.suspending h c).postProgress h { c with phase := .suspended } := by
  rw [State.suspend, State.setActive_setActive]
  rfl

theorem State.suspending_rest (s : State) (h : HeadId) (c : Band) : (s.suspending h c).link = s.link ∧
    (s.suspending h c).ctu = s.ctu ∧ (s.suspending h c).clock = s.clock ∧ (s.suspending h c).buffers = s.buffers ∧
    (s.suspending h c).active h = some { c with phase := .suspended } ∧
    (s.suspending h c).heads.get h = (s.heads.get h).uncut ∧ (s.suspending h c).axes.get h = (s.axes.get h).disarm :=
  ⟨rfl, rfl, rfl, rfl, State.setActive_active .., by simp [State.suspending], by simp [State.suspending]⟩

/-- A posting of BAND_PROGRESS from a card with the link and the time of another. -/
theorem State.postProgress_posts {v : State} (link : v.link = s.link) (ctu : v.ctu = s.ctu) (clock : v.clock = s.clock)
    (h : HeadId) (b : Band) : s.postsProgress (v.postProgress h b) h b := by
  rw [State.postsProgress, State.postProgress_entry, link, ctu, State.timestamp, clock]
  rfl

/-- What a passage into SUSPENDED leaves (R134, R136). -/
theorem State.suspend_suspends (s : State) (h : HeadId) (c : Band) :
    ((s.setActive h (some c)).suspend h c).active h = some { c with phase := .suspended } ∧
      ((s.setActive h (some c)).suspend h c).heads.get h = (if (s.heads.get h).state = .cutting then
        { s.heads.get h with state := .ready, depth := 0, nextCell := none } else s.heads.get h) ∧
      ((s.setActive h (some c)).suspend h c).axes.get h = { s.axes.get h with
        feed := (s.axes.get h).feed.map fun x => { x with armed := false } } ∧
      s.postsProgress ((s.setActive h (some c)).suspend h c) h { c with phase := .suspended } ∧
      ((s.setActive h (some c)).suspend h c).buffers.get h = s.buffers.get h := by
  obtain ⟨hlink, hctu, hclock, hbuffers, hactive, hheads, haxes⟩ := s.suspending_rest h c
  rw [State.suspend_eq]
  generalize s.suspending h c = v at hlink hctu hclock hbuffers hactive hheads haxes ⊢
  exact ⟨hactive, hheads.trans (Head.uncut_eq _), haxes, State.postProgress_posts hlink hctu hclock h _,
    congrArg (Quad.get · h) hbuffers⟩

end Sys2Proof.Machine
end

section
/-! Boundaries as the band of a head takes them, and as counts and good indexes raise them (R12, R131 to R134, R142). -/

namespace Sys2Proof.Machine

variable {s t u : State} {h : HeadId} {b c p : Band}

/-! ### The one boundary of an event -/

/-- An event that is due for one fitted head alone. -/
theorem State.boundaries_one {due : HeadId → Bool} (fit : s.fitted h = true) (here : due h = true)
    (others : ∀ g, g ≠ h → s.fitted g = true → due g = false) : s.boundaries due = s.boundary h := by
  unfold State.boundaries State.forFitted
  refine foldl_at (P := fun u => u = s) (Q := fun u => u = s.boundary h) (h := h) (by decide) (mem_heads4 h)
    (fun u g ne hu => ?_) (fun u hu => ?_) (fun u g ne hu => ?_) rfl
  · subst hu
    split
    · next fit => exact if_neg (by simp [others g ne fit])
    · rfl
  · subst hu
    rw [if_pos fit]
    exact if_pos here
  · subst hu
    split
    · next hfit =>
      rw [State.fitted, (s.boundary_works h).moves.board.ctu] at hfit
      exact if_neg (by simp [others g ne hfit])
    · rfl

/-- A good index with the speed checked off and no reports (R10, R11). -/
theorem State.checkSpeed_off (off : s.machine.nominalPeriod = 0) (ok : s.ctu.speedOk = true) : s.checkSpeed = s := by
  have hok : speedOkFor s.machine (s.ctu.lastPeriod.getD 0) = true := by simp [speedOkFor, off]
  have hsame : ({ s with ctu := { s.ctu with speedOk := true } } : State) = s := by rw [← ok]
  simp only [State.checkSpeed, hok, ok]
  exact hsame

theorem State.serveReport_off (off : s.machine.reportRevs = 0) : s.serveReport = s := if_pos off

/-! ### The band as a boundary counts it (R132) -/

theorem State.cuttingBoundary_late (feed : b.feed = .stepped) (moving : (s.axes.get h).moving = true) :
    s.cuttingBoundary h b =
      (s.setActive h (some (b.counted (s.trackCut h)))).abortActive h .feedLate none .retract true := by
  rw [State.cuttingBoundary]
  exact if_pos ⟨feed, moving⟩

section
variable (onTime : b.feed = .helical ∨ (s.axes.get h).moving = false)
include onTime

theorem State.cuttingBoundary_onTime : s.cuttingBoundary h b =
    if s.trackCut h = some b.last then
      (s.setActive h (some (b.counted (s.trackCut h)))).finishActive h .complete .none true
    else if b.stopTaken then
      (s.setActive h (some (b.counted (s.trackCut h)))).finishActive h .ended .stopRequest true
    else if s.standbyHolds h b.next then
      (s.setActive h (some (b.counted (s.trackCut h)))).cutNext h (b.counted (s.trackCut h))
    else match b.feed with
      | .stepped => (s.setActive h (some (b.counted (s.trackCut h)))).suspend h (b.counted (s.trackCut h))
      | .helical => (s.setActive h (some (b.counted (s.trackCut h)))).abortActive h .underrun none .retract true := by
  have hnot : ¬((b.counted (s.trackCut h)).feed = .stepped ∧ ((s.setActive h (some (b.counted (s.trackCut h)))).axes.get h).moving =
      true) := fun ⟨hs, hm⟩ => by
    obtain e | e := onTime
    · exact absurd (e.symm.trans hs) (by decide)
    · exact absurd (e.symm.trans hm) (by decide)
  rw [State.cuttingBoundary]
  exact (if_neg hnot).trans rfl

end

/-- An end in a band's place, for a band that no boundary has counted. -/
theorem State.abortHere (hb : s.active h = some b) (alone : (s.bands.get h).waiting = none) (cause : Cause) :
    s.endsBand (s.abortActive h cause none .retract true) h (s.discarding h b) .aborted cause true ∧
      (s.abortActive h cause none .retract true).link.entry (.progress h) = s.link.entry (.progress h) := by
  have e := s.abortAt h b alone cause
  rwa [State.setActive_eq_self hb] at e

theorem State.cutNext_active (store : c.source = .store) (empty : s.store.queues.get h = []) :
    (s.cutNext h c).active h ≠ none := fun e => by
  obtain ⟨hactive, -⟩ := State.cutNext_cuts store empty
  rw [e] at hactive
  cases hactive

section
variable (hb : s.active h = some b) (alone : (s.bands.get h).waiting = none) (store : b.source = .store)
  (empty : s.store.queues.get h = [])
include hb alone store empty

/-- A boundary that leaves no band active has ended it, and posts no progress (R136). -/
theorem State.boundary_silent (idle : (s.boundary h).active h = none) :
    (s.boundary h).link.entry (.progress h) = s.link.entry (.progress h) := by
  cases phase : b.phase with
  | cutting =>
    rw [State.boundary_cutting hb phase] at idle ⊢
    by_cases late : b.feed = .stepped ∧ (s.axes.get h).moving = true
    · rw [State.cuttingBoundary_late late.1 late.2]
      exact (s.abortAt h _ alone .feedLate).2
    · have onTime : b.feed = .helical ∨ (s.axes.get h).moving = false := by
        cases e : b.feed with
        | helical => exact .inl rfl
        | stepped => exact .inr (by simpa [e] using late)
      rw [State.cuttingBoundary_onTime onTime] at idle ⊢
      split at idle <;> rename_i last <;> simp only [last, if_true, if_false]
      · exact (s.finishAt h _ alone (by decide) .none).2
      split at idle <;> rename_i stop <;> simp only [stop, if_true]
      · exact (s.finishAt h _ alone (by decide) .stopRequest).2
      split at idle <;> rename_i next <;> simp only [next, if_true]
      · exact absurd idle (State.cutNext_active (c := b.counted (s.trackCut h)) store empty)
      cases feed : b.feed <;> simp only [feed] at idle ⊢
      · rw [(s.suspend_suspends h _).1] at idle
        cases idle
      · exact (s.abortAt h _ alone .underrun).2
  | waitSync =>
    rw [State.boundary_waiting hb phase, State.waitSyncBoundary] at idle ⊢
    split at idle <;> rename_i slow <;> simp only [slow, if_true]
    split at idle <;> rename_i next <;> simp only [next, if_true]
    · exact absurd idle (State.cutNext_active (c := { b with startRev := some s.ctu.revs, startTime := some s.timestamp }) store
        empty)
    split at idle <;> rename_i wait <;> simp only [wait, if_true, if_false]
    · rfl
    · exact (State.abortHere hb alone .missingTrack).2
  | suspended =>
    rw [State.boundary_suspended hb phase, State.suspendedBoundary] at idle ⊢
    dsimp only at idle ⊢
    split at idle <;> rename_i next <;> simp only [next, if_true]
    · exact absurd idle (State.cutNext_active store empty)
    split at idle <;> rename_i limit <;> simp only [limit, if_true, if_false]
    · exact (s.abortAt h _ alone .suspendLimit).2
    · have hactive : ((s.setActive h (some { b with suspensions := countUp 255 b.suspensions })).postProgress h
          { b with suspensions := countUp 255 b.suspensions }).active h =
          some { b with suspensions := countUp 255 b.suspensions } := State.setActive_active ..
      rw [hactive] at idle
      cases idle
  | pending => rw [State.boundary, hb]; simp only [phase]
  | positioning => rw [State.boundary, hb]; simp only [phase]
  | engaging => rw [State.boundary, hb]; simp only [phase]

end

end Sys2Proof.Machine
end

section
/-! The statement of a band's boundaries, put together from its cases. -/

namespace Sys2Proof.Machine

variable {s t u : State} {h : HeadId} {b c p : Band} {tr : BufferTrack}

/-! ### A good index with one boundary (R4, R12) -/

theorem State.goodIndex_quiet (off : s.machine.nominalPeriod = 0) (ok : s.ctu.speedOk = true) (silent : s.machine.reportRevs = 0) :
    s.goodIndex = s.measured.zeroBoundaries.presentAll := by
  have hm := s.owedBoundaries_board
  have hmachine : s.measured.machine = s.machine := hm.machine
  have hctu : s.measured.ctu.speedOk = true := (congrArg Ctu.speedOk hm.ctu).trans ok
  rw [s.goodIndex_eq, State.checkSpeed_off (hmachine ▸ off) hctu, State.serveReport_off (hmachine ▸ silent)]

theorem State.owedBoundaries_none (none_ : ∀ g, s.fitted g = true → (s.startAngle g : Int) ≤ s.ctu.elapsed) :
    s.owedBoundaries = s := by
  unfold State.owedBoundaries
  split
  · exact State.boundaries_none fun g fit => decide_eq_false (Int.not_lt.mpr (none_ g fit))
  · rfl

theorem State.owedBoundaries_one (synced : s.ctu.timing = .synced) (fit : s.fitted h = true)
    (here : s.ctu.elapsed < s.startAngle h)
    (others : ∀ g, g ≠ h → s.fitted g = true → (s.startAngle g : Int) ≤ s.ctu.elapsed) : s.owedBoundaries = s.boundary h :=
  (if_pos synced).trans (State.boundaries_one fit (decide_eq_true here) fun g ne hf =>
    decide_eq_false (Int.not_lt.mpr (others g ne hf)))

theorem State.zeroBoundaries_none (none_ : ∀ g, s.fitted g = true → s.startAngle g ≠ 0) : s.zeroBoundaries = s := by
  unfold State.zeroBoundaries
  split
  · exact State.boundaries_none fun g fit => decide_eq_false (none_ g fit)
  · rfl

theorem State.zeroBoundaries_one (synced : s.ctu.timing = .synced) (fit : s.fitted h = true) (here : s.startAngle h = 0)
    (others : ∀ g, g ≠ h → s.fitted g = true → s.startAngle g ≠ 0) : s.zeroBoundaries = s.boundary h :=
  (if_pos synced).trans (State.boundaries_one fit (decide_eq_true here) fun g ne hf => decide_eq_false (others g ne hf))

/-- A count with one boundary (R12). -/
theorem State.judgeCount_one (synced : s.ctu.timing = .synced) (inside : s.pastWindow = false) (fit : s.fitted h = true)
    (here : s.startAngle h ≠ 0) (reached : s.ctu.elapsed = s.startAngle h)
    (others : ∀ g, g ≠ h → s.fitted g = true → s.startAngle g ≠ s.startAngle h) : s.judgeCount true = s.boundary h := by
  simp only [State.judgeCount, synced, inside]
  refine State.boundaries_one fit (decide_eq_true ⟨here, reached⟩) fun g ne hf => decide_eq_false fun ⟨_, hg⟩ => ?_
  exact others g ne hf (Int.ofNat.inj (hg.symm.trans reached))

theorem State.suspendedBoundary_missing (missing : s.standbyHolds h b.next = false) {k : Nat}
    (hk : countUp 255 b.suspensions = k) : s.suspendedBoundary h b =
      if (s.heads.get h).settings.suspendLimit ≤ k then
        (s.setActive h (some { b with suspensions := k })).abortActive h .suspendLimit none .retract true
      else (s.setActive h (some { b with suspensions := k })).postProgress h { b with suspensions := k } := by
  subst hk
  rw [State.suspendedBoundary]
  exact if_neg (by simp [missing])

/-- The phase of a band that is handed on to a READY head. -/
theorem startPhase_ready {x : Head} (ready : x.state = .ready) (a : Axis) (start : Nat) :
    startPhase x a start = if a.position.getD 0 = start then .waitSync else .positioning := by
  unfold startPhase
  by_cases e : a.pos = start
  · rw [if_neg (not_not.mpr e), if_pos ready]; exact (if_pos e).symm
  · rw [if_pos e]; exact (if_neg e).symm

/-! ### An orderly end at a boundary with a pending band (R132, R142) -/

/-- A band that a boundary brings to its orderly end. -/
theorem State.boundary_finishes (hb : s.active h = some b) (phase : b.phase = .cutting)
    (ht : (s.buffers.get h).active.held.track? = some tr) (onTime : b.feed = .helical ∨ (s.axes.get h).moving = false)
    (ends : tr.number = b.last ∨ b.stopTaken = true) : s.boundary h =
      (s.setActive h (some (b.counted (some tr.number)))).finishActive h (if tr.number = b.last then .complete else .ended)
        (if tr.number = b.last then .none else .stopRequest) true := by
  rw [State.boundary_cutting hb phase, State.cuttingBoundary_onTime onTime, State.trackCut_eq ht]
  by_cases last : tr.number = b.last
  · rw [if_pos (congrArg some last), if_pos last, if_pos last]
  · rw [if_neg (fun e => last (Option.some.inj e)), if_pos (ends.resolve_left last), if_neg last, if_neg last]

end Sys2Proof.Machine

open Sys2Proof Sys2Proof.Machine

/-- Settles O57: each case of a boundary on the band as it is counted, the hand-on behind an orderly end, and the one boundary
that a count or a good index raises. -/
theorem boundariesOfABand : Obligations.BoundariesOfABand := by
  refine ⟨fun h b q s t hq hb hw store empty ht => ?_, fun h b c p q tr a s t hq hb hw phase ht htr onTime ends cutting homed free
    empty off ha hc r hr => ?_, fun h s c angles synced known hangles => ⟨fun fit nonzero reached inside others => ?_,
      fun fit low high others tol nominal ok silent hc => ⟨fun zero => ?_, fun above => ?_⟩⟩⟩
  · subst hq ht
    have hact : s.active h = some b := hb
    refine ⟨fun phase tr c htr hc => ?_, fun phase => ⟨fun slow => ?_, fun ok => ⟨fun loaded => ?_, fun missing fresh => ?_,
      fun missing waited => ?_⟩⟩, fun phase => ⟨fun loaded => ?_, fun missing k hk => ⟨fun limit => ?_, fun below => ?_⟩⟩,
      State.boundary_silent hact hw store empty⟩
    · have hcounted : b.counted (s.trackCut h) = c := by rw [State.trackCut_eq htr, hc]; rfl
      rw [State.boundary_cutting hact phase]
      refine ⟨fun feed moving => ?_, fun onTime => ?_⟩
      · rw [State.cuttingBoundary_late feed moving, hcounted]
        exact (s.abortAt h c hw .feedLate).1
      · rw [State.cuttingBoundary_onTime onTime, hcounted, State.trackCut_eq htr]
        refine ⟨fun last => ?_, fun more stop => ?_, fun more on => ?_⟩
        · rw [if_pos (congrArg some last)]
          exact (s.finishAt h c hw (by decide) .none).1
        all_goals rw [if_neg (fun e => more (Option.some.inj e))]
        · rw [if_pos stop]
          exact (s.finishAt h c hw (by decide) .stopRequest).1
        · rw [if_neg (by simp [on])]
          refine ⟨fun loaded => ?_, fun missing feed => ?_, fun missing feed => ?_⟩
          · rw [if_pos loaded]
            exact State.cutNext_cuts (s := s.setActive h (some c)) (by rw [hc]; exact store) empty
          · rw [if_neg (by simp [missing]), feed]
            exact s.suspend_suspends h c
          · rw [if_neg (by simp [missing]), feed]
            exact (s.abortAt h c hw .underrun).1
    · rw [State.boundary_waiting hact phase, State.waitSyncBoundary]
      exact if_pos (by simp [slow])
    · rw [State.boundary_waiting hact phase, State.waitSyncBoundary, if_neg (by simp [ok]), if_pos loaded]
      exact State.cutNext_cuts (c := { b with startRev := some s.ctu.revs, startTime := some s.timestamp }) store empty
    · rw [State.boundary_waiting hact phase, State.waitSyncBoundary, if_neg (by simp [ok]), if_neg (by simp [missing]),
        if_pos fresh]
      rfl
    · rw [State.boundary_waiting hact phase, State.waitSyncBoundary, if_neg (by simp [ok]), if_neg (by simp [missing]),
        if_neg waited]
      exact (State.abortHere hact hw .missingTrack).1
    · rw [State.boundary_suspended hact phase, State.suspendedBoundary, if_pos loaded]
      exact State.cutNext_cuts store empty
    all_goals
      have hcount : countUp 255 b.suspensions = k := hk.symm
      rw [State.boundary_suspended hact phase, State.suspendedBoundary_missing missing hcount]
    · rw [if_pos limit]
      exact (s.abortAt h { b with suspensions := k } hw .suspendLimit).1
    · rw [if_neg (Nat.not_le.mpr below)]
      exact ⟨State.setActive_active .., rfl, rfl, State.postProgress_posts rfl rfl rfl .., rfl⟩
  · have hact : s.active h = some b := by rw [State.active, hq]; exact hb
    have hcounted : b.counted (some tr.number) = c := by rw [hc]; rfl
    have hboundary := State.boundary_finishes hact phase htr onTime ends
    rw [hcounted, ← ht] at hboundary
    obtain ⟨hwait, hresults⟩ := s.setActive_places h (some c)
    rw [hq] at hwait hresults
    have hcheck : (s.setActive h (some c)).activationFailure h p = s.activationFailure h p :=
      State.activationFailure_congr rfl rfl rfl rfl p
    have haxis : (s.axes.get h).endOrder true = { a with state := .idle, target := none, move := none, feed := none } := by
      rw [Axis.endOrder_homed homed, ha]
      rfl
    have hrecord : (s.setActive h (some c)).finishRecord h c (if tr.number = b.last then .complete else .ended)
        (if tr.number = b.last then .none else .stopRequest) true = r := by
      have hreported : ((s.axes.get h).endOrder true).reported = a.position := by rw [haxis]; rfl
      rw [hr, ← hreported]
      rfl
    have huncut : (s.heads.get h).uncut = { s.heads.get h with state := .ready, depth := 0, nextCell := none } :=
      (Head.uncut_eq _).trans (if_pos cutting)
    cases hfail : s.activationFailure h p with
    | some reason =>
      have e := (State.finishActive_fails (s.setActive_active h (some c)) (hwait.trans hw)
        (if tr.number = b.last then .complete else .ended) (if tr.number = b.last then .none else .stopRequest) true
        (hcheck.trans hfail)).ofCounted
      rw [hrecord, hresults, ← hboundary] at e
      refine ⟨e.posted, fun reason' heq => ?_, fun none_ => by cases none_⟩
      obtain rfl : reason = reason' := Option.some.inj heq
      refine ⟨e.bands, ?_, e.buffers, ?_⟩
      · rw [e.axis]
        exact congrArg Axis.state haxis
      · rw [e.head]
        exact Head.release_releases _ _
    | none =>
      obtain ⟨w, e, st⟩ := State.finishActive_passes (s.setActive_active h (some c)) (hwait.trans hw)
        (if tr.number = b.last then .complete else .ended) (if tr.number = b.last then .none else .stopRequest) true
        (hcheck.trans hfail) empty off (.inl (congrArg Head.state huncut))
      have ho := e.ofCounted.handsOn st
      rw [hrecord, hresults, State.setActive_heads, huncut, State.setActive_axes, haxis, ← hboundary] at ho
      refine ⟨ho.posted, fun reason heq => (by cases heq), fun _ => ⟨ho.empties, ho.state, ho.position, ?_, ?_, ?_⟩⟩
      · rw [ho.feed]; rfl
      · rw [ho.bands, startPhase_ready rfl]
      · exact ordersGiven_congr rfl rfl rfl ho.orders
  · have hcount : s.count true = { s with ctu := { s.ctu with
        angle := (s.ctu.angle + 1) % 65536, elapsed := s.ctu.elapsed + 1, stoppedTimer := 0
        acting := ⟨s.machine.fitted, angles⟩ } } := by
      rw [hangles, State.count, Ctu.counted, State.takeUp, State.written]
      simp only [known, if_true, if_false]
      rfl
    have hinside : (s.count true).pastWindow = false := by
      rw [Bool.eq_false_iff, Ne, s.count_pastWindow]; omega
    have hjudge : (s.count true).judgeCount true = (s.count true).boundary h := by
      rw [hcount] at hinside ⊢
      exact State.judgeCount_one synced hinside (decide_eq_true fit) nonzero reached fun g ne hf => others g ne (of_decide_eq_true hf)
    rw [exec_countEvent, hjudge, hcount]
  all_goals
    subst hc
    have running : s.ctu.timing ≠ .stopped := by rw [synced]; decide
    have inside : ¬s.pastWindow = true := by rw [State.pastWindow, decide_eq_true_iff]; omega
    have hnext : s.judgeIndex = s.goodIndex := by rw [State.judgeIndex, if_neg inside, if_neg (by omega)]
    rw [exec_indexEvent running known, hnext, State.goodIndex_quiet nominal ok silent]
    have hctu := Ctu.revolved_of_known known s.timestamp
    rw [Ctu.period, synced.symm] at hctu
  · have howed : s.owedBoundaries = s := State.owedBoundaries_none fun g hf => by
      by_cases e : g = h
      · rw [e, zero]; omega
      · exact (others g e hf).2
    have hm := State.measured_eq howed
    rw [hctu] at hm
    have hzero : s.measured.zeroBoundaries = s.measured.boundary h := by
      rw [hm]
      exact State.zeroBoundaries_one synced fit zero fun g ne hf => (others g ne hf).1
    rw [hzero, hm]
  · have howed : s.owedBoundaries = s.boundary h :=
      State.owedBoundaries_one synced fit above fun g ne hf => (others g ne hf).2
    have hboard := (s.boundary_works h).moves.board
    have hm : s.measured = { s.boundary h with ctu := s.ctu.revolved s.timestamp } := by
      rw [State.measured, howed, hboard.ctu, hboard.timestamp]
    rw [hctu] at hm
    have hzero : s.measured.zeroBoundaries = s.measured := by
      rw [hm]
      refine State.zeroBoundaries_none fun g hf => ?_
      by_cases e : g = h
      · have hpos : s.startAngle g ≠ 0 := by rw [e]; omega
        exact hpos
      · exact (others g e hf).1
    rw [hzero, hm]
end

section
/-! ENGRAVE on a head with no band: the activation, and the switch and the fill behind it (R83, R114, R128). -/

namespace Sys2Proof.Machine

variable {s t : State} {h : HeadId} {b : Band} {f : EngraveFields} {source : Source} {feed : Feed}

/-! ### A PATCH band's first fill -/

theorem LineBuffers.standby_empty {x : LineBuffers} (empty0 : x.buf0.held = .empty) (empty1 : x.buf1.held = .empty) :
    x.standby.held = .empty := by
  unfold LineBuffers.standby
  split
  · exact empty0
  · exact empty1

theorem nextToLoad_empty {x : LineBuffers} (empty0 : x.buf0.held = .empty) (empty1 : x.buf1.held = .empty) (first : Nat) :
    nextToLoad x first = first := by
  have hactive : x.active.held = .empty := by
    unfold LineBuffers.active
    split
    · exact empty1
    · exact empty0
  rw [nextToLoad, LineBuffers.standby_empty empty0 empty1, hactive]
  rfl

/-- With two EMPTY buffers the head waits for its band's first track (R71). -/
theorem State.wants_first (hb : s.active h = some b) (phase : b.phase ≠ .pending)
    (empty0 : (s.buffers.get h).buf0.held = .empty) (empty1 : (s.buffers.get h).buf1.held = .empty)
    (ordered : b.first ≤ b.last) : s.wants h = some (b, b.first) := by
  rw [State.wants, hb]
  simp only [nextToLoad_empty empty0 empty1]
  exact if_pos ⟨phase, LineBuffers.standby_empty empty0 empty1, ordered⟩

theorem startPhase_active (x : Head) (a : Axis) (start : Nat) : startPhase x a start ≠ .pending := by
  unfold startPhase
  split
  · decide
  · split <;> decide

/-- The fill that a PATCH band's activation starts (R83, R128). -/
theorem State.activate_fills (notCutting : (s.heads.get h).state ≠ .cutting)
    (slow : (s.heads.get h).state = .ready ∨ (s.heads.get h).settings.settle ≠ 0 ∨
      (s.heads.get h).level ≠ (s.heads.get h).settings.level)
    (off : s.pins.limitSwitch.get h = false) (patch : b.source = .patch)
    (empty0 : (s.buffers.get h).buf0.held = .empty) (empty1 : (s.buffers.get h).buf1.held = .empty)
    (ordered : b.first ≤ b.last) :
    (s.activate h b).fetch =
        { s.fetch with fills := s.fetch.fills.set h (some (s.clock + ceilDiv (s.screen b.screen).n 256)) } ∧
      ((s.activate h b).buffers.get h).standby.held = .loading ⟨b.first, .patch, (s.screen b.screen).n⟩ := by
  obtain ⟨y, z, hplaced, hprepares⟩ := State.prepareBand_placed (s := s) (h := h) (b := b) notCutting slow
  obtain ⟨v, hv⟩ : ∃ v, v = (s.placed h (s.started h b) y z).evalStarvation h := ⟨_, rfl⟩
  have hclock : v.clock = s.clock := by rw [hv, (State.evalStarvation_looks _ h).board.clock]; rfl
  have hbuffers : v.buffers = s.buffers := by rw [hv, State.evalStarvation_buffers]; rfl
  have hfetch : v.fetch = s.fetch := by rw [hv, State.evalStarvation_fetch]; rfl
  have hactive : v.active h = some (s.started h b) := by
    rw [hv, State.evalStarvation_active]; exact s.placed_active ..
  have hn : v.contextN h = (s.screen b.screen).n := by
    rw [State.contextN, hv, State.evalStarvation_heads, State.placed_head, hprepares.context]
    rfl
  have hwants := State.wants_first hactive (startPhase_active (s.heads.get h) (s.axes.get h) b.start) (by rw [hbuffers]; exact empty0)
    (by rw [hbuffers]; exact empty1) ordered
  have hservice : s.activate h b = v.startFill h b.first := by
    rw [State.activate, hplaced, State.afterActivation_off (s := s.placed h (s.started h b) y z) off, State.service, ← hv]
    simp only [hwants, show (s.started h b).source = .patch from patch]
    rfl
  rw [hservice, State.startFill, State.evalStarvation_fetch, State.evalStarvation_buffers, hn]
  refine ⟨?_, ?_⟩
  · rw [← hclock, ← hfetch]
    rfl
  · simp [State.setStandby, State.updBuffers]

/-! ### A limit switch that is already active -/

/-- From `s` to `t` the limit switch has ended the band `b` that was to become active on head h (R114, R128). -/
structure State.Stumbles (s t : State) (h : HeadId) (b : Band) : Prop where
  board : s.SameBoard t
  bands : t.bands.get h = ⟨none, none, (s.bands.get h).results ++
    (s.discarding h (s.started h b)).recorded h .aborted .axisFault none s.ctu.revs s.timestamp (s.axes.get h).position ::
    (s.bands.get h).waiting.toList.map fun p => p.recorded h .aborted .precedingAbort none s.ctu.revs s.timestamp none⟩
  posted : t.endPosted h
  axis : ∃ z : Axis, z.known = (s.axes.get h).position ∧ t.axes.get h = z.lost .limitSwitch
  fault : (t.link.entry (.axis h)).content =
    some (.axis .limitSwitch .unhomed .limitSwitch (s.axes.get h).position s.timestamp)
  head : (t.heads.get h).state = .parked ∨ (t.heads.get h).state = .retracting
  level : (t.heads.get h).level = (s.heads.get h).level
  buffers : s.emptiesBuffers t h
  queue : t.store.queues.get h = s.store.queues.get h

/-- The card that the limit stop leaves of a placed band. -/
theorem State.placed_limitStop (s : State) (h : HeadId) (c : Band) (y : Head) (z : Axis) :
    (s.placed h c y z).limitStop h = { s.placed h c y (z.lost .limitSwitch) with
      link := s.link.post (.axis h) (.axis .limitSwitch .unhomed .limitSwitch z.known s.timestamp) } := by
  rw [State.limitStop_eq, State.placed_axis]
  simp only [State.placed, Quad.set_set]
  rfl

theorem State.afterActivation_on (on : s.pins.limitSwitch.get h = true) (feeding : (s.axes.get h).state = .feeding) :
    s.afterActivation h = ((s.limitStop h).abortActive h .axisFault none .retract false).service h := by
  rw [State.afterActivation, State.limitCheck_feeding (by simp [State.onLimit, on, Axis.watched, feeding]) feeding]

/-- An activation with the limit switch active (R114, R128). -/
theorem State.activate_stumbles (notCutting : (s.heads.get h).state ≠ .cutting)
    (slow : (s.heads.get h).state = .ready ∨ (s.heads.get h).settings.settle ≠ 0 ∨
      (s.heads.get h).level ≠ (s.heads.get h).settings.level)
    (on : s.pins.limitSwitch.get h = true) : s.Stumbles (s.activate h b) h b := by
  obtain ⟨y, z, hplaced, hprepares⟩ := State.prepareBand_placed (s := s) (h := h) (b := b) notCutting slow
  have hstate : z.state = .feeding := by rw [hprepares.axis]; rfl
  have hknown : z.known = (s.axes.get h).position := by
    rw [Axis.known_of_homed (by simp [Axis.homed, hstate]), hprepares.axis]; rfl
  have hactivate : s.activate h b =
      (((s.placed h (s.started h b) y z).limitStop h).abortActive h .axisFault none .retract false).service h := by
    rw [State.activate, hplaced, State.afterActivation_on (s := s.placed h (s.started h b) y z) on
      (by rw [State.placed_axis]; exact hstate)]
  have hstop := s.placed_limitStop h (s.started h b) y z
  have hboard : s.SameBoard ((s.placed h (s.started h b) y z).limitStop h) :=
    (s.placed_board h (s.started h b) y z).trans (State.limitStop_works _ h).moves.board
  have hactive : ((s.placed h (s.started h b) y z).limitStop h).active h = some (s.started h b) := by
    rw [hstop]; exact s.placed_active h (s.started h b) y (z.lost .limitSwitch)
  have hentry : (((s.placed h (s.started h b) y z).limitStop h).link.entry (.axis h)).content =
      some (.axis .limitSwitch .unhomed .limitSwitch (s.axes.get h).position s.timestamp) := by
    rw [hstop, hknown]; exact Link.post_content ..
  have e := State.abortActive_ends hactive .axisFault none (order := .retract) (by decide) false
  have haxis : ((s.placed h (s.started h b) y z).limitStop h).axes.get h = z.lost .limitSwitch := by
    rw [hstop]; exact s.placed_axis h (s.started h b) y (z.lost .limitSwitch)
  have hhead : ((s.placed h (s.started h b) y z).limitStop h).heads.get h = y := by
    rw [hstop]; exact s.placed_head h (s.started h b) y (z.lost .limitSwitch)
  have hbands : ((s.placed h (s.started h b) y z).limitStop h).bands.get h =
      { s.bands.get h with active := some (s.started h b) } := by
    rw [hstop]; exact s.placed_bands h (s.started h b) y (z.lost .limitSwitch)
  have hfetch : ((s.placed h (s.started h b) y z).limitStop h).fetch = s.fetch := by rw [hstop]; rfl
  have hbuffers : ((s.placed h (s.started h b) y z).limitStop h).buffers = s.buffers := by rw [hstop]; rfl
  have hstore : ((s.placed h (s.started h b) y z).limitStop h).store = s.store := by rw [hstop]; rfl
  rw [hactivate]
  generalize (s.placed h (s.started h b) y z).limitStop h = v at *
  have hrecord : (v.discarding h (s.started h b)) = s.discarding h (s.started h b) := by
    rw [State.discarding, State.discarding, hfetch]
  have htime : v.timestamp = s.timestamp := by rw [State.timestamp, State.timestamp, hboard.clock]
  rw [haxis, hhead, hbands, Axis.lost_endOrder, Axis.lost_reported, hknown, hrecord, hboard.ctu, htime] at e
  have hidle := State.service_idle (s := v.abortActive h .axisFault none .retract false) (h := h)
    (congrArg BandSequencer.active e.bands)
  have hempties := e.buffers
  rw [State.emptiesBuffers, hbuffers] at hempties
  rw [hidle]
  refine ⟨?_, e.bands, e.posted, ⟨z, hknown, e.axis⟩, (congrArg NoticeEntry.content (e.entries (.axis h) rfl (by simp))).trans hentry,
    ?_, ?_, hempties, e.queue.trans (by rw [hstore])⟩
  · exact (hboard.trans e.board).trans (State.setStarved_works _ h false).moves.board
  · have hs := Head.retire_state (order := .retract) (by decide) y v.clock
    rw [← e.head] at hs
    exact hs
  · refine (congrArg Head.level e.head).trans ?_
    exact (y.retract_keeps v.clock).2.2.trans hprepares.level

/-! ### ENGRAVE as a whole -/

/-- Every check of acceptance and activation that an ENGRAVE meets on a head with no band (R126, R127). -/
theorem State.newBand_passes {p : Nat} (ready : s.ctu.ready = true) (free : (s.heads.get h).inhibit = false)
    (read : (s.bands.get h).results.length ≤ 3) (idle : s.held h = [])
    (homed : ∀ k, s.fitted k = true → (s.axes.get k).homed = true)
    (low : f.start ≤ (s.axes.get h).settings.maxpos)
    (high : f.start + (if feed = .stepped then f.count - 1 else f.count) * (s.screen f.screen).pitch ≤
      (s.axes.get h).settings.maxpos)
    (room : s.clearOf h (spanOver (s.axes.get h).settings.origin ([(s.axes.get h).position.getD 0] ++
      (s.axes.get h).target.toList ++ [f.start,
        f.start + (if feed = .stepped then f.count - 1 else f.count) * (s.screen f.screen).pitch])) = true)
    (synced : s.ctu.timing = .synced) (speed : s.ctu.speedOk = true) (period : s.ctu.lastPeriod = some p) (pos : 0 < p)
    (slowest : (s.heads.get h).settings.fmin ≤ (s.screen f.screen).n * 1000000 / p)
    (fastest : (s.screen f.screen).n * 1000000 / p ≤ (s.heads.get h).settings.fmax)
    (feeds : (s.screen f.screen).pitch * 1000000 ≤
      (s.axes.get h).settings.rate * (if feed = .stepped then (s.screen f.screen).gap * p / 65536 else p)) :
    s.acceptanceFailure h (newBand f source feed) = none ∧ s.activationFailure h (newBand f source feed) = none := by
  have hext := s.extents_newBand f source feed
  refine ⟨State.acceptanceFailure_none ready free ?_ (by simp [idle]) homed (fun x hx => ?_) ?_, ?_⟩
  · rw [State.resultLoad, idle]
    exact read
  · rw [hext] at hx
    obtain rfl | hx := List.mem_cons.mp hx
    · exact low
    · obtain rfl := List.mem_singleton.mp hx
      exact high
  · rw [← hext] at room
    rw [State.roomFor, State.spanPoints, idle, List.flatMap_nil, List.append_nil]
    exact room
  · have hcell : cellRate (s.screen f.screen).n p = (s.screen f.screen).n * 1000000 / p := if_neg (Nat.pos_iff_ne_zero.mp pos)
    rw [State.activationFailure_eq, period, Option.getD_some, show (newBand f source feed).screen = f.screen from rfl, hcell,
      if_neg (not_not.mpr synced), if_neg (by simp [speed]), if_neg (by omega), if_neg]
    rw [Bool.not_eq_false, feedPasses_iff]
    exact feeds

theorem State.respond_outbound (same : t.link = { s.link with notices := t.link.notices }) (kind tag : Byte) (r : Response)
    (busy : s.link.sending.isSome = true) : (t.respond kind tag r).settled.link.outbound =
      s.link.outbound ++ [⟨kind + 0x80, tag, r.status, r.reason, r.content⟩] := by
  have hbusy : (t.respond kind tag r).link.sending.isSome = true := by
    rw [State.respond, same]; exact busy
  rw [State.settled, Link.choose_busy hbusy, State.respond, same]

end Sys2Proof.Machine
open Sys2Proof Sys2Proof.Machine

/-- Settles O54: the checks pass, the activation is that of the card with the request handed, and the reply gives the phase
of the table with the counts behind it. -/
theorem engraveActivates : Obligations.EngraveActivates := by
  intro tag payload f h source feed x endPoint s hp hf hsrc hfeed scr hx defined_ cur cnt lst hend hfit can p a y ready ha hy
    free read idle homed low high room synced speed period pos slowest fastest stepped helical notCutting slow b ph hph hbEq
  subst hx hend ha hy
  have feeds : (s.screen f.screen).pitch * 1000000 ≤
      (s.axes.get h).settings.rate * (if feed = .stepped then (s.screen f.screen).gap * p / 65536 else p) := by
    cases feed
    · exact stepped rfl
    · exact helical rfl
  obtain ⟨accepted, starts⟩ := State.newBand_passes (s := s.handed) (source := source) ready free read idle homed low high room
    synced speed period pos slowest fastest feeds
  have hband : s.handed.bandOf f = some (newBand f source feed) :=
    State.bandOf_some (s := s.handed) hsrc hfeed scr defined_ cur cnt lst
  have htake := takeEngrave_active (s := s.handed) hf hfit hband accepted idle starts
  have hstarted : s.handed.started h (newBand f source feed) = b := by rw [hbEq, hph]; rfl
  have hphase : (((s.handed.prepareBand h (newBand f source feed)).active h).map Band.phase).getD .pending = ph := by
    obtain ⟨y, z, hplaced, -⟩ := State.prepareBand_placed (s := s.handed) (h := h) (b := newBand f source feed) notCutting
      (.inr slow)
    rw [hplaced, State.placed_active, hstarted, hbEq]
    rfl
  rw [hphase] at htake
  have hexec := State.request_done (owner := takeEngrave) can hp htake
  have hwaiting : (s.bands.get h).waiting = none := by
    have := idle
    unfold State.held at this
    cases e : (s.bands.get h).waiting with
    | none => rfl
    | some p => simp [e] at this
  refine ⟨fun on => ?_, fun off empty empty0 empty1 => ?_⟩
  · have st := State.activate_stumbles (s := s.handed) (h := h) (b := newBand f source feed) notCutting (.inr slow) on
    generalize s.handed.activate h (newBand f source feed) = t at st hexec
    obtain ⟨board, hbands, posted, ⟨z, hknown, haxis⟩, fault, head, level, buffers, queue⟩ := st
    rw [hstarted, State.handed_bands, hwaiting] at hbands
    have hheld : t.held h = [] := by rw [State.held, hbands]; rfl
    have hlength : (t.bands.get h).results.length = (s.bands.get h).results.length + 1 := by simp [hbands]
    refine ⟨_, hexec, hbands, State.endPosted_answered posted .., ?_, ?_, (State.settled_content _ _).trans fault, head, level,
      State.emptiesBuffers_answered buffers .., queue, fun busy => ?_⟩
    · rw [State.settled_axes, State.respond_axes, haxis, Axis.lost, hknown]; rfl
    · rw [State.settled_axes, State.respond_axes, haxis]; rfl
    · rw [State.respond_outbound (s := s.handed) board.link _ _ _ busy, engraveContent, hheld, hlength]
      rfl
  · have st := State.activate_starts (s := s.handed) (h := h) (b := newBand f source feed) notCutting (.inr slow) off empty
    have fill := fun patch => State.activate_fills (s := s.handed) (h := h) (b := newBand f source feed) notCutting (.inr slow)
      off patch empty0 empty1 (by unfold Band.last; exact Nat.le_sub_one_of_lt (Nat.lt_add_of_pos_right cnt))
    generalize s.handed.activate h (newBand f source feed) = t at st hexec fill
    obtain ⟨⟨hcontext, htable, -, haxis, horders⟩, hbands, board, reach, -, -, hstore⟩ := st
    rw [hstarted] at hbands
    replace hbands := hbands.trans (congrArg (fun w => BandSequencer.mk (some b) w (s.bands.get h).results) hwaiting)
    have hheld : t.held h = [b] := by rw [State.held, hbands]; rfl
    have hlength : (t.bands.get h).results.length = (s.bands.get h).results.length := by simp [hbands]
    have hcell : cellRate (s.screen f.screen).n p = (s.screen f.screen).n * 1000000 / p := if_neg (Nat.pos_iff_ne_zero.mp pos)
    refine ⟨_, hexec, hbands, ?_, ?_, horders, congrArg Axis.state haxis, congrArg Axis.target haxis,
      (congrArg Axis.position haxis).trans rfl, congrArg Axis.feed haxis, hstore, fill, fun busy => ?_, fun g ne => ?_⟩
    · refine hcontext.trans ?_
      rw [State.handed_ctu, period, Option.getD_some, ← hcell]
      rfl
    · exact congrArg (Option.map DepthTable.entries) htable
    · rw [State.respond_outbound (s := s.handed) board.link _ _ _ busy, engraveContent, hheld, hlength]
      rfl
    · have same := reach.others g ne
      exact ⟨same.head, same.axis, same.bands, same.buffers⟩
end

section
/-! A complete track that its band waits for, behind a queue of older tracks: the stale discards and the grant (R61, R72 to
R78). -/

namespace Sys2Proof.Machine

variable {s t u : State} {h g : HeadId} {b c : Band} {d : Descriptor} {old : List Descriptor} {st : Store} {x : Quad Bool}
  {notices : Vector NoticeEntry 34}

/-! ### The card that a look works on -/

/-- The card with the band, the store but for its starvation states, and the notice table as they then stand. -/
def State.awaited (s : State) (h : HeadId) (c : Band) (st : Store) (x : Quad Bool) (notices : Vector NoticeEntry 34) : State :=
  { s with
    bands := s.bands.set h { s.bands.get h with active := some c }
    store := { st with starved := x }
    link := { s.link with notices := notices } }

theorem State.awaited_active (s : State) (h : HeadId) (c : Band) (st : Store) (x : Quad Bool) (notices : Vector NoticeEntry 34) :
    (s.awaited h c st x notices).active h = some c := by simp [State.awaited, State.active]

theorem State.awaited_evalStarvation (s : State) (h : HeadId) (c : Band) (st : Store) (x : Quad Bool) (notices : Vector NoticeEntry 34) :
    ∃ x' notices', (s.awaited h c st x notices).evalStarvation h = s.awaited h c st x' notices' := by
  obtain ⟨x', notices', e⟩ := (s.awaited h c st x notices).evalStarvation_eq h
  exact ⟨_, _, e⟩

theorem State.awaited_wants {m : Nat} (phase : c.phase ≠ .pending) (empty : (s.buffers.get h).standby.held = .empty)
    (next : nextToLoad (s.buffers.get h) c.first = m) (within : m ≤ c.last) :
    (s.awaited h c st x notices).wants h = some (c, m) := by
  rw [State.wants, State.awaited_active]
  dsimp only
  rw [show (s.awaited h c st x notices).buffers = s.buffers from rfl, next]
  exact if_pos ⟨phase, empty, within⟩

/-- The older tracks of a queue are its stale front (R61, R72). -/
theorem staleFront_older {m : Nat} (older : ∀ e ∈ old, e.number < m) (hd : d.number = m) : staleFront m (old ++ [d]) = old := by
  rw [staleFront, List.takeWhile_append_of_pos (by simpa using older)]
  simp [hd]

/-- The band with older tracks counted as stale (R61). -/
def Band.staled (b : Band) (old : List Descriptor) : Band :=
  if old = [] then b else { b with stale := min 4294967295 (b.stale + old.length) }

/-- The store after the stale discards of the older tracks, with the awaited one at the front (R60, R61). -/
def Store.weeded (st : Store) (h : HeadId) (old : List Descriptor) (d : Descriptor) : Store :=
  { st with
    free := st.free.give (old.flatMap Descriptor.pages)
    freeDescriptors := st.freeDescriptors + old.length
    queues := st.queues.set h [d] }

theorem State.awaited_discardStale {m : Nat} (queue : st.queues.get h = old ++ [d]) (older : ∀ e ∈ old, e.number < m)
    (hd : d.number = m) : ∃ x' notices', (s.awaited h b st x notices).discardStale h m =
      s.awaited h (b.staled old) (st.weeded h old d) x' notices' := by
  have hfront : staleFront m ((s.awaited h b st x notices).store.queues.get h) = old := by
    rw [show (s.awaited h b st x notices).store.queues = st.queues from rfl, queue]
    exact staleFront_older older hd
  unfold State.discardStale
  dsimp only
  rw [hfront]
  cases old with
  | nil =>
    have hsame : st.weeded h [] d = st := by
      have hq : st.queues.set h [d] = st.queues := by
        rw [List.nil_append] at queue
        exact queue ▸ Quad.set_get ..
      rw [Store.weeded, hq]
      simp [FreePages.give]
    refine ⟨x, notices, ?_⟩
    rw [hsame]
    rfl
  | cons e es =>
    obtain ⟨x', notices', e'⟩ := s.awaited_evalStarvation h (b.staled (e :: es)) (st.weeded h (e :: es) d) x notices
    refine ⟨x', notices', ?_⟩
    rw [← e']
    have hdrop : ((s.awaited h b st x notices).store.queues.get h).drop (e :: es).length = [d] := by
      rw [show (s.awaited h b st x notices).store.queues = st.queues from rfl, queue, List.drop_left]
    rw [hdrop]
    simp [State.updActive, State.active, State.awaited, State.setActive, State.updBands, Band.staled, Store.weeded,
      Store.giveBack, Store.setQueue, addCount, counterMax]

theorem State.awaited_eligible (phase : c.phase ≠ .pending) (store : c.source = .store)
    (empty : (s.buffers.get h).standby.held = .empty) (next : nextToLoad (s.buffers.get h) c.first = d.number)
    (within : d.number ≤ c.last) (queue : st.queues.get h = [d]) (complete : d.complete = true) :
    (s.awaited h c st x notices).eligibleFor h = some d := by
  have hqueue : (s.awaited h c st x notices).store.queues.get h = [d] := queue
  rw [State.eligibleFor, State.awaited_wants phase empty next within, hqueue]
  simp [store, complete]

theorem Band.staled_first (b : Band) (old : List Descriptor) : (b.staled old).first = b.first := by
  unfold Band.staled; split <;> rfl

theorem Band.staled_last (b : Band) (old : List Descriptor) : (b.staled old).last = b.last := by
  unfold Band.staled; split <;> rfl

theorem Band.staled_phase (b : Band) (old : List Descriptor) : (b.staled old).phase = b.phase := by
  unfold Band.staled; split <;> rfl

theorem Band.staled_source (b : Band) (old : List Descriptor) : (b.staled old).source = b.source := by
  unfold Band.staled; split <;> rfl

/-- A descriptor with the highest number joins the end of the queue (R51). -/
theorem insertDescriptor_last {q : List Descriptor} (older : ∀ e ∈ q, e.number < d.number) : insertDescriptor d q = q ++ [d] := by
  induction q with
  | nil => rfl
  | cons e q ih =>
    have hlow := older e (List.mem_cons_self ..)
    rw [insertDescriptor, if_neg (by omega), ih fun y hy => older y (List.mem_cons_of_mem _ hy)]
    rfl

/-- The look behind the opening of the awaited track finds it at the front and grants it, or asks for the port (R72, R73). -/
theorem State.service_awaited (hb : s.active h = some b) (store : b.source = .store) (phase : b.phase ≠ .pending)
    (empty : (s.buffers.get h).standby.held = .empty) (next : nextToLoad (s.buffers.get h) b.first = d.number)
    (within : d.number ≤ b.last) (queue : st.queues.get h = old ++ [d]) (older : ∀ e ∈ old, e.number < d.number)
    (complete : d.complete = true) : ∃ x notices u, u = s.awaited h (b.staled old) (st.weeded h old d) x notices ∧
      u.eligibleFor h = some d ∧
      ({ s with store := st } : State).service h = if d.kind = .data then u.arbitrate else u.grantInPlace h d := by
  have hplain : ({ s with store := st } : State) = s.awaited h b st st.starved s.link.notices := by
    rw [State.awaited, ← hb]
    exact congrArg (fun q => { s with bands := q, store := st }) (Quad.set_get s.bands h).symm
  obtain ⟨x1, n1, heval⟩ := s.awaited_evalStarvation h b st st.starved s.link.notices
  obtain ⟨x2, n2, hstale⟩ := State.awaited_discardStale (s := s) (b := b) (x := x1) (notices := n1) queue older rfl
  have hwants := State.awaited_wants (s := s) (h := h) (c := b) (st := st) (x := x1) (notices := n1) phase empty next within
  have heligible := State.awaited_eligible (s := s) (h := h) (c := b.staled old) (st := st.weeded h old d) (x := x2)
    (notices := n2) (d := d) (by rw [Band.staled_phase]; exact phase) (by rw [Band.staled_source]; exact store) empty
    (by rw [Band.staled_first]; exact next) (by rw [Band.staled_last]; exact within) (by simp [Store.weeded]) complete
  refine ⟨x2, n2, _, rfl, heligible, ?_⟩
  rw [hplain, State.service, heval]
  simp only [hwants, store, State.look, hstale, heligible]
  cases d.kind <;> rfl

end Sys2Proof.Machine
end

section
/-! The grant of the awaited track, by its kind, and a grant that is refused (R74 to R78). -/

namespace Sys2Proof.Machine

variable {s t u : State} {h g : HeadId} {b c : Band} {d : Descriptor}

/-! ### The read port -/

theorem State.asking_congr (bands : t.bands.get g = s.bands.get g) (buffers : t.buffers.get g = s.buffers.get g)
    (queue : t.store.queues.get g = s.store.queues.get g) : t.asking g = s.asking g := by
  simp only [State.asking, State.eligibleFor, State.wants, State.active, bands, buffers, queue]

theorem State.arbitrateUpTo_quiet (quiet : ∀ g, s.asking g = none) (tries : Nat) : s.arbitrateUpTo tries = s := by
  have hc : s.arbiterChoice = none := by
    cases hc : s.arbiterChoice with
    | none => rfl
    | some h => simpa [quiet h] using (State.arbiterChoice_some hc).1
  cases tries with
  | zero => rfl
  | succ n =>
    rw [State.arbitrateUpTo, hc]
    cases s.fetch.copy <;> rfl

/-- The one head that asks is chosen (R74). -/
theorem State.arbiterChoice_alone (asks : s.asking h = some d) (alone : ∀ g, g ≠ h → s.asking g = none) :
    s.arbiterChoice = some h := by
  cases hc : s.arbiterChoice with
  | none => exact absurd (State.arbiterChoice_none hc h) (by simp [asks])
  | some g =>
    obtain ⟨hg, -⟩ := State.arbiterChoice_some hc
    by_cases e : g = h
    · rw [e]
    · exact absurd hg (by simp [alone g e])

/-! ### A refused grant -/

/-- The end of a band leaves the store as it is, with the head FED (R66). -/
theorem State.abortClosed_store (idle : s.active h = none) (b : Band) (cause : Cause) (detail : Option CauseDetail)
    (order : Retire) (atBoundary : Bool) : (s.abortClosed h b cause detail order atBoundary).store =
      { s.store with starved := s.store.starved.set h false } ∧
    (s.abortClosed h b cause detail order atBoundary).fetch = s.fetch := by
  have hdwell : ∀ v : State, (v.dwellIdle h).store = v.store ∧ (v.dwellIdle h).fetch = v.fetch := fun v => by
    unfold State.dwellIdle; split <;> exact ⟨rfl, rfl⟩
  have hend : ∀ v : State, (v.endPending h .aborted .precedingAbort).store = v.store ∧
      (v.endPending h .aborted .precedingAbort).fetch = v.fetch := fun v => by
    unfold State.endPending; split <;> exact ⟨rfl, rfl⟩
  have hclose : (s.closeBand h b .aborted cause detail order atBoundary).store =
      { s.store with starved := s.store.starved.set h false } ∧
      (s.closeBand h b .aborted cause detail order atBoundary).fetch = s.fetch := by
    rw [State.closeBand, State.evalStarvation_idle (s := s.updBuffers h LineBuffers.emptied) idle]
    refine ⟨?_, ?_⟩ <;> simp only [State.file, State.post, State.updBands, State.updAxis, State.updHead, State.setStarved,
      State.updBuffers]
  rw [State.abortClosed, (hdwell _).1, (hdwell _).2, (hend _).1, (hend _).2]
  exact hclose

/-- The card that a refused grant leaves of the queue and of the pages (R60, R75). -/
def State.returned (s : State) (h : HeadId) (d : Descriptor) : State :=
  ({ s with store := (s.store.grantFront h).giveBack d.pages } : State).setActive h none

theorem State.refuseGrant_eq (hb : s.active h = some b) (d : Descriptor) :
    s.refuseGrant h d = (s.returned h d).abortClosed h b .trackLength none .retract false := by
  rw [State.refuseGrant]
  have : ({ s with store := (s.store.grantFront h).giveBack d.pages } : State).active h = some b := hb
  simp only [this]
  rfl

/-- The band of a refused grant ends TRACK_LENGTH (R75, R140). -/
theorem State.refuseGrant_ends (hb : s.active h = some b) (alone : (s.bands.get h).waiting = none) (d : Descriptor) :
    s.endsBand (s.refuseGrant h d) h b .aborted .trackLength false := by
  have hidle : (s.returned h d).active h = none := State.setActive_active ..
  have e := (State.closeBand_ends hidle b .aborted .trackLength none .retract false).endPending .aborted .precedingAbort
  have hbands : (s.returned h d).bands.get h = ⟨none, none, (s.bands.get h).results⟩ := by
    simp [State.returned, State.setActive, State.updBands, alone]
  rw [hbands] at e
  replace e := e.dwellIdle rfl
  rw [Head.dwell_of_away (Head.retire_state (by decide) _ _)] at e
  rw [State.refuseGrant_eq hb]
  obtain ⟨hgone, hhead, hhomed, hfeed, hbuffers, hposted, hrecord⟩ :=
    State.Ends.ends (s := s.returned h d) (c := b) (cls := .aborted) (cause := .trackLength) (atBoundary := false)
      (t := (s.returned h d).abortClosed h b .trackLength none .retract false)
      (x := ((s.returned h d).heads.get h).retire .retract (s.returned h d).clock) (by rw [hbands, State.abortClosed]; simpa using e)
      (by rw [if_pos rfl]; exact Head.retract_retracts _ _)
  rw [hbands] at hrecord
  exact ⟨hgone, hhead, hhomed, hfeed, hbuffers, hposted, hrecord⟩

theorem State.refuseGrant_store (hb : s.active h = some b) (d : Descriptor) :
    (s.refuseGrant h d).store = { (s.store.grantFront h).giveBack d.pages with
      starved := s.store.starved.set h false } ∧ (s.refuseGrant h d).fetch = s.fetch := by
  have hidle : (s.returned h d).active h = none := State.setActive_active ..
  rw [State.refuseGrant_eq hb]
  exact State.abortClosed_store hidle ..

/-- A refused DATA grant of the one head that asks leaves the port FREE (R74, R75). -/
theorem State.arbitrate_refuses (free : s.fetch.copy = none) (asks : s.asking h = some d)
    (alone : ∀ g, g ≠ h → s.asking g = none) (hb : s.active h = some b) (ne : d.n ≠ s.contextN h) :
    s.arbitrate = s.refuseGrant h d := by
  have hquiet : ∀ g, (s.refuseGrant h d).asking g = none := fun g => by
    by_cases e : g = h
    · subst e
      refine State.asking_inactive ?_
      rw [State.refuseGrant_eq hb]
      exact (State.abortClosed_active ..).trans (State.setActive_active ..)
    · have hlocal : s.SameAt (s.refuseGrant h d) g := by
        rw [State.refuseGrant_eq hb]
        refine State.SameAt.trans (t := s.returned h d) ?_ ((State.abortClosed_local _ h ..).others g e)
        exact ⟨rfl, rfl, by simp [State.returned, State.setActive, State.updBands, e], rfl,
          by simp [State.returned, State.setActive, State.updBands, Store.giveBack, Store.grantFront, e], rfl, rfl, fun _ _ => rfl⟩
      rw [State.asking_congr hlocal.bands hlocal.buffers hlocal.queue, alone g e]
  rw [State.arbitrate, State.arbitrateUpTo, free, State.arbiterChoice_alone asks alone]
  simp only [asks, if_neg ne]
  exact State.arbitrateUpTo_quiet hquiet 4

end Sys2Proof.Machine
end

section
/-! TRACK with the track that its band waits for (R72 to R78). -/

namespace Sys2Proof.Machine

variable {s t u : State} {h g : HeadId} {b c : Band} {d : Descriptor}

/-- From `u` to `t` the front descriptor of head h's queue has been granted (R60). -/
structure State.Grants (u t : State) (h : HeadId) : Prop where
  queue : t.store.queues.get h = (u.store.queues.get h).tail
  descriptors : t.store.freeDescriptors = u.store.freeDescriptors + 1
  free : t.store.free = u.store.free
  dram : t.store.dram = u.store.dram
  standing : (t.buffers.get h).active = (u.buffers.get h).active

/-- The grant of a DATA track (R76). -/
theorem State.startCopy_grants (u : State) (h : HeadId) (d : Descriptor) : u.Grants (u.startCopy h d) h ∧
    (u.startCopy h d).active h = u.active h ∧
    (u.startCopy h d).fetch = { u.fetch with copy := some ⟨h, d.number, d.n, d.pages, u.timestamp, u.clock + ceilDiv d.n 256⟩ } ∧
    ((u.startCopy h d).buffers.get h).standby.held = .loading ⟨d.number, .data, d.n⟩ := by
  rw [State.startCopy]
  dsimp only
  obtain ⟨x, notices, e⟩ := (({ u with
    store := u.store.grantFront h
    fetch := { u.fetch with
      copy := some ⟨h, d.number, d.n, d.pages, u.timestamp, u.clock + ceilDiv d.n 256⟩ } } : State).setStandby h
        (.loading ⟨d.number, .data, d.n⟩)).evalStarvation_eq h
  rw [e]
  refine ⟨⟨?_, rfl, rfl, rfl, ?_⟩, rfl, rfl, ?_⟩
  · simp [State.setStandby, State.updBuffers, Store.grantFront]
  · simp [State.setStandby, State.updBuffers]
  · simp [State.setStandby, State.updBuffers]

/-- Whether a REPEAT has no source (R78). -/
def State.sourceless (u : State) (h : HeadId) (d : Descriptor) : Bool :=
  decide (d.kind = .again) && (repeatSource (u.buffers.get h).active).isNone

/-- The grant of a BLANK or REPEAT track (R77, R78). -/
theorem State.grantInPlace_grants (hb : u.active h = some c) (same : d.n = u.contextN h) :
    u.Grants (u.grantInPlace h d) h ∧
    (u.grantInPlace h d).active h =
      (if u.sourceless h d then some { c with sourceless := min 4294967295 (c.sourceless + 1) } else some c) ∧
    (u.grantInPlace h d).fetch = u.fetch ∧ (u.grantInPlace h d).buffers.get h = (u.buffers.get h).loadInPlace d := by
  have hload : ((u.buffers.get h).loadInPlace d).active = (u.buffers.get h).active := by
    unfold LineBuffers.loadInPlace
    split <;> simp
  obtain ⟨v, hv⟩ : ∃ v, v = if u.sourceless h d then
      ({ u with store := u.store.grantFront h } : State).updActive h fun b => { b with sourceless := addCount b.sourceless 1 }
      else { u with store := u.store.grantFront h } := ⟨_, rfl⟩
  have hgrant : u.grantInPlace h d = (v.updBuffers h fun b => b.loadInPlace d).evalStarvation h := by
    rw [State.grantInPlace, if_pos same, hv]
    rfl
  obtain ⟨x, notices, e⟩ := (v.updBuffers h fun b => b.loadInPlace d).evalStarvation_eq h
  have hstore : v.store = u.store.grantFront h := by rw [hv]; split <;> rfl
  have hbuffers : v.buffers = u.buffers := by rw [hv]; split <;> rfl
  have hfetch : v.fetch = u.fetch := by rw [hv]; split <;> rfl
  have hactive : v.active h =
      if u.sourceless h d then some { c with sourceless := min 4294967295 (c.sourceless + 1) } else some c := by
    rw [hv]
    have hgranted : ({ u with store := u.store.grantFront h } : State).active h = some c := hb
    split
    · simp [State.updActive, hgranted, addCount, counterMax]
    · exact hgranted
  rw [hgrant, e]
  refine ⟨⟨?_, ?_, ?_, ?_, ?_⟩, hactive, hfetch, ?_⟩
  · simp [State.updBuffers, hstore, Store.grantFront]
  · simp [State.updBuffers, hstore, Store.grantFront]
  · simp [State.updBuffers, hstore, Store.grantFront]
  · simp [State.updBuffers, hstore, Store.grantFront]
  · simp [State.updBuffers, hbuffers, hload]
  · simp [State.updBuffers, hbuffers]

theorem LineBuffers.loadInPlace_blank (x : LineBuffers) (blank : d.kind = .blank) :
    (x.loadInPlace d).standby.held = .loaded ⟨d.number, .blank, d.n⟩ := by
  unfold LineBuffers.loadInPlace
  rw [blank]
  simp

theorem LineBuffers.loadInPlace_sourceless {x : LineBuffers} (again : d.kind = .again) (none_ : repeatSource x.active = none) :
    (x.loadInPlace d).standby.held = .loaded ⟨d.number, .blank, d.n⟩ := by
  unfold LineBuffers.loadInPlace
  rw [again, none_]
  simp

/-- A REPEAT copies the tones of its source (R78). -/
theorem LineBuffers.loadInPlace_repeats {x : LineBuffers} {tones : Memory} (again : d.kind = .again)
    (source : repeatSource x.active = some tones) : (x.loadInPlace d).standby.held = .loaded ⟨d.number, .again, d.n⟩ ∧
      ∀ i < d.n, Memory.read (x.loadInPlace d).standby.tones i = Memory.read tones i := by
  unfold LineBuffers.loadInPlace
  rw [again, source]
  refine ⟨by simp, fun i hi => ?_⟩
  simp only [LineBuffers.standby_setStandby]
  rw [Memory.read_writeRun, if_pos ⟨Nat.zero_le _, by simpa using hi⟩]
  simp [Memory.readRun, hi]

theorem repeatSource_some {x : LineBuffer} {tr : BufferTrack} (loaded : x.held = .loaded tr) (full : tr.kind ≠ .blank) :
    repeatSource x = some x.tones := by
  unfold repeatSource
  rw [loaded]
  exact if_neg full

theorem repeatSource_none {x : LineBuffer} (blank : ∀ tr, x.held = .loaded tr → tr.kind = .blank) : repeatSource x = none := by
  unfold repeatSource
  split
  · next tr e => exact if_pos (blank tr e)
  · rfl
  · rfl

end Sys2Proof.Machine
open Sys2Proof Sys2Proof.Machine

/-- Settles O42: the opened track is found at the front of the cleared queue, and granted by its kind or refused. -/
theorem wantedTrackIsGranted : Obligations.WantedTrackIsGranted := by
  intro tag payload f kind h b c s old pages free hp hf hkind hoff lo hi hlen hfit can hold room older hfd hpages htake hb store
    phase behind empty next within port hc
  obtain ⟨d, hd⟩ : ∃ d : Descriptor, d = ⟨f.number, kind, f.n, f.tones.length, pages⟩ := ⟨_, rfl⟩
  obtain ⟨st, hst⟩ : ∃ st, st = s.store.openTrack h kind f.number f.n f.tones := ⟨_, rfl⟩
  rw [← pagesFor_eq] at htake
  have hnumber : d.number = f.number := by rw [hd]
  have hdn : d.n = f.n := by rw [hd]
  have hdk : d.kind = kind := by rw [hd]
  have older' : ∀ e ∈ old, e.number < d.number := by rw [hnumber]; exact older
  have hopened : st = { s.store with
      dram := storeTones pages 0 f.tones s.store.dram, free := free, freeDescriptors := s.store.freeDescriptors - 1
      queues := s.store.queues.set h (old ++ [d]) } := by
    rw [hst, Store.openTrack, ← htake, hold, ← insertDescriptor_last older', hd]
  have hfind : s.handed.store.find h f.number = none := by
    simp only [Store.find, State.handed_store, hold, List.find?_eq_none]
    exact fun e he => by simpa using Nat.ne_of_lt (older e he)
  have hpass : s.handed.openingRefusal h f kind = none := by
    refine State.openingRefusal_none (s := s.handed) ?_ ?_ (by rw [State.handed_store, hold]; exact room) (fun opens => ?_) hfd ?_
    · rw [State.behind, show s.handed.active h = some b from hb]
      simpa using behind
    · rw [Bool.eq_false_iff, Ne, openingTooLong_iff]; omega
    · obtain ⟨hdata, short⟩ := (opensFilling_iff f kind).mp opens
      rw [if_pos hdata] at hlen
      omega
    · rw [pagesFor_eq]
      split
      · next hdata => exact hpages hdata
      · exact Nat.zero_le _
  have complete : d.complete = true := by
    unfold Descriptor.complete
    rw [hd]
    cases kind with
    | data => simpa using hlen
    | blank => rfl
    | again => rfl
  obtain ⟨x, notices, u, hu, heligible, hservice⟩ := State.service_awaited (s := s.handed) (st := st) (old := old) hb store phase
    empty (hnumber ▸ next) (hnumber ▸ within) (by rw [hopened]; simp) older' complete
  have hexec := exec_track_taken (u := s.handed.openChunk h f kind) can hp hf hkind lo hi hfit
    (takeChunk_opened (s := s.handed) hfind hoff hpass)
  have hchunk : s.handed.openChunk h f kind = if d.kind = .data then u.arbitrate else u.grantInPlace h d := by
    rw [← hservice, hst]; rfl
  have hactive : u.active h = some c := by
    rw [hu, State.awaited_active, hc]; rfl
  have hcontext : u.contextN h = s.contextN h := by rw [hu]; rfl
  have hqueue : u.store.queues.get h = [d] := by rw [hu]; simp [State.awaited, Store.weeded]
  have hdescriptors : u.store.freeDescriptors + 1 = s.store.freeDescriptors + old.length := by
    rw [hu, hopened]
    simp only [State.awaited, Store.weeded]
    omega
  have hfree : u.store.free = free.give (old.flatMap Descriptor.pages) := by rw [hu, hopened]; rfl
  have hdram : u.store.dram = storeTones pages 0 f.tones s.store.dram := by rw [hu, hopened]; rfl
  have hbuffers : u.buffers = s.buffers := by rw [hu]; rfl
  have hfetch : u.fetch = s.fetch := by rw [hu]; rfl
  have hwaiting : (u.bands.get h).waiting = (s.bands.get h).waiting := by rw [hu]; simp [State.awaited]
  have hasks : kind = .data → u.asking h = some d := fun data => by
    rw [State.asking, heligible]
    simp [hdk, data]
  have halone : kind = .data → ∀ g, g ≠ h → u.asking g = none := fun data g ne => by
    rw [← (port data).2 g ne]
    refine State.asking_congr ?_ ?_ ?_
    · rw [hu]; simp [State.awaited, ne]
    · rw [hbuffers]
    · rw [hu, hopened]; simp [State.awaited, Store.weeded, ne]
  have hidle : kind = .data → u.fetch.copy = none := fun data => by rw [hfetch]; exact (port data).1
  generalize s.handed.openChunk h f kind = v at hexec hchunk
  rw [hdk] at hchunk
  by_cases same : s.contextN h = f.n
  · have hsame : d.n = u.contextN h := by rw [hdn, hcontext, same]
    have hdata : kind = .data → v = u.startCopy h d := fun data => by
      rw [hchunk, if_pos data, State.arbitrate_grants (hidle data) (State.arbiterChoice_alone (hasks data) (halone data))
        (hasks data) hsame]
    have hplace : kind ≠ .data → v = u.grantInPlace h d := fun other => by rw [hchunk, if_neg other]
    have hgrants : u.Grants v h := by
      by_cases data : kind = .data
      · rw [hdata data]; exact (u.startCopy_grants h d).1
      · rw [hplace data]; exact (State.grantInPlace_grants hactive hsame).1
    refine ⟨_, hexec, ?_, hgrants.descriptors.trans hdescriptors, fun _ => ⟨?_, ?_, fun data => ?_, fun blank => ?_, fun again =>
      ⟨fun tr loaded full => ?_, fun blank => ?_⟩⟩, fun ne => absurd same ne⟩
    · exact hgrants.queue.trans (by rw [hqueue]; rfl)
    · exact (congrArg FreePages.toList (hgrants.free.trans hfree)).trans (FreePages.give_toList ..)
    · exact hgrants.standing.trans (by rw [hbuffers])
    · obtain ⟨-, hact, hfe, hst'⟩ := u.startCopy_grants h d
      rw [← hdata data] at hact hfe hst'
      refine ⟨hact.trans hactive, hfe.trans ?_, hst'.trans ?_, hgrants.dram.trans hdram⟩
      · rw [hu, hd]; rfl
      · rw [hd]
    · obtain ⟨-, hact, hfe, hbuf⟩ := State.grantInPlace_grants hactive hsame
      have hsource : u.sourceless h d = false := by rw [State.sourceless, hdk, blank]; rfl
      rw [hsource, ← hplace (by rw [blank]; decide)] at hact
      rw [← hplace (by rw [blank]; decide)] at hfe hbuf
      refine ⟨hact, hfe.trans hfetch, (congrArg (fun y => (LineBuffers.standby y).held) hbuf).trans ?_⟩
      rw [LineBuffers.loadInPlace_blank _ (hdk.trans blank), hnumber, hdn]
    · obtain ⟨-, hact, hfe, hbuf⟩ := State.grantInPlace_grants hactive hsame
      have hrepeat := repeatSource_some loaded full
      rw [← hbuffers] at hrepeat
      have hsource : u.sourceless h d = false := by rw [State.sourceless, hrepeat]; simp
      rw [hsource, ← hplace (by rw [again]; decide)] at hact
      rw [← hplace (by rw [again]; decide)] at hfe hbuf
      obtain ⟨hheld, htones⟩ := LineBuffers.loadInPlace_repeats (hdk.trans again) hrepeat
      rw [← hbuf, hnumber, hdn] at hheld
      rw [← hbuf, hdn, hbuffers] at htones
      exact ⟨hact, hfe.trans hfetch, hheld, htones⟩
    · obtain ⟨-, hact, hfe, hbuf⟩ := State.grantInPlace_grants hactive hsame
      have hrepeat := repeatSource_none blank
      rw [← hbuffers] at hrepeat
      have hsource : u.sourceless h d = true := by rw [State.sourceless, hrepeat, hdk, again]; rfl
      rw [hsource, ← hplace (by rw [again]; decide)] at hact
      rw [← hplace (by rw [again]; decide)] at hfe hbuf
      refine ⟨hact, hfe.trans hfetch, (congrArg (fun y => (LineBuffers.standby y).held) hbuf).trans ?_⟩
      rw [LineBuffers.loadInPlace_sourceless (hdk.trans again) hrepeat, hnumber, hdn]
  · have hne : d.n ≠ u.contextN h := by rw [hdn, hcontext]; exact fun e => same e.symm
    have hrefuse : v = u.refuseGrant h d := by
      rw [hchunk]
      split
      · next data => exact State.arbitrate_refuses (hidle data) (hasks data) (halone data) hactive hne
      · rw [State.grantInPlace, if_neg hne]
    obtain ⟨hsto, hfe⟩ := State.refuseGrant_store hactive d
    rw [← hrefuse] at hsto hfe
    refine ⟨_, hexec, ?_, ?_, fun e => absurd e same, fun _ alone => ⟨?_, hfe.trans hfetch, ?_, ?_⟩⟩
    · refine (congrArg (fun q : Store => q.queues.get h) hsto).trans ?_
      simp [Store.giveBack, Store.grantFront, hqueue]
    · exact (congrArg Store.freeDescriptors hsto).trans hdescriptors
    · refine (congrArg (fun q : Store => q.free.toList) hsto).trans ?_
      simp [Store.giveBack, Store.grantFront, hfree, hd]
    · refine (congrArg (fun q : Store => q.starved.get h) hsto).trans ?_
      simp
    · have e := State.refuseGrant_ends hactive (hwaiting.trans alone) d
      rw [← hrefuse] at e
      obtain ⟨hgone, hhead, hhomed, hfeed, hbuf, hposted, hrecord⟩ := e
      have hresults : (u.bands.get h).results = (s.bands.get h).results := by rw [hu]; simp [State.awaited]
      rw [hresults] at hrecord
      rw [State.emptiesBuffers, hbuffers] at hbuf
      subst hu
      exact ⟨hgone, hhead, hhomed, hfeed, hbuf, State.endPosted_answered hposted .., hrecord⟩

end

section
/-! Reserved spans and the separation law (R108, R109): what a span covers, what narrows it, and what the tests of the law
say. -/

namespace Sys2Proof.Machine

variable {s t u : State} {g h k : HeadId} {a b : Nat × Nat}

/-! ### Ranges over points -/

theorem lowest_le {x : Nat} {ps : List Nat} (hx : x ∈ ps) : lowest ps ≤ x := by
  induction ps with
  | nil => cases hx
  | cons y ys ih =>
    cases ys with
    | nil => rw [List.mem_singleton.mp hx]; rfl
    | cons z zs =>
      obtain rfl | hx := List.mem_cons.mp hx
      · exact Nat.min_le_left ..
      · exact (Nat.min_le_right ..).trans (ih hx)

theorem le_highest {x : Nat} {ps : List Nat} (hx : x ∈ ps) : x ≤ highest ps := by
  induction ps with
  | nil => cases hx
  | cons y ys ih =>
    obtain rfl | hx := List.mem_cons.mp hx
    · exact Nat.le_max_left ..
    · exact (ih hx).trans (Nat.le_max_right ..)

theorem lowest_mem {ps : List Nat} (ne : ps ≠ []) : lowest ps ∈ ps := by
  induction ps with
  | nil => exact absurd rfl ne
  | cons y ys ih =>
    cases ys with
    | nil => exact List.mem_cons_self
    | cons z zs =>
      have hmin : lowest (y :: z :: zs) = min y (lowest (z :: zs)) := rfl
      rw [hmin]
      obtain e | e := Nat.le_total y (lowest (z :: zs))
      · rw [Nat.min_eq_left e]; exact List.mem_cons_self
      · rw [Nat.min_eq_right e]; exact List.mem_cons_of_mem _ (ih (by simp))

theorem highest_mem {ps : List Nat} (ne : ps ≠ []) : highest ps ∈ ps := by
  induction ps with
  | nil => exact absurd rfl ne
  | cons y ys ih =>
    cases ys with
    | nil => simp [highest]
    | cons z zs =>
      have hmax : highest (y :: z :: zs) = max y (highest (z :: zs)) := rfl
      rw [hmax]
      obtain e | e := Nat.le_total y (highest (z :: zs))
      · rw [Nat.max_eq_right e]; exact List.mem_cons_of_mem _ (ih (by simp))
      · rw [Nat.max_eq_left e]; exact List.mem_cons_self

/-- A range lies within another. -/
def within (b a : Nat × Nat) : Prop := a.1 ≤ b.1 ∧ b.2 ≤ a.2

theorem within.refl (a : Nat × Nat) : within a a := ⟨le_rfl, le_rfl⟩

theorem within.trans {c : Nat × Nat} (hc : within c b) (hb : within b a) : within c a :=
  ⟨hb.1.trans hc.1, hc.2.trans hb.2⟩

/-- Points that lie between others span no more. -/
theorem spanOver_within {origin : Nat} {ps qs : List Nat} (ne : qs ≠ [])
    (between : ∀ x ∈ qs, lowest ps ≤ x ∧ x ≤ highest ps) : within (spanOver origin qs) (spanOver origin ps) :=
  ⟨Nat.add_le_add_left (between _ (lowest_mem ne)).1 _, Nat.add_le_add_left (between _ (highest_mem ne)).2 _⟩

theorem spanOver_within_of_subset {origin : Nat} {ps qs : List Nat} (ne : qs ≠ []) (sub : ∀ x ∈ qs, x ∈ ps) :
    within (spanOver origin qs) (spanOver origin ps) :=
  spanOver_within ne fun x hx => ⟨lowest_le (sub x hx), le_highest (sub x hx)⟩

/-! ### What a span reads -/

/-- The part of the card that the span of axis g reads (R108). -/
structure State.SameStand (s t : State) (g : HeadId) : Prop where
  state : (t.axes.get g).state = (s.axes.get g).state
  origin : (t.axes.get g).settings.origin = (s.axes.get g).settings.origin
  position : (t.axes.get g).position = (s.axes.get g).position
  target : (t.axes.get g).target = (s.axes.get g).target
  extents : (t.held g).flatMap t.extents = (s.held g).flatMap s.extents

theorem State.SameStand.span (e : s.SameStand t g) : t.span g = s.span g := by
  have hpoints : t.spanPoints g = s.spanPoints g := by
    rw [State.spanPoints, State.spanPoints, e.position, e.target, e.extents]
  simp only [State.span, e.state, e.origin, hpoints]

theorem State.SameStand.refl (s : State) (g : HeadId) : s.SameStand s g := ⟨rfl, rfl, rfl, rfl, rfl⟩

theorem State.SameStand.trans (a : s.SameStand t g) (b : t.SameStand u g) : s.SameStand u g :=
  ⟨b.state.trans a.state, b.origin.trans a.origin, b.position.trans a.position, b.target.trans a.target,
    b.extents.trans a.extents⟩

theorem State.span_homed (homed : (s.axes.get g).homed = true) :
    s.span g = some (spanOver (s.axes.get g).settings.origin (s.spanPoints g)) := by
  unfold Axis.homed at homed
  cases e : (s.axes.get g).state <;> simp [State.span, e] at homed ⊢

theorem State.span_homing (homing : (s.axes.get g).state = .homing) :
    s.span g = some ((s.axes.get g).settings.origin, (s.axes.get g).settings.origin) := by
  simp [State.span, homing]

theorem State.span_unhomed (unhomed : (s.axes.get g).state = .unhomed) : s.span g = none := by simp [State.span, unhomed]

theorem State.span_none_iff (s : State) (g : HeadId) : s.span g = none ↔ (s.axes.get g).state = .unhomed := by
  cases e : (s.axes.get g).state <;> simp [State.span, e]

/-! ### Spans that narrow -/

/-- From `s` to `t` the span of axis g narrows, stays, or goes. -/
structure State.Narrows (s t : State) (g : HeadId) : Prop where
  span : ∀ b, t.span g = some b → ∃ a, s.span g = some a ∧ within b a

theorem State.Narrows.refl (s : State) (g : HeadId) : s.Narrows s g := ⟨fun b hb => ⟨b, hb, .refl b⟩⟩

theorem State.Narrows.trans (x : s.Narrows t g) (y : t.Narrows u g) : s.Narrows u g where
  span c hc := by
    obtain ⟨b, hb, hcb⟩ := y.span c hc
    obtain ⟨a, ha, hba⟩ := x.span b hb
    exact ⟨a, ha, hcb.trans hba⟩

theorem State.SameStand.narrows (e : s.SameStand t g) : s.Narrows t g := ⟨fun b hb => ⟨b, e.span ▸ hb, .refl b⟩⟩

theorem State.Narrows.of_unhomed (unhomed : (t.axes.get g).state = .unhomed) : s.Narrows t g where
  span b hb := by rw [State.span_unhomed unhomed] at hb; cases hb

/-- A homed axis whose points lie between those of before. -/
theorem State.Narrows.of_points (before : (s.axes.get g).homed = true) (after : (t.axes.get g).homed = true)
    (origin : (t.axes.get g).settings.origin = (s.axes.get g).settings.origin)
    (between : ∀ x ∈ t.spanPoints g, lowest (s.spanPoints g) ≤ x ∧ x ≤ highest (s.spanPoints g)) : s.Narrows t g where
  span b hb := by
    rw [State.span_homed after, origin] at hb
    obtain rfl := Option.some.inj hb
    exact ⟨_, State.span_homed before, spanOver_within (by simp [State.spanPoints]) between⟩

/-- The position of a homed axis is one of its points. -/
theorem State.position_mem (s : State) (g : HeadId) : (s.axes.get g).position.getD 0 ∈ s.spanPoints g := by
  simp [State.spanPoints]

theorem State.target_mem {x : Nat} (ht : (s.axes.get g).target = some x) : x ∈ s.spanPoints g := by
  simp [State.spanPoints, ht]

theorem State.extents_mem {b : Band} {x : Nat} (hb : b ∈ s.held g) (hx : x ∈ s.extents b) : x ∈ s.spanPoints g :=
  List.mem_append_right _ (List.mem_flatMap.mpr ⟨b, hb, hx⟩)

/-! ### The separation law -/

theorem State.fitted_iff (s : State) (g : HeadId) : s.fitted g = true ↔ g.val < s.ctu.acting.fitted := by
  simp [State.fitted]

theorem headOf_some {n : Nat} (hn : headOf n = some h) : h.val = n := by
  unfold headOf at hn
  split at hn
  · rw [← Option.some.inj hn]
  · cases hn

theorem State.spanAt_some {f n : Nat} : s.spanAt f n = some a ↔ n < f ∧ ∃ j : HeadId, j.val = n ∧ s.span j = some a := by
  unfold State.spanAt
  split
  · next hlt =>
    constructor
    · intro hs
      obtain ⟨j, hj, hspan⟩ := Option.bind_eq_some_iff.mp hs
      exact ⟨hlt, j, headOf_some hj, hspan⟩
    · rintro ⟨-, j, rfl, hspan⟩
      rw [headOf_val]
      exact hspan
  · next hlt => simp [hlt]

theorem apart_iff {m : Nat} {lower upper : Option (Nat × Nat)} :
    apart m lower upper = true ↔ ∀ a b, lower = some a → upper = some b → a.2 + m ≤ b.1 := by
  cases lower <;> cases upper <;> simp [apart]

/-- The separation law over neighbours (R109). -/
theorem State.lawHolds_iff (s : State) (m f : Nat) : s.lawHolds m f = true ↔
    ∀ k j : HeadId, j.val = k.val + 1 → j.val < f → ∀ a b, s.span k = some a → s.span j = some b → a.2 + m ≤ b.1 := by
  unfold State.lawHolds
  rw [List.all_eq_true]
  constructor
  · intro hall k j hj hlt a b ha hb
    have hk : k.val ∈ [0, 1, 2] := by
      have := j.isLt
      simp only [List.mem_cons, List.not_mem_nil, or_false]
      omega
    exact apart_iff.mp (hall _ hk) a b (State.spanAt_some.mpr ⟨by omega, k, rfl, ha⟩) (State.spanAt_some.mpr ⟨by omega, j, hj, hb⟩)
  · intro hall n _
    refine apart_iff.mpr fun a b ha hb => ?_
    obtain ⟨-, k, hk, hka⟩ := State.spanAt_some.mp ha
    obtain ⟨hlt, j, hj, hjb⟩ := State.spanAt_some.mp hb
    exact hall k j (by omega) (by omega) a b hka hjb

theorem State.separated_iff (s : State) : s.separated ↔ ∀ k j : HeadId, j.val = k.val + 1 → s.fitted j = true →
    ∀ a b, s.span k = some a → s.span j = some b → a.2 + s.machine.minsep ≤ b.1 := by
  simp only [State.separated, State.lawHolds_iff, State.fitted_iff]

/-- The test of R109 of a span that an axis may take. -/
theorem State.clearOf_iff (s : State) (k : HeadId) (x : Nat × Nat) : s.clearOf k x = true ↔
    (∀ j : HeadId, k.val = j.val + 1 → s.fitted j = true → ∀ a, s.span j = some a → a.2 + s.machine.minsep ≤ x.1) ∧
      ∀ j : HeadId, j.val = k.val + 1 → s.fitted j = true → ∀ b, s.span j = some b → x.2 + s.machine.minsep ≤ b.1 := by
  unfold State.clearOf
  dsimp only
  rw [Bool.and_eq_true, apart_iff]
  refine and_congr ⟨fun hlow j hj hfit a ha => ?_, fun hlow => ?_⟩ ⟨fun hhigh j hj hfit b hb => ?_, fun hhigh a b ha hb => ?_⟩
  · rw [if_neg (by omega)] at hlow
    exact apart_iff.mp hlow a x (State.spanAt_some.mpr ⟨by have := (s.fitted_iff j).mp hfit; omega, j, by omega, ha⟩) rfl
  · split
    · rfl
    · next hk =>
      refine apart_iff.mpr fun a b ha hb => ?_
      obtain ⟨hlt, j, hj, ha⟩ := State.spanAt_some.mp ha
      obtain rfl := Option.some.inj hb
      exact hlow j (by omega) ((s.fitted_iff j).mpr (by omega)) a ha
  · exact hhigh x b rfl (State.spanAt_some.mpr ⟨by have := (s.fitted_iff j).mp hfit; omega, j, hj, hb⟩)
  · obtain rfl := Option.some.inj ha
    obtain ⟨hlt, j, hj, hb⟩ := State.spanAt_some.mp hb
    exact hhigh j hj ((s.fitted_iff j).mpr (by omega)) b hb

/-- Spans that only narrow keep the law. -/
theorem State.separated_of_narrows (hs : s.separated) (minsep : t.machine.minsep = s.machine.minsep)
    (acting : t.ctu.acting.fitted ≤ s.ctu.acting.fitted) (narrows : ∀ g, s.Narrows t g) : t.separated := by
  rw [State.separated_iff] at hs ⊢
  intro k j hj hfit a b ha hb
  obtain ⟨a', ha', -, hhigh⟩ := (narrows k).span a ha
  obtain ⟨b', hb', hlow, -⟩ := (narrows j).span b hb
  have hfit' : s.fitted j = true := (s.fitted_iff j).mpr (((t.fitted_iff j).mp hfit).trans_le acting)
  have := hs k j hj hfit' a' b' ha' hb'
  omega

/-- A span that has passed the test of the law may be taken while the others narrow. -/
theorem State.separated_of_clear (hs : s.separated) (minsep : t.machine.minsep = s.machine.minsep)
    (acting : t.ctu.acting.fitted = s.ctu.acting.fitted) (others : ∀ g, g ≠ h → s.Narrows t g)
    (clear : ∀ b, t.span h = some b → ∃ x, s.clearOf h x = true ∧ within b x) : t.separated := by
  rw [State.separated_iff] at hs ⊢
  intro k j hj hfit a b ha hb
  have hfit' : s.fitted j = true := (s.fitted_iff j).mpr (acting ▸ (t.fitted_iff j).mp hfit)
  have hfitk : s.fitted k = true := (s.fitted_iff k).mpr (by have := (s.fitted_iff j).mp hfit'; omega)
  rw [minsep]
  by_cases ek : k = h
  · subst ek
    have ne : j ≠ k := fun e => by simp [e] at hj
    obtain ⟨x, hx, -, hhigh⟩ := clear a ha
    obtain ⟨b', hb', hlow, -⟩ := (others j ne).span b hb
    have := ((s.clearOf_iff k x).mp hx).2 j hj hfit' b' hb'
    omega
  · obtain ⟨a', ha', -, hhigh⟩ := (others k ek).span a ha
    by_cases ej : j = h
    · subst ej
      obtain ⟨x, hx, hlow, -⟩ := clear b hb
      have := ((s.clearOf_iff j x).mp hx).1 k hj hfitk a' ha'
      omega
    · obtain ⟨b', hb', hlow, -⟩ := (others j ej).span b hb
      have := hs k j hj hfit' a' b' ha' hb'
      omega

end Sys2Proof.Machine
end

section
/-! Operations that no test of the separation law precedes: each leaves every span as it is, or narrows it (R108, R109). -/

namespace Sys2Proof.Machine

variable {s t u : State} {g h k : HeadId} {b c p : Band} {a z : Axis}

/-! ### When a span narrows -/

/-- Two bands reserve the same extents on the same screens (R117). -/
def Band.sameExtents (b c : Band) : Prop := c.start = b.start ∧ c.feed = b.feed ∧ c.count = b.count ∧ c.screen = b.screen

theorem Band.sameExtents.refl (b : Band) : b.sameExtents b := ⟨rfl, rfl, rfl, rfl⟩

theorem Band.sameExtents.extents (e : b.sameExtents c) (screens : t.screens = s.screens) : t.extents c = s.extents b := by
  obtain ⟨start, feed, count, screen⟩ := e
  rw [State.extents, State.extents, State.screen, State.screen, screens, start, feed, count, screen]

/-- From `a` to `z` an axis gains no point: it is UNHOMED, or HOMING as before, or homed where it stood with no new target. -/
def Axis.Recedes (a z : Axis) : Prop :=
  z.state = .unhomed ∨ z.settings.origin = a.settings.origin ∧
    ((z.state = .homing ∧ a.state = .homing) ∨
      (z.homed = true ∧ a.homed = true ∧ z.position = a.position ∧ ∀ x, z.target = some x → a.target = some x))

theorem Axis.Recedes.of_same (state : z.state = a.state) (origin : z.settings.origin = a.settings.origin)
    (position : z.position = a.position) (target : z.target = a.target) : a.Recedes z := by
  have hhomed : z.homed = a.homed := Axis.homed_of_state state
  cases e : a.state
  case unhomed => exact .inl (state.trans e)
  case homing => exact .inr ⟨origin, .inl ⟨state.trans e, e⟩⟩
  all_goals exact .inr ⟨origin, .inr ⟨by rw [hhomed]; simp [Axis.homed, e], by simp [Axis.homed, e], position, fun x hx => target ▸ hx⟩⟩

theorem Axis.Recedes.refl (a : Axis) : a.Recedes a := .of_same rfl rfl rfl rfl

theorem Axis.lost_recedes (a : Axis) (f : AxisFault) : a.Recedes (a.lost f) := .inl rfl

theorem Axis.endOrder_recedes (a : Axis) : a.Recedes (a.endOrder false) := by
  cases homed : a.homed with
  | true =>
    rw [Axis.endOrder_homed homed]
    refine .inr ⟨rfl, .inr ⟨rfl, homed, ?_, fun x hx => by cases hx⟩⟩
    cases a.position <;> rfl
  | false => rw [Axis.endOrder_unhomed homed]; exact .of_same rfl rfl rfl rfl

/-- An axis that gains no point, under bands that were held before. -/
theorem State.Narrows.of_recedes (screens : t.screens = s.screens) (axis : (s.axes.get g).Recedes (t.axes.get g))
    (held : ∀ c ∈ t.held g, ∃ b ∈ s.held g, b.sameExtents c) : s.Narrows t g := by
  obtain unhomed | ⟨origin, ⟨homing, homing'⟩ | ⟨homed, homed', position, target⟩⟩ := axis
  · exact .of_unhomed unhomed
  · refine ⟨fun b hb => ?_⟩
    rw [State.span_homing homing, origin] at hb
    obtain rfl := Option.some.inj hb
    exact ⟨_, State.span_homing homing', .refl _⟩
  · refine .of_points homed' homed origin fun x hx => ?_
    have hmem : x ∈ s.spanPoints g := by
      simp only [State.spanPoints, List.mem_append, List.mem_singleton, Option.mem_toList, List.mem_flatMap] at hx
      obtain (rfl | ht) | ⟨c, hc, hx⟩ := hx
      · rw [position]; exact s.position_mem g
      · exact State.target_mem (target x ht)
      · obtain ⟨b, hb, e⟩ := held c hc
        exact State.extents_mem hb (e.extents screens ▸ hx)
    exact ⟨lowest_le hmem, le_highest hmem⟩

theorem State.Narrows.of_same (screens : t.screens = s.screens) (axis : t.axes.get g = s.axes.get g)
    (bands : t.bands.get g = s.bands.get g) : s.Narrows t g :=
  .of_recedes screens (axis ▸ .refl _) fun c hc => ⟨c, by rwa [State.held, bands] at hc, .refl c⟩

theorem State.SameAt.narrows (e : s.SameAt t g) (board : s.SameBoard t) : s.Narrows t g :=
  .of_same board.screens e.axis e.bands

/-- An operation of one head narrows every span when it narrows its own. -/
theorem State.Local.narrows (e : State.Local h s t) (board : s.SameBoard t) (own : s.Narrows t h) (g : HeadId) : s.Narrows t g := by
  by_cases hg : g = h
  · exact hg ▸ own
  · exact (e.others g hg).narrows board

theorem State.mem_held_iff : b ∈ s.held g ↔ s.active g = some b ∨ (s.bands.get g).waiting = some b := by
  simp [State.held, State.active]

/-! ### Ends of bands -/

theorem State.evalStarvation_narrows (s : State) (h g : HeadId) : s.Narrows (s.evalStarvation h) g :=
  .of_same (s.evalStarvation_works h).moves.board.screens (by rw [State.evalStarvation_axes]) (by rw [State.evalStarvation_bands])

theorem State.closeBand_axes (s : State) (h : HeadId) (b : Band) (cls : ResultClass) (cause : Cause) (detail : Option CauseDetail)
    (order : Retire) (atBoundary : Bool) : (s.closeBand h b cls cause detail order atBoundary).axes.get h =
      (s.axes.get h).endOrder atBoundary := by
  simp [State.closeBand, State.file, State.post]

theorem State.closeBand_narrows (s : State) (h : HeadId) (b : Band) (cls : ResultClass) (cause : Cause)
    (detail : Option CauseDetail) (order : Retire) (g : HeadId) :
    s.Narrows (s.closeBand h b cls cause detail order false) g := by
  have hboard := (s.closeBand_moves h b cls cause detail order false).board
  refine (State.closeBand_local s h b cls cause detail order false).narrows hboard ?_ g
  refine .of_recedes hboard.screens ?_ fun c hc => ⟨c, ?_, .refl c⟩
  · rw [State.closeBand_axes]; exact Axis.endOrder_recedes _
  · rw [State.held, State.closeBand_bands] at hc
    simpa [State.held] using hc

theorem State.endPending_axes (s : State) (h : HeadId) (cls : ResultClass) (cause : Cause) :
    (s.endPending h cls cause).axes = s.axes := by
  unfold State.endPending
  split <;> rfl

theorem State.endPending_narrows (s : State) (h : HeadId) (cls : ResultClass) (cause : Cause) (g : HeadId) :
    s.Narrows (s.endPending h cls cause) g := by
  have hboard := (s.endPending_works h cls cause).moves.board
  refine (State.endPending_local s h cls cause).narrows hboard ?_ g
  refine .of_recedes hboard.screens (by rw [State.endPending_axes]; exact .refl _) fun c hc => ⟨c, ?_, .refl c⟩
  rw [State.held, State.endPending_bands] at hc
  simp only [Quad.get_set_same, Option.toList_none, List.append_nil] at hc
  exact List.mem_append_left _ hc

theorem State.dwellIdle_axes (s : State) (h : HeadId) : (s.dwellIdle h).axes = s.axes := by
  unfold State.dwellIdle
  split <;> rfl

theorem State.dwellIdle_narrows (s : State) (h g : HeadId) : s.Narrows (s.dwellIdle h) g :=
  .of_same (s.dwellIdle_works h).moves.board.screens (by rw [State.dwellIdle_axes]) (by rw [State.dwellIdle_bands])

theorem State.abortClosed_narrows (s : State) (h : HeadId) (b : Band) (cause : Cause) (detail : Option CauseDetail)
    (order : Retire) (g : HeadId) : s.Narrows (s.abortClosed h b cause detail order false) g :=
  ((s.closeBand_narrows ..).trans (State.endPending_narrows _ h ..)).trans (State.dwellIdle_narrows _ h g)

theorem State.setActive_none_narrows (s : State) (h g : HeadId) : s.Narrows (s.setActive h none) g := by
  refine (State.Local.setActive s h none).narrows (s.setActive_board h none) ?_ g
  refine .of_recedes rfl (.refl _) fun c hc => ⟨c, ?_, .refl c⟩
  simp only [State.held, State.setActive_get_same, Option.toList_none, List.nil_append] at hc
  exact List.mem_append_right _ hc

/-! ### Grants, looks and fills -/

/-- The band with other counts reserves what it reserved. -/
theorem State.updActive_narrows {f : Band → Band} (same : ∀ b : Band, b.sameExtents (f b)) (g : HeadId) :
    s.Narrows (s.updActive h f) g := by
  refine (State.Local.updActive s h f).narrows (s.setActive_board h _) ?_ g
  refine .of_recedes rfl (.refl _) fun c hc => ?_
  simp only [State.held, State.updActive, State.setActive_get_same, List.mem_append, Option.mem_toList] at hc
  obtain hc | hc := hc
  · obtain ⟨b, hb, rfl⟩ := Option.map_eq_some_iff.mp hc
    exact ⟨b, State.mem_held_iff.mpr (.inl hb), same b⟩
  · exact ⟨c, State.mem_held_iff.mpr (.inr hc), .refl c⟩

theorem State.refuseGrant_narrows (s : State) (h : HeadId) (d : Descriptor) (g : HeadId) : s.Narrows (s.refuseGrant h d) g := by
  have hstore : s.Narrows { s with store := (s.store.grantFront h).giveBack d.pages } g := .of_same rfl rfl rfl
  unfold State.refuseGrant
  dsimp only
  split
  · exact hstore
  · exact (hstore.trans (State.setActive_none_narrows _ h g)).trans (State.abortClosed_narrows ..)

theorem State.startCopy_narrows (s : State) (h : HeadId) (d : Descriptor) (g : HeadId) : s.Narrows (s.startCopy h d) g :=
  State.Narrows.trans (t := ({ s with
    store := s.store.grantFront h
    fetch := { s.fetch with
      copy := some ⟨h, d.number, d.n, d.pages, s.timestamp, s.clock + ceilDiv d.n 256⟩ } } : State).setStandby h
        (.loading ⟨d.number, .data, d.n⟩)) (.of_same rfl rfl rfl) (State.evalStarvation_narrows _ h g)

theorem State.arbitrateUpTo_narrows (s : State) (tries : Nat) (g : HeadId) : s.Narrows (s.arbitrateUpTo tries) g := by
  induction tries generalizing s with
  | zero => exact .refl s g
  | succ tries ih =>
    unfold State.arbitrateUpTo
    split
    · exact .refl s g
    · exact .refl s g
    · split
      · exact .refl s g
      · split
        · exact s.startCopy_narrows ..
        · exact (s.refuseGrant_narrows ..).trans (ih _)

theorem State.arbitrate_narrows (s : State) (g : HeadId) : s.Narrows s.arbitrate g := s.arbitrateUpTo_narrows 5 g

theorem State.grantInPlace_narrows (s : State) (h : HeadId) (d : Descriptor) (g : HeadId) : s.Narrows (s.grantInPlace h d) g := by
  have hgranted : s.Narrows { s with store := s.store.grantFront h } g := .of_same rfl rfl rfl
  have hloaded : ∀ v : State, v.Narrows ((v.updBuffers h fun b => b.loadInPlace d).evalStarvation h) g := fun v =>
    State.Narrows.trans (t := v.updBuffers h fun b => b.loadInPlace d) (.of_same rfl rfl rfl) (State.evalStarvation_narrows _ h g)
  unfold State.grantInPlace
  split
  · dsimp only
    split
    · refine State.Narrows.trans ?_ (hloaded _)
      refine hgranted.trans ?_
      refine State.updActive_narrows ?_ g
      exact fun _ => ⟨rfl, rfl, rfl, rfl⟩
    · exact hgranted.trans (hloaded _)
  · exact s.refuseGrant_narrows ..

theorem State.discardStale_narrows (s : State) (h : HeadId) (m : Nat) (g : HeadId) : s.Narrows (s.discardStale h m) g := by
  unfold State.discardStale
  dsimp only
  split
  · exact .refl s g
  · refine State.Narrows.trans ?_ (State.evalStarvation_narrows _ h g)
    have hcounted : ∀ (v : State) (n : Nat), v.Narrows (v.updActive h fun b => { b with stale := addCount b.stale n }) g :=
      fun v n => by
        refine State.updActive_narrows ?_ g
        exact fun _ => ⟨rfl, rfl, rfl, rfl⟩
    refine State.Narrows.trans ?_ (hcounted _ _)
    exact .of_same rfl rfl rfl

theorem State.look_narrows (s : State) (h : HeadId) (m : Nat) (g : HeadId) : s.Narrows (s.look h m) g := by
  have hstale := s.discardStale_narrows h m g
  unfold State.look
  dsimp only
  split
  · exact hstale
  · split
    · exact hstale.trans (State.arbitrate_narrows _ g)
    · exact hstale.trans (State.grantInPlace_narrows ..)
    · exact hstale.trans (State.grantInPlace_narrows ..)

theorem State.startFill_narrows (s : State) (h : HeadId) (m : Nat) (g : HeadId) : s.Narrows (s.startFill h m) g := by
  refine State.Narrows.trans ?_ (State.evalStarvation_narrows _ h g)
  exact .of_same rfl rfl rfl

theorem State.service_narrows (s : State) (h g : HeadId) : s.Narrows (s.service h) g := by
  have hfed := s.evalStarvation_narrows h g
  unfold State.service
  dsimp only
  split
  · exact hfed
  · split
    · exact hfed.trans (State.look_narrows ..)
    · exact hfed.trans (State.startFill_narrows ..)

theorem State.stopFetch_narrows (s : State) (h g : HeadId) : s.Narrows (s.stopFetch h) g := by
  unfold State.stopFetch
  dsimp only
  split
  · exact .of_same rfl rfl rfl
  · refine State.Narrows.trans ?_ (State.arbitrate_narrows _ g)
    exact .of_same rfl rfl rfl

theorem State.abortActive_narrows (s : State) (h : HeadId) (cause : Cause) (detail : Option CauseDetail) (order : Retire)
    (g : HeadId) : s.Narrows (s.abortActive h cause detail order false) g := by
  unfold State.abortActive
  split
  · exact .refl s g
  · exact ((s.setActive_none_narrows h g).trans (State.stopFetch_narrows _ h g)).trans (State.abortClosed_narrows ..)

/-! ### Faults -/

/-- An axis that loses its position reserves nothing (R107, R114, R115). -/
theorem State.lost_narrows (s : State) (k : HeadId) (f : AxisFault) (g : HeadId) : s.Narrows (s.updAxis k fun a => a.lost f) g :=
  (State.Local.updAxis s k _).narrows ⟨rfl, rfl, rfl, rfl, rfl, rfl, rfl, rfl, rfl, rfl, fun _ _ => rfl⟩
    (.of_unhomed (by simp [Axis.lost])) g

theorem State.limitStop_narrows (s : State) (k g : HeadId) : s.Narrows (s.limitStop k) g :=
  (s.lost_narrows k .limitSwitch g).trans (.of_same rfl rfl rfl)

theorem State.limitCheck_narrows (s : State) (k g : HeadId) : s.Narrows (s.limitCheck k) g := by
  unfold State.limitCheck State.limitFault
  split
  · split
    · exact (s.limitStop_narrows k g).trans (State.abortActive_narrows ..)
    · exact s.limitStop_narrows k g
  · exact .refl s g

theorem State.limitOnEntry_narrows (s : State) (k g : HeadId) : s.Narrows (s.limitOnEntry k) g := by
  unfold State.limitOnEntry
  split
  · exact s.limitStop_narrows k g
  · exact .refl s g

end Sys2Proof.Machine
end

section
/-! Orders and activations leave the spans as the acceptance of a band has reserved them (R108, R117, R128). -/

namespace Sys2Proof.Machine

variable {s t u : State} {g h k : HeadId} {b c p : Band} {a z : Axis}

/-! ### Orders -/

theorem State.updAxis_narrows {f : Axis → Axis} (recedes : (s.axes.get h).Recedes (f (s.axes.get h))) (g : HeadId) :
    s.Narrows (s.updAxis h f) g := by
  refine (State.Local.updAxis s h f).narrows ⟨rfl, rfl, rfl, rfl, rfl, rfl, rfl, rfl, rfl, rfl, fun _ _ => rfl⟩ ?_ g
  exact .of_recedes rfl (by simpa using recedes) fun c hc => ⟨c, hc, .refl c⟩

theorem State.updHead_narrows (s : State) (h : HeadId) (f : Head → Head) (g : HeadId) : s.Narrows (s.updHead h f) g :=
  .of_same rfl rfl rfl

/-- The active band with another phase or other counts. -/
theorem State.setActive_some_narrows (hb : s.active h = some b) (same : b.sameExtents c) (g : HeadId) :
    s.Narrows (s.setActive h (some c)) g := by
  refine (State.Local.setActive s h _).narrows (s.setActive_board h _) ?_ g
  refine .of_recedes rfl (.refl _) fun d hd => ?_
  simp only [State.held, State.setActive_get_same, Option.toList_some, List.mem_append, List.mem_singleton, Option.mem_toList] at hd
  obtain rfl | hd := hd
  · exact ⟨b, State.mem_held_iff.mpr (.inl hb), same⟩
  · exact ⟨d, State.mem_held_iff.mpr (.inr hd), .refl d⟩

theorem Band.sameExtents_phase (b : Band) (p : Phase) : b.sameExtents { b with phase := p } := ⟨rfl, rfl, rfl, rfl⟩

theorem Axis.setStage_recedes (a : Axis) (x : Stage) : a.Recedes (a.setStage x) := .of_same rfl rfl rfl rfl

theorem Axis.drive_recedes (a : Axis) (m : Move) : a.Recedes (a.drive m) := .of_same rfl rfl rfl rfl

theorem State.onEngaged_narrows (s : State) (h g : HeadId) : s.Narrows (s.onEngaged h) g := by
  unfold State.onEngaged
  split
  · exact s.dwellIdle_narrows h g
  · next b hb =>
    split
    · exact State.setActive_some_narrows hb (b.sameExtents_phase _) g
    · exact .refl s g

theorem State.engageOrder_narrows (s : State) (h g : HeadId) : s.Narrows (s.engageOrder h) g := by
  unfold State.engageOrder
  dsimp only
  split
  · exact (s.updHead_narrows h _ g).trans (State.onEngaged_narrows _ h g)
  · exact s.updHead_narrows h _ g
  · exact s.updHead_narrows h _ g

theorem State.onAtStart_narrows (s : State) (h g : HeadId) : s.Narrows (s.onAtStart h) g := by
  unfold State.onAtStart
  split
  · exact .refl s g
  · next b hb =>
    split
    · refine State.Narrows.trans ?_ (State.engageOrder_narrows _ h g)
      exact State.setActive_some_narrows hb (b.sameExtents_phase _) g
    · exact .refl s g

theorem State.positionOrder_narrows (s : State) (h g : HeadId) : s.Narrows (s.positionOrder h) g := by
  unfold State.positionOrder
  dsimp only
  split
  · exact .refl s g
  · split
    · split
      · exact (State.updAxis_narrows (Axis.setStage_recedes _ _) g).trans (State.onAtStart_narrows _ h g)
      · exact State.updAxis_narrows (Axis.drive_recedes _ _) g
    · exact s.onAtStart_narrows h g
    · exact .refl s g

theorem State.onParked_narrows (s : State) (h g : HeadId) : s.Narrows (s.onParked h) g := by
  unfold State.onParked
  split
  · split
    · exact s.positionOrder_narrows h g
    · exact .refl s g
  · exact .refl s g
  · exact .refl s g

theorem State.onReport_narrows (s : State) (h : HeadId) (r : HeadReport) (g : HeadId) : s.Narrows (s.onReport h r) g := by
  cases r
  · exact .refl s g
  · exact s.onEngaged_narrows h g
  · exact s.onParked_narrows h g

theorem State.retractOrder_narrows (s : State) (h g : HeadId) : s.Narrows (s.retractOrder h) g :=
  (s.updHead_narrows h _ g).trans (State.onReport_narrows _ h _ g)

theorem State.immediateRetract_narrows (s : State) (h g : HeadId) : s.Narrows (s.immediateRetract h) g :=
  (s.updHead_narrows h _ g).trans (State.onReport_narrows _ h _ g)

/-! ### Activation -/

/-- The phase in which a band enters, by its axis's place and the head's state (R129). -/
def entryPhase (inPlace : Bool) (x : HeadState) : Phase :=
  if inPlace then (if x = .ready then .waitSync else .engaging) else .positioning

theorem State.beginPhase_narrows (s : State) (h : HeadId) (b : Band) (inPlace : Bool) (g : HeadId) :
    (s.enter h b (entryPhase inPlace (s.heads.get h).state)).Narrows (s.beginPhase h b inPlace) g := by
  unfold State.beginPhase entryPhase
  cases inPlace <;> cases (s.heads.get h).state
  case true.ready => exact State.updHead_narrows ..
  case true.parked => exact (State.positionOrder_narrows _ h g).trans (State.engageOrder_narrows _ h g)
  case true.engaging => exact State.engageOrder_narrows ..
  case true.settling => exact State.engageOrder_narrows ..
  case true.cutting => exact State.engageOrder_narrows ..
  case true.retracting => exact State.engageOrder_narrows ..
  case false.parked => exact State.positionOrder_narrows ..
  case false.engaging => exact State.retractOrder_narrows ..
  case false.settling => exact State.retractOrder_narrows ..
  case false.ready => exact State.retractOrder_narrows ..
  case false.cutting => exact State.retractOrder_narrows ..
  case false.retracting => exact .refl _ g

/-- The card with a band that has just become active, before the orders of R129 are given (actions 2 and 3 of R128). -/
def State.taken (s : State) (h : HeadId) (b : Band) : State :=
  (((s.updHead h fun y => y.prepare (PlacementContext.build b.screen (s.screen b.screen) (s.ctu.lastPeriod.getD 0))
      (DepthTable.build b.curve (s.curve b.curve) y.settings.calibration)).updAxis h fun a =>
    a.takeFor b (s.screen b.screen)).enter h b
      (entryPhase (decide ((s.axes.get h).pos = b.start)) (s.heads.get h).state))

theorem State.prepareBand_narrows (s : State) (h : HeadId) (b : Band) (g : HeadId) :
    (s.taken h b).Narrows (s.prepareBand h b) g := by
  have := State.beginPhase_narrows ((s.updHead h fun y => y.prepare
      (PlacementContext.build b.screen (s.screen b.screen) (s.ctu.lastPeriod.getD 0))
      (DepthTable.build b.curve (s.curve b.curve) y.settings.calibration)).updAxis h fun a =>
    a.takeFor b (s.screen b.screen)) h b (decide ((s.axes.get h).pos = b.start)) g
  rw [State.updAxis_heads, State.updHead_get_same] at this
  exact this

theorem State.taken_local (s : State) (h : HeadId) (b : Band) : State.Local h s (s.taken h b) :=
  ((State.Local.updHead s h _).trans (.updAxis _ h _)).trans (.setActive _ h _)

theorem State.taken_board (s : State) (h : HeadId) (b : Band) : s.SameBoard (s.taken h b) :=
  ⟨rfl, rfl, rfl, rfl, rfl, rfl, rfl, rfl, rfl, rfl, fun _ _ => rfl⟩

theorem State.taken_axis (s : State) (h : HeadId) (b : Band) :
    (s.taken h b).axes.get h = (s.axes.get h).takeFor b (s.screen b.screen) := by simp [State.taken, State.enter]

theorem State.taken_bands (s : State) (h : HeadId) (b : Band) : (s.taken h b).bands.get h = { s.bands.get h with
    active := some { b with phase := entryPhase (decide ((s.axes.get h).pos = b.start)) (s.heads.get h).state } } := by
  simp [State.taken, State.enter]

/-- A band that becomes active keeps its axis within its points and its own extents (R108, R117). -/
theorem State.taken_span (s : State) (h : HeadId) (b : Band) {x : Nat × Nat} (hx : (s.taken h b).span h = some x) :
    within x (spanOver (s.axes.get h).settings.origin (s.spanPoints h ++ s.extents b)) := by
  have haxis := s.taken_axis h b
  rw [State.span_homed (by rw [haxis]; rfl), haxis] at hx
  obtain rfl := Option.some.inj hx
  refine spanOver_within_of_subset (by simp [State.spanPoints]) fun y hy => ?_
  rw [State.spanPoints, haxis, List.mem_append, List.mem_flatMap] at hy
  obtain hy | ⟨c, hc, hy⟩ := hy
  · have hpos : y = (s.axes.get h).position.getD 0 := by simpa [Axis.takeFor] using hy
    exact List.mem_append_left _ (hpos ▸ s.position_mem h)
  · rw [State.held, State.taken_bands] at hc
    simp only [Option.toList_some, List.cons_append, List.nil_append, List.mem_cons, Option.mem_toList] at hc
    obtain rfl | hc := hc
    · exact List.mem_append_right _ hy
    · exact List.mem_append_left _ (State.extents_mem (State.mem_held_iff.mpr (.inr hc)) hy)

end Sys2Proof.Machine
end

section
/-! The five tests of the separation law (section 7.3): HOME, SEEK, SET_AXIS, SET_MACHINE and ENGRAVE. -/

namespace Sys2Proof.Machine

variable {s t u : State} {g h k : HeadId} {b : Band}

/-! ### A change of one head behind a test -/

/-- The head's operation may take a span that has passed the test, and after it spans narrow. -/
theorem State.separated_of_tested {x : Nat × Nat} (hs : s.separated) (local_ : State.Local h s t) (board : s.SameBoard t)
    (clear : s.clearOf h x = true) (own : ∀ b, t.span h = some b → within b x) (later : t.SameBoard u)
    (narrows : ∀ g, t.Narrows u g) : u.separated := by
  have ht : t.separated := State.separated_of_clear (h := h) hs (by rw [board.machine]) (by rw [board.ctu])
    (fun g ne => (local_.others g ne).narrows board) fun b hb => ⟨x, clear, own b hb⟩
  exact State.separated_of_narrows ht (by rw [later.machine]) (by rw [later.ctu]) narrows

/-- A request with a head or axis number keeps what its owner keeps for a fitted one. -/
theorem onFitted_keeps {P : State → Prop} {n : Nat} {f : HeadId → State × Response} (hs : P s)
    (own : ∀ h, s.fitted h = true → P (f h).1) : P (onFitted n s f).1 := by
  obtain ⟨-, hr⟩ | ⟨h, -, -, hr⟩ | ⟨h, -, fit, hr⟩ := onFitted_cases n s f <;> rw [hr]
  · exact hs
  · exact hs
  · exact own h fit

theorem State.updAxis_board (s : State) (k : HeadId) (f : Axis → Axis) : s.SameBoard (s.updAxis k f) :=
  ⟨rfl, rfl, rfl, rfl, rfl, rfl, rfl, rfl, rfl, rfl, fun _ _ => rfl⟩

/-- The span of an axis that is homed with one target at most, and holds no band. -/
theorem State.span_free (homed : (s.axes.get k).homed = true) (free : s.held k = []) : s.span k =
    some (spanOver (s.axes.get k).settings.origin ((s.axes.get k).pos :: (s.axes.get k).target.toList)) := by
  rw [State.span_homed homed, State.spanPoints, free]
  simp [Axis.pos]

theorem spanOver_singleton (origin p : Nat) : spanOver origin [p] = (origin + p, origin + p) := by
  simp [spanOver, lowest, highest]

theorem State.postAxis_narrows (s : State) (k : HeadId) (e : AxisEvent) (g : HeadId) : s.Narrows (s.postAxis k e) g :=
  .of_same rfl rfl rfl

/-! ### HOME (R110) -/

theorem State.clearOf_of_homeClear (clear : s.homeClear k = true) :
    s.clearOf k ((s.axes.get k).settings.origin, (s.axes.get k).settings.origin) = true := by
  obtain ⟨below, above⟩ := (State.homeClear_iff s k).mp clear
  refine (s.clearOf_iff k _).mpr ⟨fun j hj hfit a ha => ?_, fun j hj hfit b hb => ?_⟩
  · obtain ⟨-, hclear⟩ := below j (Fin.lt_def.mpr (by omega)) hfit
    exact hclear a ha
  · exact above b (State.spanAt_some.mpr ⟨hj ▸ (s.fitted_iff j).mp hfit, j, hj, hb⟩)

theorem State.homeRefusal_passes (hr : s.homeRefusal k = none) : s.held k = [] ∧ s.homeClear k = true := by
  unfold State.homeRefusal at hr
  dsimp only at hr
  split_ifs at hr with _ hfree _ _ hclear
  exact ⟨by simp at hfree; exact hfree.2, by simpa using hclear⟩

theorem takeHome_separated (hs : s.separated) (n : Nat) : (takeHome n s).1.separated := by
  refine onFitted_keeps (P := State.separated) hs fun k _ => ?_
  split
  · exact hs
  · next hnone =>
    obtain ⟨free, hclear⟩ := State.homeRefusal_passes hnone
    have hclear := State.clearOf_of_homeClear hclear
    split
    · refine State.separated_of_tested hs (.updAxis s k _) (s.updAxis_board k _) hclear (fun b hb => ?_)
        (State.postAxis_works _ k .homed).moves.board fun g => State.postAxis_narrows _ k _ g
      rw [State.span_free (s := s.updAxis k Axis.foundHome) (by simp [Axis.foundHome, Axis.homed]) free] at hb
      simp only [State.updAxis_get_same, Axis.foundHome, Axis.pos, Option.getD_some, Option.toList_none, spanOver_singleton,
        Nat.add_zero, Option.some.injEq] at hb
      exact hb ▸ .refl _
    · refine State.separated_of_tested hs (.updAxis s k _) (s.updAxis_board k _) hclear (fun b hb => ?_)
        (State.limitOnEntry_works _ k).moves.board fun g => State.limitOnEntry_narrows _ k g
      rw [State.span_homing (s := s.updAxis k fun a => a.startHome s.clock) (by simp [Axis.startHome, Axis.drive])] at hb
      simp only [State.updAxis_get_same, Axis.startHome, Axis.drive, Option.some.injEq] at hb
      exact hb ▸ .refl _

/-! ### SEEK (R112) -/

theorem State.seekRefusal_passes (hr : s.seekRefusal k = none) (fit : s.fitted k = true) :
    (s.axes.get k).homed = true ∧ (s.axes.get k).state ≠ .feeding ∧ s.held k = [] := by
  rw [State.seekRefusal_eq] at hr
  split_ifs at hr with _ hall hown _
  refine ⟨State.allHomed_iff s |>.mp (by simpa using hall) k fit, fun e => hown (.inl e), ?_⟩
  by_contra e
  exact hown (.inr e)

theorem State.seekTo_separated {target : Nat} (hs : s.separated) (free : s.held k = [])
    (clear : s.clearOf k (spanOver (s.axes.get k).settings.origin [(s.axes.get k).pos, target]) = true) :
    (s.seekTo k target).separated := by
  unfold State.seekTo
  split
  · refine State.separated_of_tested hs (.updAxis s k _) (s.updAxis_board k _) clear (fun b hb => ?_)
      (State.postAxis_works _ k .arrived).moves.board fun g => State.postAxis_narrows _ k _ g
    rw [State.span_free (s := s.updAxis k Axis.rest) (by simp [Axis.rest, Axis.homed]) free] at hb
    obtain rfl := Option.some.inj hb
    simp only [State.updAxis_get_same]
    exact spanOver_within_of_subset (by simp) (by simp [Axis.rest, Axis.pos])
  · refine State.separated_of_tested hs (.updAxis s k _) (s.updAxis_board k _) clear (fun b hb => ?_)
      (State.limitOnEntry_works _ k).moves.board fun g => State.limitOnEntry_narrows _ k g
    rw [State.span_free (s := s.updAxis k fun a => a.startSeek target s.clock) (by simp [Axis.startSeek, Axis.drive, Axis.homed]) free] at hb
    obtain rfl := Option.some.inj hb
    simp only [State.updAxis_get_same]
    exact spanOver_within_of_subset (by simp) (by simp [Axis.startSeek, Axis.drive, Axis.pos])

theorem takeSeek_separated (hs : s.separated) (f : SeekFields) : (takeSeek f s).1.separated := by
  unfold takeSeek
  split
  · exact hs
  · next k _ =>
    dsimp only
    split
    · next fit =>
      split
      · exact hs
      · next hr =>
        obtain ⟨-, -, free⟩ := State.seekRefusal_passes hr fit
        split
        · next clear => exact State.seekTo_separated hs free clear
        · exact hs
    · exact hs

/-! ### SET_AXIS (R106) -/

theorem takeSetAxis_separated (hs : s.separated) (lawful : ∀ k, (s.axes.get k).stateLawful) (f : AxisFields) :
    (takeSetAxis f s).1.separated := by
  refine onFitted_keeps (P := State.separated) hs fun k _ => ?_
  dsimp only
  split
  · exact hs
  split
  · exact hs
  split
  · exact hs
  next hwrite _ hclear =>
  show (s.updAxis k fun x => { x with settings := f.settings }).separated
  obtain unhomed | ⟨idle, -, free⟩ := (s.axisWritable_iff k).mp (by simpa using hwrite)
  · refine State.separated_of_narrows hs rfl le_rfl fun g => (State.Local.updAxis s k _).narrows (s.updAxis_board k _) ?_ g
    exact .of_unhomed (by simpa using unhomed)
  · have hclear : s.clearOf k (f.settings.origin + (s.axes.get k).pos, f.settings.origin + (s.axes.get k).pos) = true := by
      simpa [idle] using hclear
    have htarget : (s.axes.get k).target = none := by
      obtain ⟨-, hseek, -⟩ := lawful k
      by_contra e
      simpa [idle] using hseek (Option.isSome_iff_ne_none.mpr e)
    refine State.separated_of_tested hs (.updAxis s k _) (s.updAxis_board k _) hclear (fun b hb => ?_) (.refl _)
      fun g => .refl _ g
    rw [State.span_free (s := s.updAxis k fun x => { x with settings := f.settings }) (by simp [Axis.homed, idle]) free] at hb
    simp only [State.updAxis_get_same, Axis.pos, htarget, Option.toList_none, spanOver_singleton, Option.some.injEq] at hb
    exact hb ▸ .refl _

/-! ### SET_MACHINE (R15) -/

theorem State.unfit_narrows (s : State) (h g : HeadId) : s.Narrows (s.unfit h) g :=
  (s.immediateRetract_narrows h g).trans (State.lost_narrows _ h _ g)

theorem State.unfitAbove_narrows (s : State) (before : Nat) (g : HeadId) : s.Narrows (s.unfitAbove before) g :=
  List.foldlRecOn (motive := fun t => s.Narrows t g) heads4 _ (.refl s g) fun u hu h _ => by
    split
    · exact hu.trans (u.unfit_narrows h g)
    · exact hu

/-- The law under another F and MINSEP, as SET_MACHINE tests it, is the law under the settings that are written. -/
theorem State.writeMachine_separated {m : MachineSettings} (law : s.lawHolds m.minsep m.fitted = true) :
    (s.writeMachine m).separated := by
  let t : State := { s with
      machine := m
      ctu := { s.ctu.afterSetting (decide (m.indexEdge ≠ s.machine.indexEdge)) m.reportRevs with
        acting := s.ctu.acting.afterSetting m.fitted } }
  have ht : t.separated := by
    refine (State.separated_iff t).mpr fun k j hj hfit => ?_
    have hlt : j.val < m.fitted := ((State.fitted_iff t j).mp hfit).trans_le (Nat.min_le_right _ _)
    exact (State.lawHolds_iff s _ _).mp law k j hj hlt
  have hboard := (t.unfitAbove_runs s.machine.fitted).board
  exact State.separated_of_narrows ht (by rw [State.writeMachine, hboard.machine])
    (by rw [State.writeMachine, hboard.ctu]) (t.unfitAbove_narrows s.machine.fitted)

theorem takeSetMachine_separated (hs : s.separated) (f : MachineFields) : (takeSetMachine f s).1.separated := by
  unfold takeSetMachine
  split
  · exact hs
  split
  · exact hs
  split
  · exact hs
  split
  · next law => exact State.writeMachine_separated law
  · exact hs

/-! ### ENGRAVE (R126 to R129) -/

theorem State.acceptanceFailure_room (hr : s.acceptanceFailure h b = none) : s.roomFor h b = true := by
  rw [State.acceptanceFailure_eq] at hr
  split_ifs at hr with _ _ _ _ _ _ hroom
  simpa using hroom

theorem State.acceptanceFailure_homed (hr : s.acceptanceFailure h b = none) (fit : s.fitted h = true) :
    (s.axes.get h).homed = true := by
  rw [State.acceptanceFailure_eq] at hr
  split_ifs at hr with _ _ _ _ hall _ _
  exact (State.allHomed_iff s).mp (by simpa using hall) h fit

theorem State.activate_narrows (s : State) (h : HeadId) (b : Band) (g : HeadId) :
    (s.taken h b).Narrows (s.activate h b) g :=
  ((s.prepareBand_narrows h b g).trans (State.limitCheck_narrows _ h g)).trans (State.service_narrows _ h g)

theorem State.activate_board (s : State) (h : HeadId) (b : Band) : s.SameBoard (s.activate h b) :=
  ((State.setActive_board s h (some b)).trans (s.prepareBand_works h b).moves.board).trans
    (State.afterActivation_works _ h).moves.board

/-- A band that has room is made active. -/
theorem State.activate_separated (hs : s.separated) (room : s.roomFor h b = true) : (s.activate h b).separated := by
  have htaken : (s.taken h b).separated :=
    State.separated_of_tested hs (s.taken_local h b) (s.taken_board h b) room (fun x hx => s.taken_span h b hx) (.refl _)
      fun g => .refl _ g
  have hboard := s.activate_board h b
  exact State.separated_of_narrows htaken (by rw [hboard.machine, (s.taken_board h b).machine])
    (by rw [hboard.ctu, (s.taken_board h b).ctu]) (s.activate_narrows h b)

/-- A band that has room waits behind the active one. -/
theorem State.pend_separated (hs : s.separated) (homed : (s.axes.get h).homed = true) (room : s.roomFor h b = true) :
    (s.updBands h fun q => { q with waiting := some b }).separated := by
  refine State.separated_of_tested hs (.updBands s h _) (State.Moves.updBands s h _).board room (fun x hx => ?_) (.refl _)
    fun g => .refl _ g
  rw [State.span_homed (s := s.updBands h fun q => { q with waiting := some b }) homed] at hx
  obtain rfl := Option.some.inj hx
  refine spanOver_within_of_subset (by simp [State.spanPoints]) fun y hy => ?_
  rw [State.spanPoints, List.mem_append, List.mem_flatMap] at hy
  obtain hy | ⟨c, hc, hy⟩ := hy
  · exact List.mem_append_left _ (List.mem_append_left _ hy)
  · simp only [State.held, State.updBands, Quad.get_set_same, Option.toList_some, List.mem_append, List.mem_singleton] at hc
    obtain hc | rfl := hc
    · exact List.mem_append_left _ (State.extents_mem (List.mem_append_left _ hc) hy)
    · exact List.mem_append_right _ hy

theorem takeEngrave_separated (hs : s.separated) (f : EngraveFields) : (takeEngrave f s).1.separated := by
  refine onFitted_keeps (P := State.separated) hs fun h fit => ?_
  split
  · exact hs
  split
  · exact hs
  next hr =>
    have room := State.acceptanceFailure_room hr
    split
    · unfold engraveActive
      split
      · exact hs
      · exact State.activate_separated hs room
    · exact State.pend_separated hs (State.acceptanceFailure_homed hr fit) room

/-! ### Requests -/

/-- The law does not read the link. -/
theorem State.separated.setLink (hs : s.separated) (l : Link) : ({ s with link := l } : State).separated :=
  State.separated_of_narrows hs rfl le_rfl fun _ => .of_same rfl rfl rfl

/-- A request keeps the law when its owner does. -/
theorem State.request_separated {α : Type} {f : Frame} {fields : Option α} {owner : α → State → State × Response}
    (hs : s.separated) (own : ∀ a, (owner a s.handed).1.separated) (ht : (s.request f fields owner).done = .next t) :
    t.separated := by
  have hreq : (s.request f fields owner).separated := by
    obtain ⟨-, hr⟩ | ⟨-, -, hr⟩ | ⟨a, -, -, hr⟩ := s.request_cases f fields owner <;> rw [hr]
    · exact hs.setLink _
    · exact (hs.setLink _).setLink _
    · exact (own a).setLink _
  obtain rfl := Host.Outcome.next.inj ht
  exact hreq.setLink _

end Sys2Proof.Machine

open Sys2Proof Sys2Proof.Machine

/-- Settles O13: each of the five requests tests the span it would take (`State.separated_of_tested`), and what follows the
test only narrows spans. -/
theorem requestsKeepSeparation : Obligations.RequestsKeepSeparation := by
  unfold Obligations.RequestsKeepSeparation
  intro c tag payload s t hc hs lawful ht
  have hh : s.handed.separated := hs.setLink _
  simp only [List.mem_cons, List.not_mem_nil, or_false] at hc
  obtain rfl | rfl | rfl | rfl | rfl := hc
  · exact State.request_separated hs (takeHome_separated hh) ht
  · exact State.request_separated hs (takeSeek_separated hh) ht
  · exact State.request_separated hs (takeSetAxis_separated hh lawful) ht
  · exact State.request_separated hs (takeSetMachine_separated hh) ht
  · exact State.request_separated hs (takeEngrave_separated hh) ht

end

section
/-! What a head and its axis hold together (the laws of O14 at one head): when they agree, what keeps them so, and how far an
axis under a band may stand. -/

namespace Sys2Proof.Machine

variable {s t u : State} {g h k : HeadId} {b c p : Band} {a z : Axis} {f : FeedContext} {x : Nat}

/-! ### An axis under its head's active band -/

/-- An axis in FEEDING under a band, with its feed context and its position (R118 to R121). -/
structure Axis.Under (a : Axis) (b : Band) (pitch : Nat) (f : FeedContext) (p : Nat) : Prop where
  state : a.state = .feeding
  target : a.target = none
  feed : a.feed = some f
  position : a.position = some p
  moves : ∀ m, a.move = some m → a.outputs.up = m.up
  feedsUp : f.pointer.isSome = true → a.outputs.up = true
  context : f.feed = b.feed ∧ f.start = b.start ∧ f.pitch = pitch
  positioning : f.stage = .positioning → b.phase = .positioning ∧ f.armed = false ∧ f.pointer = none ∧
    ∀ m, a.move = some m → 1 ≤ m.toGo ∧ if m.up then p + m.toGo = b.start else p = b.start + m.toGo
  hold : f.stage = .hold → a.move = none
  moving : f.stage = .move → f.feed = .stepped ∧ ∃ m, a.move = some m ∧ m.up = true ∧ 1 ≤ m.toGo
  phases : (b.phase = .engaging ∨ b.phase = .waitSync ∨ b.phase = .suspended → f.stage = .hold) ∧
    (b.phase ≠ .cutting → f.armed = false) ∧ (f.armed = true → f.feed = .stepped)
  within : f.stage ≠ .positioning → f.reach p a.move ≤ b.earned f.pitch

theorem Axis.Under.homed (r : a.Under b x f n) : a.homed = true := by simp [Axis.homed, r.state]

/-- What a head with an active band agrees on. -/
structure State.Rides (s : State) (h : HeadId) (b : Band) (f : FeedContext) (p : Nat) : Prop where
  active : s.active h = some b
  under : (s.axes.get h).Under b (s.screen b.screen).pitch f p
  fits : s.bandFits b
  waits : ∀ c, (s.bands.get h).waiting = some c → s.bandFits c
  loads : ∀ t, (s.buffers.get h).standby.held.track? = some t → t.number ≤ b.last

/-- What a head with no active band agrees on. -/
structure State.Rests (s : State) (h : HeadId) : Prop where
  active : s.active h = none
  waiting : (s.bands.get h).waiting = none
  state : (s.axes.get h).state ≠ .feeding
  lawful : (s.axes.get h).stateLawful
  tracked : (s.axes.get h).Tracked
  empty : (s.buffers.get h).standby.held = .empty

theorem State.CarriageSound.rides (e : s.CarriageSound h) (hb : s.active h = some b) : ∃ f p, s.Rides h b f p := by
  obtain ⟨f, p, hf, hp, carries⟩ := e.carries b hb
  obtain ⟨-, hseek, -⟩ := e.lawful
  have state := e.feeding.mp (by simp [hb])
  have target : (s.axes.get h).target = none := by
    by_contra ne
    simpa [state] using hseek (Option.isSome_iff_ne_none.mpr ne)
  refine ⟨f, p, hb, ⟨state, target, hf, hp, e.tracked.moves, fun hpointer => e.tracked.feedsUp (by simpa [hf] using hpointer),
    carries.context, carries.positioning, carries.hold, carries.moving, carries.phases, carries.within⟩,
    e.fits b (State.mem_held_iff.mpr (.inl hb)), fun c hc => e.fits c (State.mem_held_iff.mpr (.inr hc)), e.loads b hb⟩

theorem State.Rides.sound (r : s.Rides h b f x) : s.CarriageSound h where
  lawful := ⟨fun _ => r.under.homed, fun e => by simp [r.under.target] at e, fun _ => r.under.state⟩
  tracked := ⟨fun _ => by simp [r.under.position], fun e => by simp [r.under.state] at e, r.under.moves,
    fun e => r.under.feedsUp (by simpa [r.under.feed] using e)⟩
  follows := fun _ => (congrArg Option.isSome r.active).trans rfl
  feeding := by simp [r.active, r.under.state]
  fits c hc := by
    obtain e | e := State.mem_held_iff.mp hc
    · obtain rfl := Option.some.inj (r.active.symm.trans e)
      exact r.fits
    · exact r.waits c e
  empty e := by simp [r.active] at e
  loads c hc := by
    obtain rfl := Option.some.inj (r.active.symm.trans hc)
    exact r.loads
  carries c hc := by
    obtain rfl := Option.some.inj (r.active.symm.trans hc)
    obtain ⟨-, -, hf, hp, -, -, context, positioning, hold, moving, phases, within⟩ := r.under
    exact ⟨f, x, hf, hp, context, positioning, hold, moving, phases, within⟩

theorem State.CarriageSound.rests (e : s.CarriageSound h) (idle : s.active h = none) : s.Rests h where
  active := idle
  waiting := by
    by_contra ne
    simpa [State.active] using (congrArg Option.isSome idle).symm.trans (e.follows (Option.isSome_iff_ne_none.mpr ne))
  state := fun e' => by simpa [idle] using e.feeding.mpr e'
  lawful := e.lawful
  tracked := e.tracked
  empty := e.empty idle

theorem State.Rests.sound (r : s.Rests h) : s.CarriageSound h where
  lawful := r.lawful
  tracked := r.tracked
  follows e := by simp [r.waiting] at e
  feeding := by simp [r.active, r.state]
  fits c hc := by
    obtain e | e := State.mem_held_iff.mp hc
    · simp [r.active] at e
    · simp [r.waiting] at e
  empty _ := r.empty
  loads _ hc := by simp [r.active] at hc
  carries _ hc := by simp [r.active] at hc

theorem State.Rests.free (r : s.Rests h) : s.held h = [] := by
  have := r.active
  rw [State.active] at this
  simp [State.held, this, r.waiting]

theorem State.CarriageSound.rests_of_free (e : s.CarriageSound h) (free : s.held h = []) : s.Rests h :=
  e.rests (by simp only [State.held, List.append_eq_nil_iff, Option.toList_eq_nil_iff] at free; exact free.1)

/-! ### The copy in flight -/

/-- A copy in flight for head g belongs to its active band, and its STANDBY buffer is LOADING with its track. -/
def State.copyOwnedAt (s : State) (g : HeadId) : Prop :=
  ∀ c, s.fetch.copy = some c → c.head = g →
    (s.active g).isSome = true ∧ (s.buffers.get g).standby.held = .loading ⟨c.track, .data, c.n⟩

theorem State.copyOwned_iff (s : State) : s.copyOwned ↔ ∀ g, s.copyOwnedAt g :=
  ⟨fun e _ c hc hg => hg ▸ e c hc, fun e c hc => e c.head c hc rfl⟩

/-- Everything O14 says of one head. -/
structure State.PoisedAt (s : State) (g : HeadId) : Prop where
  sound : s.CarriageSound g
  owned : s.copyOwnedAt g

/-- From `s` to `t` head g keeps its laws, and its span narrows. -/
structure State.RidesAt (s t : State) (g : HeadId) : Prop where
  keeps : s.PoisedAt g → t.PoisedAt g ∧ s.Narrows t g

theorem State.RidesAt.refl (s : State) (g : HeadId) : s.RidesAt s g := ⟨fun e => ⟨e, .refl s g⟩⟩

theorem State.RidesAt.trans (x : s.RidesAt t g) (y : t.RidesAt u g) : s.RidesAt u g where
  keeps e := by
    obtain ⟨ht, hst⟩ := x.keeps e
    obtain ⟨hu, htu⟩ := y.keeps ht
    exact ⟨hu, hst.trans htu⟩

/-- From `s` to `t` nothing that the laws of head g read has changed. -/
structure State.SameCarriage (s t : State) (g : HeadId) : Prop where
  axis : t.axes.get g = s.axes.get g
  active : t.active g = s.active g
  waiting : (t.bands.get g).waiting = (s.bands.get g).waiting
  standby : (t.buffers.get g).standby.held = (s.buffers.get g).standby.held
  screens : t.screens = s.screens
  copy : ∀ c, t.fetch.copy = some c → c.head = g → s.fetch.copy = some c

theorem State.bandFits_of_screens (screens : t.screens = s.screens) : t.bandFits b ↔ s.bandFits b := by
  simp only [State.bandFits, State.screen, screens]

theorem State.SameCarriage.narrows (e : s.SameCarriage t g) : s.Narrows t g :=
  .of_recedes e.screens (e.axis ▸ .refl _) fun c hc => ⟨c, by
    rw [State.mem_held_iff] at hc ⊢
    rwa [e.active, e.waiting] at hc, .refl c⟩

theorem State.SameCarriage.sound (e : s.SameCarriage t g) (hs : s.CarriageSound g) : t.CarriageSound g := by
  cases hb : s.active g with
  | none =>
    have r := hs.rests hb
    exact State.Rests.sound ⟨e.active.trans hb, e.waiting.trans r.waiting, e.axis ▸ r.state, e.axis ▸ r.lawful, e.axis ▸ r.tracked,
      e.standby.trans r.empty⟩
  | some b =>
    obtain ⟨f, p, r⟩ := hs.rides hb
    refine State.Rides.sound (b := b) (f := f) (x := p) ⟨e.active.trans hb, ?_, (State.bandFits_of_screens e.screens).mpr r.fits,
      fun c hc => (State.bandFits_of_screens e.screens).mpr (r.waits c (e.waiting ▸ hc)), e.standby ▸ r.loads⟩
    rw [e.axis, State.screen, e.screens]
    exact r.under

theorem State.SameCarriage.owned (e : s.SameCarriage t g) (hs : s.copyOwnedAt g) : t.copyOwnedAt g := fun c hc hg => by
  rw [e.active, e.standby]
  exact hs c (e.copy c hc hg) hg

theorem State.SameCarriage.poised (e : s.SameCarriage t g) (hs : s.PoisedAt g) : t.PoisedAt g :=
  ⟨e.sound hs.sound, e.owned hs.owned⟩

theorem State.SameCarriage.ridesAt (e : s.SameCarriage t g) : s.RidesAt t g := ⟨fun hs => ⟨e.poised hs, e.narrows⟩⟩

theorem State.SameAt.sameCarriage (e : s.SameAt t g) (board : s.SameBoard t) (copy : t.fetch.copy = s.fetch.copy) :
    s.SameCarriage t g :=
  ⟨e.axis, e.active, by rw [e.bands], by rw [e.buffers], board.screens, fun _ hc _ => copy ▸ hc⟩

/-- An operation of one head keeps every head's laws when it keeps its own. -/
theorem State.Local.ridesAt (e : State.Local h s t) (board : s.SameBoard t) (own : s.RidesAt t h) (g : HeadId) :
    s.RidesAt t g := by
  by_cases hg : g = h
  · exact hg ▸ own
  · exact ((e.others g hg).sameCarriage board e.copy).ridesAt

theorem State.RidesAt.of_narrows (narrows : s.Narrows t g) (keeps : s.PoisedAt g → t.PoisedAt g) : s.RidesAt t g :=
  ⟨fun e => ⟨keeps e, narrows⟩⟩

/-! ### How far an axis under a band stands -/

/-- What a band has earned lies within its extents (R117, R120, R121). -/
theorem Band.earned_le (b : Band) (first : b.first ≤ b.next) (next : b.next ≤ b.first + b.count) (pitch : Nat) :
    b.start ≤ b.earned pitch ∧ b.earned pitch ≤ extentEnd b.feed b.start b.count pitch := by
  unfold Band.earned extentEnd
  refine ⟨Nat.le_add_right _ _, ?_⟩
  cases b.feed
  · exact Nat.add_le_add_left (Nat.mul_le_mul_right _ (Nat.min_le_right _ _)) _
  · exact Nat.add_le_add_left (Nat.mul_le_mul_right _ (show b.next - b.first ≤ b.count by omega)) _

theorem State.start_mem (s : State) (b : Band) : b.start ∈ s.extents b := by simp [State.extents]

theorem State.extentEnd_mem (s : State) (b : Band) :
    extentEnd b.feed b.start b.count (s.screen b.screen).pitch ∈ s.extents b := by simp [State.extents]

/-- From its position up to where its band has earned it room, an axis stays within its span. -/
theorem State.Rides.between (r : s.Rides h b f x) {y : Nat} (stage : f.stage ≠ .positioning) (low : x ≤ y)
    (high : y ≤ f.reach x (s.axes.get h).move) : lowest (s.spanPoints h) ≤ y ∧ y ≤ highest (s.spanPoints h) := by
  obtain ⟨-, first, next, -⟩ := r.fits
  have hpos : x ∈ s.spanPoints h := by simpa [r.under.position] using s.position_mem h
  have hend := le_highest (State.extents_mem (State.mem_held_iff.mpr (.inl r.active)) (s.extentEnd_mem b))
  have hearned := (b.earned_le first next (s.screen b.screen).pitch).2
  obtain ⟨-, -, hpitch⟩ := r.under.context
  have hwithin := r.under.within stage
  rw [hpitch] at hwithin
  exact ⟨(lowest_le hpos).trans low, high.trans (hwithin.trans (hearned.trans hend))⟩

/-- A homed axis at a place within its span, with no target, under bands that were held before. -/
theorem State.Narrows.of_place {y : Nat} (before : (s.axes.get h).homed = true) (after : (t.axes.get h).homed = true)
    (origin : (t.axes.get h).settings.origin = (s.axes.get h).settings.origin) (position : (t.axes.get h).position = some y)
    (target : (t.axes.get h).target = none) (between : lowest (s.spanPoints h) ≤ y ∧ y ≤ highest (s.spanPoints h))
    (screens : t.screens = s.screens) (held : ∀ c ∈ t.held h, ∃ b ∈ s.held h, b.sameExtents c) : s.Narrows t h := by
  refine .of_points before after origin fun w hw => ?_
  simp only [State.spanPoints, position, target, Option.getD_some, Option.toList_none, List.append_nil, List.mem_append,
    List.mem_singleton, List.mem_flatMap] at hw
  obtain rfl | ⟨c, hc, hw⟩ := hw
  · exact between
  · obtain ⟨b, hb, e⟩ := held c hc
    have hmem := State.extents_mem hb (e.extents screens ▸ hw)
    exact ⟨lowest_le hmem, le_highest hmem⟩

end Sys2Proof.Machine
end

section
/-! Orders and activations keep the laws of O14 at every head (R90 to R93, R118, R128 to R130). -/

namespace Sys2Proof.Machine

variable {s t u : State} {g h k : HeadId} {b c p : Band} {a z : Axis} {f f' : FeedContext} {x y n : Nat}

/-! ### Another band context over the same band -/

/-- The part of a band context that says how much room the band has earned, with its phase free. -/
structure Band.SameWay (b c : Band) : Prop where
  extents : b.sameExtents c
  first : c.first = b.first
  next : c.next = b.next

theorem Band.SameWay.refl (b : Band) : b.SameWay b := ⟨.refl b, rfl, rfl⟩

theorem Band.SameWay.earned (e : b.SameWay c) (pitch : Nat) : c.earned pitch = b.earned pitch := by
  obtain ⟨⟨start, feed, count, -⟩, first, next⟩ := e
  simp only [Band.earned, start, feed, count, first, next]

theorem Band.SameWay.last (e : b.SameWay c) : c.last = b.last := by
  obtain ⟨⟨-, -, count, -⟩, first, -⟩ := e
  rw [Band.last, Band.last, count, first]

theorem Band.SameWay.fits (e : b.SameWay c) (screens : t.screens = s.screens) (hs : s.bandFits b) : t.bandFits c := by
  obtain ⟨⟨-, -, count, screen⟩, first, next⟩ := e
  rw [State.bandFits_of_screens screens]
  rwa [State.bandFits, count, screen, first, next]

/-- What a phase asks of the axis's feed context (R118, R120, R130). -/
structure Phase.Allows (phase : Phase) (f : FeedContext) : Prop where
  positioning : f.stage = .positioning → phase = .positioning
  hold : phase = .engaging ∨ phase = .waitSync ∨ phase = .suspended → f.stage = .hold
  armed : phase ≠ .cutting → f.armed = false

theorem Axis.Under.allows (r : a.Under b n f x) : b.phase.Allows f :=
  ⟨fun e => (r.positioning e).1, r.phases.1, r.phases.2.1⟩

/-- An axis in HOLD with no trigger armed is where every phase but POSITIONING allows it. -/
theorem Phase.Allows.of_hold {phase : Phase} (hold : f.stage = .hold) (armed : f.armed = false) : phase.Allows f :=
  ⟨fun e => by simp [hold] at e, fun _ => hold, fun _ => armed⟩

theorem Axis.Under.rephase (r : a.Under b n f x) (way : b.SameWay c) (allows : c.phase.Allows f) : a.Under c n f x where
  state := r.state
  target := r.target
  feed := r.feed
  position := r.position
  moves := r.moves
  feedsUp := r.feedsUp
  context := by
    obtain ⟨feed, start, pitch⟩ := r.context
    obtain ⟨start', feed', -⟩ := way.extents
    exact ⟨feed.trans feed'.symm, start.trans start'.symm, pitch⟩
  positioning e := by
    obtain ⟨-, armed, pointer, move⟩ := r.positioning e
    exact ⟨allows.positioning e, armed, pointer, way.extents.1 ▸ move⟩
  hold := r.hold
  moving := r.moving
  phases := ⟨allows.hold, allows.armed, r.phases.2.2⟩
  within e := (way.earned _).symm ▸ r.within e

/-- The band in another context over the same axis. -/
theorem State.Rides.rebanded (r : s.Rides h b f x) (way : b.SameWay c) (active : t.active h = some c)
    (under : (t.axes.get h).Under c (s.screen b.screen).pitch f' y) (waiting : (t.bands.get h).waiting = (s.bands.get h).waiting)
    (standby : (t.buffers.get h).standby.held = (s.buffers.get h).standby.held) (screens : t.screens = s.screens) :
    t.Rides h c f' y where
  active := active
  under := by
    obtain ⟨-, -, -, screen⟩ := way.extents
    rwa [State.screen, screens, screen]
  fits := way.fits screens r.fits
  waits d hd := (State.bandFits_of_screens screens).mpr (r.waits d (waiting ▸ hd))
  loads := by rw [standby, way.last]; exact r.loads

/-- A head that rides on, with the same copy and the same STANDBY. -/
theorem State.PoisedAt.of_rides (hs : s.PoisedAt h) (r : t.Rides h c f x)
    (standby : (t.buffers.get h).standby.held = (s.buffers.get h).standby.held) (copy : t.fetch.copy = s.fetch.copy) :
    t.PoisedAt h where
  sound := r.sound
  owned d hd hh := ⟨by simp [r.active], standby ▸ (hs.owned d (copy ▸ hd) hh).2⟩

/-- The active band in another context (R130). -/
theorem State.setActive_ridesAt (hb : s.active h = some b) (way : b.SameWay c)
    (allows : ∀ f p, s.Rides h b f p → c.phase.Allows f) (g : HeadId) : s.RidesAt (s.setActive h (some c)) g := by
  refine (State.Local.setActive s h _).ridesAt (s.setActive_board h _) ?_ g
  refine .of_narrows (State.setActive_some_narrows hb way.extents h) fun hs => ?_
  obtain ⟨f, p, r⟩ := hs.sound.rides hb
  refine hs.of_rides (c := c) (f := f) (x := p) ?_ rfl rfl
  exact r.rebanded way (by simp [State.active]) (r.under.rephase way (allows f p r)) (by simp) rfl rfl

/-- Counts of the active band that no law reads. -/
theorem State.updActive_ridesAt {w : Band → Band} (way : ∀ b : Band, b.SameWay (w b)) (phase : ∀ b : Band, (w b).phase = b.phase)
    (g : HeadId) : s.RidesAt (s.updActive h w) g := by
  unfold State.updActive
  cases hb : s.active h with
  | none =>
    refine State.SameCarriage.ridesAt ⟨rfl, ?_, ?_, rfl, rfl, fun _ hc _ => hc⟩
    all_goals by_cases e : g = h
    all_goals simp_all [State.active, State.setActive, State.updBands]
  | some b => exact State.setActive_ridesAt hb (way b) (fun f p r => (phase b).symm ▸ r.under.allows) g

/-! ### Heads and their reports -/

theorem State.updHead_ridesAt (s : State) (h : HeadId) (w : Head → Head) (g : HeadId) : s.RidesAt (s.updHead h w) g :=
  State.SameCarriage.ridesAt ⟨rfl, rfl, rfl, rfl, rfl, fun _ hc _ => hc⟩

theorem State.dwellIdle_carriage (s : State) (h g : HeadId) : s.SameCarriage (s.dwellIdle h) g := by
  unfold State.dwellIdle
  split
  · exact ⟨rfl, rfl, rfl, rfl, rfl, fun _ hc _ => hc⟩
  · exact ⟨rfl, rfl, rfl, rfl, rfl, fun _ hc _ => hc⟩

theorem Band.sameWay_phase (b : Band) (p : Phase) : b.SameWay { b with phase := p } := ⟨b.sameExtents_phase p, rfl, rfl⟩

theorem State.onEngaged_ridesAt (s : State) (h g : HeadId) : s.RidesAt (s.onEngaged h) g := by
  unfold State.onEngaged
  split
  · exact (s.dwellIdle_carriage h g).ridesAt
  · next b hb =>
    split
    · next engaging =>
      refine State.setActive_ridesAt hb (b.sameWay_phase _) (fun f p r => ?_) g
      obtain ⟨hold, armed, -⟩ := r.under.phases
      exact .of_hold (hold (.inl engaging)) (armed (by simp [engaging]))
    · exact .refl s g

theorem State.engageOrder_ridesAt (s : State) (h g : HeadId) : s.RidesAt (s.engageOrder h) g := by
  unfold State.engageOrder
  dsimp only
  split
  · exact (s.updHead_ridesAt h _ g).trans (State.onEngaged_ridesAt _ h g)
  · exact s.updHead_ridesAt h _ g
  · exact s.updHead_ridesAt h _ g

/-- An axis in HOLD reports at start. -/
theorem State.onAtStart_ridesAt (hold : ∀ f, (s.axes.get h).feed = some f → f.stage = .hold) (g : HeadId) :
    s.RidesAt (s.onAtStart h) g := by
  unfold State.onAtStart
  split
  · exact .refl s g
  · next b hb =>
    split
    · next positioning =>
      refine (State.setActive_ridesAt hb (b.sameWay_phase .engaging) (fun f p r => ?_) g).trans
        (State.engageOrder_ridesAt _ h g)
      obtain ⟨-, armed, -⟩ := r.under.phases
      exact .of_hold (hold f r.under.feed) (armed (by simp [positioning]))
    · exact .refl s g

/-! ### The position order (R118) -/

/-- Without a helical revolution no step is owed. -/
theorem FeedContext.unissued_of_still (pointer : f.pointer = none) : f.unissued = 0 := by
  cases hf : f.feed <;> simp [FeedContext.unissued, hf, pointer]

/-- An axis that has come to its band's start holds there. -/
theorem Axis.Under.atStart (r : a.Under b n f x) (positioning : f.stage = .positioning) (start : x = b.start)
    (still : a.move = none) : (a.setStage .hold).Under b n { f with stage := .hold } x where
  state := r.state
  target := r.target
  feed := by simp [Axis.setStage, r.feed]
  position := r.position
  moves := r.moves
  feedsUp := r.feedsUp
  context := r.context
  positioning e := by simp at e
  hold _ := still
  moving e := by simp at e
  phases := ⟨fun _ => rfl, r.phases.2⟩
  within _ := by
    obtain ⟨-, armed, pointer, -⟩ := r.positioning positioning
    have hunissued : FeedContext.unissued { f with stage := .hold } = 0 := FeedContext.unissued_of_still pointer
    have hmove : (a.setStage .hold).move = none := still
    rw [FeedContext.reach, hunissued, hmove, if_neg (by simp [armed]), start]
    exact Nat.le_add_right _ _

/-- An axis away from its band's start sets out for it. -/
theorem Axis.Under.setOut (r : a.Under b n f x) (positioning : f.stage = .positioning) (away : x ≠ b.start) (now : Nat) :
    (a.drive (a.moveTo f.start now)).Under b n f x where
  state := r.state
  target := r.target
  feed := r.feed
  position := r.position
  moves m hm := by obtain rfl := Option.some.inj hm; rfl
  feedsUp e := by
    obtain ⟨-, -, pointer, -⟩ := r.positioning positioning
    simp [pointer] at e
  context := r.context
  positioning e := by
    obtain ⟨phase, armed, pointer, -⟩ := r.positioning e
    obtain ⟨-, hstart, -⟩ := r.context
    refine ⟨phase, armed, pointer, fun m hm => ?_⟩
    obtain rfl := Option.some.inj hm
    have hpos : a.pos = x := by simp [Axis.pos, r.position]
    rw [hstart, Axis.moveTo, hpos]
    split
    · next le => exact ⟨Nat.sub_pos_of_lt (lt_of_le_of_ne le away), by simp [Axis.moveOf, le]⟩
    · next le =>
      refine ⟨Nat.sub_pos_of_lt (Nat.lt_of_not_le le), ?_⟩
      simp only [Axis.moveOf, Bool.false_eq_true, if_false]
      omega
  hold e := by simp [positioning] at e
  moving e := by simp [positioning] at e
  phases := r.phases
  within e := absurd positioning e

/-- A change of the axis alone under the same band. -/
theorem State.updAxis_ridesAt {w : Axis → Axis} (recedes : (s.axes.get h).Recedes (w (s.axes.get h)))
    (keeps : s.PoisedAt h → (s.updAxis h w).PoisedAt h) (g : HeadId) : s.RidesAt (s.updAxis h w) g :=
  (State.Local.updAxis s h w).ridesAt (s.updAxis_board h w) (.of_narrows (State.updAxis_narrows recedes h) keeps) g

/-- The axis under the active band is changed. -/
theorem State.PoisedAt.updAxis_under {w : Axis → Axis} (hs : s.PoisedAt h) (r : s.Rides h b f x)
    (under : (w (s.axes.get h)).Under b (s.screen b.screen).pitch f' y) : (s.updAxis h w).PoisedAt h :=
  hs.of_rides (r.rebanded (t := s.updAxis h w) (.refl b) r.active (by simpa using under) rfl rfl rfl) rfl rfl

/-- A head with a feed context rides under a band. -/
theorem State.PoisedAt.rides_of_feed (hs : s.PoisedAt h) (hf : (s.axes.get h).feed = some f) : ∃ b p, s.Rides h b f p := by
  obtain ⟨-, -, feed⟩ := hs.sound.lawful
  obtain ⟨b, hb⟩ := Option.isSome_iff_exists.mp (hs.sound.feeding.mpr (feed (by simp [hf])))
  obtain ⟨f', p, r⟩ := hs.sound.rides hb
  obtain rfl := Option.some.inj (hf.symm.trans r.under.feed)
  exact ⟨b, p, r⟩

theorem State.positionOrder_ridesAt (s : State) (h g : HeadId) : s.RidesAt (s.positionOrder h) g := by
  unfold State.positionOrder
  dsimp only
  split
  · exact .refl s g
  · next f hf =>
    split
    · next positioning =>
      split
      · next start =>
        refine (State.updAxis_ridesAt (Axis.setStage_recedes _ _) (fun hs => ?_) g).trans
          (State.onAtStart_ridesAt (fun f' hf' => ?_) g)
        · obtain ⟨b, p, r⟩ := hs.rides_of_feed hf
          obtain ⟨-, hstart, -⟩ := r.under.context
          have hp : p = b.start := by simpa [Axis.pos, r.under.position, hstart] using start
          refine hs.updAxis_under r (r.under.atStart positioning hp ?_)
          obtain ⟨-, -, -, moves⟩ := r.under.positioning positioning
          by_contra ne
          obtain ⟨m, hm⟩ := Option.ne_none_iff_exists'.mp ne
          obtain ⟨hgo, hto⟩ := moves m hm
          split at hto <;> omega
        · simp only [State.updAxis_get_same, Axis.setStage, hf, Option.map_some, Option.some.injEq] at hf'
          rw [← hf']
      · next away =>
        refine State.updAxis_ridesAt (Axis.drive_recedes _ _) (fun hs => ?_) g
        obtain ⟨b, p, r⟩ := hs.rides_of_feed hf
        obtain ⟨-, hstart, -⟩ := r.under.context
        exact hs.updAxis_under r (r.under.setOut positioning (by simpa [Axis.pos, r.under.position, hstart] using away) _)
    · next hold => exact State.onAtStart_ridesAt (fun f' hf' => by rw [hf] at hf'; exact Option.some.inj hf' ▸ hold) g
    · exact .refl s g

theorem State.onParked_ridesAt (s : State) (h g : HeadId) : s.RidesAt (s.onParked h) g := by
  unfold State.onParked
  split
  · split
    · exact s.positionOrder_ridesAt h g
    · exact .refl s g
  · exact .refl s g
  · exact .refl s g

theorem State.onReport_ridesAt (s : State) (h : HeadId) (r : HeadReport) (g : HeadId) : s.RidesAt (s.onReport h r) g := by
  cases r
  · exact .refl s g
  · exact s.onEngaged_ridesAt h g
  · exact s.onParked_ridesAt h g

theorem State.retractOrder_ridesAt (s : State) (h g : HeadId) : s.RidesAt (s.retractOrder h) g :=
  (s.updHead_ridesAt h _ g).trans (State.onReport_ridesAt _ h _ g)

theorem State.immediateRetract_ridesAt (s : State) (h g : HeadId) : s.RidesAt (s.immediateRetract h) g :=
  (s.updHead_ridesAt h _ g).trans (State.onReport_ridesAt _ h _ g)

/-! ### Activation (R128, R129) -/

theorem State.beginPhase_ridesAt (s : State) (h : HeadId) (b : Band) (inPlace : Bool) (g : HeadId) :
    (s.enter h b (entryPhase inPlace (s.heads.get h).state)).RidesAt (s.beginPhase h b inPlace) g := by
  unfold State.beginPhase entryPhase
  cases inPlace <;> cases (s.heads.get h).state
  case true.ready => exact State.updHead_ridesAt ..
  case true.parked => exact (State.positionOrder_ridesAt _ h g).trans (State.engageOrder_ridesAt _ h g)
  case true.engaging => exact State.engageOrder_ridesAt ..
  case true.settling => exact State.engageOrder_ridesAt ..
  case true.cutting => exact State.engageOrder_ridesAt ..
  case true.retracting => exact State.engageOrder_ridesAt ..
  case false.parked => exact State.positionOrder_ridesAt ..
  case false.engaging => exact State.retractOrder_ridesAt ..
  case false.settling => exact State.retractOrder_ridesAt ..
  case false.ready => exact State.retractOrder_ridesAt ..
  case false.cutting => exact State.retractOrder_ridesAt ..
  case false.retracting => exact .refl _ g

theorem State.prepareBand_ridesAt (s : State) (h : HeadId) (b : Band) (g : HeadId) :
    (s.taken h b).RidesAt (s.prepareBand h b) g := by
  have := State.beginPhase_ridesAt ((s.updHead h fun y => y.prepare
      (PlacementContext.build b.screen (s.screen b.screen) (s.ctu.lastPeriod.getD 0))
      (DepthTable.build b.curve (s.curve b.curve) y.settings.calibration)).updAxis h fun a =>
    a.takeFor b (s.screen b.screen)) h b (decide ((s.axes.get h).pos = b.start)) g
  rw [State.updAxis_heads, State.updHead_get_same] at this
  exact this

/-- The phase of an activation allows the stage in which the axis is taken (R118, R129). -/
theorem entryPhase_allows (inPlace : Bool) (y : HeadState) (armed : f.armed = false)
    (stage : f.stage = if inPlace then .hold else .positioning) : (entryPhase inPlace y).Allows f := by
  unfold entryPhase
  cases inPlace
  · refine ⟨fun _ => rfl, fun e => ?_, fun _ => armed⟩
    simp at e
  · exact .of_hold stage armed

/-- The feed context of a band that becomes active (R118). -/
def Band.opens (b : Band) (w : Screen) (inPlace : Bool) : FeedContext :=
  ⟨b.tag, b.feed, b.start, w.gap, w.pitch, if inPlace then .hold else .positioning, false, none⟩

theorem Axis.takeFor_feed (a : Axis) (b : Band) (w : Screen) :
    (a.takeFor b w).feed = some (b.opens w (decide (a.pos = b.start))) := by simp [Axis.takeFor, Band.opens]

/-- A homed axis is taken into FEEDING (action 3 of R128). -/
theorem Axis.takeFor_under {w : Screen} (position : a.position = some x) (y : HeadState) :
    (a.takeFor b w).Under { b with phase := entryPhase (decide (a.pos = b.start)) y } w.pitch
      (b.opens w (decide (a.pos = b.start))) x where
  state := rfl
  target := rfl
  feed := a.takeFor_feed b w
  position := position
  moves m hm := by simp [Axis.takeFor] at hm
  feedsUp e := by simp [Band.opens] at e
  context := ⟨rfl, rfl, rfl⟩
  positioning e := ⟨(entryPhase_allows _ y rfl rfl).positioning e, rfl, rfl, fun m hm => by simp [Axis.takeFor] at hm⟩
  hold _ := rfl
  moving e := by unfold Band.opens at e; split at e <;> simp at e
  phases := ⟨(entryPhase_allows _ y rfl rfl).hold, fun _ => rfl, fun e => by simp [Band.opens] at e⟩
  within e := by
    have start : x = b.start := by
      by_contra ne
      simp [Band.opens, Axis.pos, position, ne] at e
    rw [FeedContext.reach, FeedContext.unissued_of_still rfl, if_neg (by simp [Band.opens]), start]
    exact Nat.le_add_right _ _

/-- The band that becomes active on a head with none. -/
theorem State.taken_poised (idle : s.active h = none) (position : (s.axes.get h).position = some x) (fits : s.bandFits b)
    (waits : ∀ c, (s.bands.get h).waiting = some c → s.bandFits c) (empty : (s.buffers.get h).standby.held = .empty)
    (owned : s.copyOwnedAt h) : (s.taken h b).PoisedAt h where
  sound := by
    refine State.Rides.sound (b := { b with phase := entryPhase (decide ((s.axes.get h).pos = b.start)) (s.heads.get h).state })
      (f := b.opens (s.screen b.screen) (decide ((s.axes.get h).pos = b.start))) (x := x) ⟨?_, ?_, fits, fun c hc => waits c ?_,
        fun t ht => ?_⟩
    · rw [State.active, State.taken_bands]
    · rw [State.taken_axis]
      exact Axis.takeFor_under position _
    · rwa [State.taken_bands] at hc
    · have hempty : ((s.taken h b).buffers.get h).standby.held = .empty := empty
      simp [hempty, BufferState.track?] at ht
  owned c hc hh := by simpa [idle] using (owned c hc hh).1

end Sys2Proof.Machine
end

section
/-! The fetch of tracks and the ends of bands keep the laws of O14 (R72 to R84, R122, R140 to R142). -/

namespace Sys2Proof.Machine

variable {s t u : State} {g h k : HeadId} {b c p : Band} {a z : Axis} {f f' : FeedContext} {x y n m : Nat} {d : Descriptor}

/-! ### What a band's end leaves -/

/-- The end order leaves an axis as its state says, and not FEEDING (R122). -/
theorem Axis.endOrder_sound (lawful : a.stateLawful) (tracked : a.Tracked) (atBoundary : Bool) :
    (a.endOrder atBoundary).state ≠ .feeding ∧ (a.endOrder atBoundary).stateLawful ∧ (a.endOrder atBoundary).Tracked := by
  have hclosed : ∀ c : Axis, c.homed = a.homed → c.state = a.state → c.move = a.move → c.outputs.up = a.outputs.up →
      c.target = a.target → (c.position.isSome = a.position.isSome) →
      ∀ e : Axis, e = (if c.homed then { c with state := .idle, target := none, move := none, feed := none }
        else { c with feed := none }) → e.state ≠ .feeding ∧ e.stateLawful ∧ e.Tracked := by
    intro c homed state move up target position e he
    obtain ⟨hposition, htarget, -⟩ := lawful
    cases hh : c.homed with
    | true =>
      rw [hh, if_pos rfl] at he
      subst he
      refine ⟨by simp, ⟨fun _ => rfl, fun e => by simp at e, fun e => by simp at e⟩, ⟨fun _ => ?_, fun e => by simp at e,
        fun m hm => by simp at hm, fun e => by simp at e⟩⟩
      exact position.trans (tracked.positioned (homed ▸ hh))
    | false =>
      rw [hh, if_neg (by simp)] at he
      subst he
      have hstate : a.state ≠ .feeding ∧ a.state ≠ .seeking := by
        rw [homed] at hh
        constructor <;> intro e <;> simp [Axis.homed, e] at hh
      refine ⟨by simpa [state] using hstate.1, ⟨fun e => ?_, fun e => ?_, fun e => by simp at e⟩, ⟨fun e => ?_, fun e => ?_,
        fun m hm => ?_, fun e => by simp at e⟩⟩
      · have := hposition (position ▸ e); simp [← homed, hh] at this
      · exact state.trans (htarget (target ▸ e))
      · exact absurd (show c.homed = true from e) (by simp [hh])
      · exact absurd (state.symm.trans e) hstate.2
      · exact up.trans (tracked.moves m (move ▸ hm))
  unfold Axis.endOrder
  cases atBoundary
  · exact hclosed a rfl rfl rfl rfl rfl rfl _ rfl
  · refine hclosed a.closeRevolution (Axis.homed_of_state a.closeRevolution_state) a.closeRevolution_state ?_ ?_ ?_ ?_ _ rfl
    all_goals rw [Axis.closeRevolution_eq]
    simp

/-- A head whose band has ended, with none behind it. -/
theorem State.Ends.poised {rs : List ResultRecord} {w : Head} {atBoundary : Bool}
    (e : s.Ends t h ⟨none, none, rs⟩ w (a.endOrder atBoundary)) (lawful : a.stateLawful) (tracked : a.Tracked)
    (free : ∀ c, t.fetch.copy = some c → c.head ≠ h) : t.PoisedAt h where
  sound := by
    obtain ⟨hstate, hlawful, htracked⟩ := Axis.endOrder_sound lawful tracked atBoundary
    have hbuffers := e.buffers
    refine State.Rests.sound ⟨congrArg BandSequencer.active e.bands, congrArg BandSequencer.waiting e.bands, ?_, ?_, ?_, ?_⟩
    · rw [e.axis]; exact hstate
    · rw [e.axis]; exact hlawful
    · rw [e.axis]; exact htracked
    · rw [hbuffers]; exact LineBuffers.standby_empty rfl rfl
  owned c hc hh := absurd hh (free c hc)

theorem Axis.lost_tracked (a : Axis) (e : AxisFault) : (a.lost e).Tracked :=
  ⟨fun e => by simp [Axis.lost, Axis.homed] at e, fun e => by simp [Axis.lost] at e, fun m hm => by simp [Axis.lost] at hm,
    fun e => by simp [Axis.lost] at e⟩

theorem Axis.lost_not_feeding (a : Axis) (e : AxisFault) : (a.lost e).state ≠ .feeding := by simp [Axis.lost]

theorem State.evalStarvation_carriage (s : State) (h g : HeadId) : s.SameCarriage (s.evalStarvation h) g := by
  have same : ∀ x, s.SameCarriage (s.setStarved h x) g := fun x => ⟨rfl, rfl, rfl, rfl, rfl, fun _ hc _ => hc⟩
  unfold State.evalStarvation
  split
  · exact same _
  · dsimp only
    split_ifs
    · exact same _
    · exact ⟨rfl, rfl, rfl, rfl, rfl, fun _ hc _ => hc⟩
    · exact ⟨rfl, rfl, rfl, rfl, rfl, fun _ hc _ => hc⟩
    · exact same _

theorem State.evalStarvation_ridesAt (s : State) (h g : HeadId) : s.RidesAt (s.evalStarvation h) g :=
  (s.evalStarvation_carriage h g).ridesAt

/-- The pending band of a head ends before it was active (R137, R141). -/
theorem State.endPending_ridesAt (s : State) (h : HeadId) (cls : ResultClass) (cause : Cause) (g : HeadId) :
    s.RidesAt (s.endPending h cls cause) g := by
  refine (State.endPending_local s h cls cause).ridesAt (s.endPending_works h cls cause).moves.board
    (.of_narrows (s.endPending_narrows h cls cause h) fun hs => ?_) g
  unfold State.endPending
  cases hw : (s.bands.get h).waiting with
  | none => exact hs
  | some p =>
    have active : ∀ r, (({ s.updBands h fun q => { q with waiting := none } with } : State).file h r).active h = s.active h := by
      intro r; simp [State.active, State.file, State.post, State.updBands]
    have follows : (s.active h).isSome = true := hs.sound.follows (by simp [hw])
    obtain ⟨b, hb⟩ := Option.isSome_iff_exists.mp follows
    obtain ⟨f, p, r⟩ := hs.sound.rides hb
    refine hs.of_rides (c := b) (f := f) (x := p) ⟨(active _).trans hb, r.under, r.fits, fun c hc => ?_, r.loads⟩ rfl rfl
    simp [State.fileNeverActive, State.file, State.post, State.updBands] at hc

/-! ### Grants -/

theorem State.wants_next (hw : s.wants h = some (b, m)) :
    s.active h = some b ∧ (s.buffers.get h).standby.held = .empty ∧ m ≤ b.last := by
  obtain ⟨hb, empty⟩ := State.wants_some hw
  refine ⟨hb, empty, ?_⟩
  rw [State.wants, hb] at hw
  dsimp only at hw
  split at hw
  · next hcond =>
    obtain ⟨-, rfl⟩ := Prod.mk.inj (Option.some.inj hw)
    exact hcond.2.2
  · contradiction

/-- A head that is eligible for a descriptor: it is one of its band's tracks, and the STANDBY is EMPTY (R72). -/
theorem State.eligibleFor_next (he : s.eligibleFor h = some d) :
    ∃ b, s.active h = some b ∧ (s.buffers.get h).standby.held = .empty ∧ d.number ≤ b.last := by
  unfold State.eligibleFor at he
  split at he
  · next b m e hw hq =>
    split at he
    · next hcond =>
      obtain rfl := Option.some.inj he
      obtain ⟨hb, empty, ordered⟩ := State.wants_next hw
      exact ⟨b, hb, empty, hcond.2.1 ▸ ordered⟩
    · contradiction
  · contradiction
  · contradiction

/-- With an EMPTY STANDBY no copy in flight is the head's. -/
theorem State.copyOwnedAt.free (owned : s.copyOwnedAt h) (empty : (s.buffers.get h).standby.held = .empty) :
    ∀ c, s.fetch.copy = some c → c.head ≠ h := fun c hc hh => by
  have := (owned c hc hh).2
  simp [empty] at this

/-- The STANDBY buffer of a head with an active band takes one of the band's tracks. -/
theorem State.PoisedAt.restandby (hs : s.PoisedAt h) (hb : s.active h = some b) (axis : t.axes.get h = s.axes.get h)
    (active : t.active h = s.active h) (waiting : (t.bands.get h).waiting = (s.bands.get h).waiting)
    (screens : t.screens = s.screens) (loads : ∀ r, (t.buffers.get h).standby.held.track? = some r → r.number ≤ b.last)
    (owned : t.copyOwnedAt h) : t.PoisedAt h where
  sound := by
    obtain ⟨f, p, r⟩ := hs.sound.rides hb
    refine State.Rides.sound (b := b) (f := f) (x := p) ⟨active.trans hb, ?_, (State.bandFits_of_screens screens).mpr r.fits,
      fun c hc => (State.bandFits_of_screens screens).mpr (r.waits c (waiting ▸ hc)), loads⟩
    rw [axis, State.screen, screens]
    exact r.under
  owned := owned

theorem State.startCopy_ridesAt (he : s.eligibleFor h = some d) (g : HeadId) : s.RidesAt (s.startCopy h d) g := by
  refine .of_narrows (s.startCopy_narrows h d g) fun hs => ?_
  refine ((State.evalStarvation_ridesAt _ h g).keeps ?_).1
  by_cases hg : g = h
  · subst hg
    obtain ⟨b, hb, -, ordered⟩ := State.eligibleFor_next he
    refine hs.restandby hb rfl rfl rfl rfl (fun r hr => ?_) fun c hc _ => ?_
    · have : some (⟨d.number, .data, d.n⟩ : BufferTrack) = some r := by
        simpa [State.setStandby, State.updBuffers, BufferState.track?] using hr
      exact Option.some.inj this ▸ ordered
    · obtain rfl := Option.some.inj hc
      exact ⟨(congrArg Option.isSome hb).trans rfl, by simp [State.setStandby, State.updBuffers]⟩
  · refine State.SameCarriage.poised (s := s) ⟨rfl, rfl, rfl, ?_, rfl, fun c hc hh => ?_⟩ hs
    · simp [State.setStandby, State.updBuffers, hg]
    · obtain rfl := Option.some.inj hc
      exact absurd hh.symm hg

theorem State.abortClosed_copy (s : State) (h : HeadId) (b : Band) (cause : Cause) (detail : Option CauseDetail) (order : Retire)
    (atBoundary : Bool) : (s.abortClosed h b cause detail order atBoundary).fetch.copy = s.fetch.copy :=
  (State.abortClosed_local s h b cause detail order atBoundary).copy

theorem State.abortClosed_board (s : State) (h : HeadId) (b : Band) (cause : Cause) (detail : Option CauseDetail) (order : Retire)
    (atBoundary : Bool) : s.SameBoard (s.abortClosed h b cause detail order atBoundary) :=
  ((s.closeBand_moves h b .aborted cause detail order atBoundary).board.trans (State.endPending_works _ h ..).moves.board).trans
    (State.dwellIdle_works _ h).moves.board

/-- A grant that is refused ends the band (R75). -/
theorem State.refuseGrant_ridesAt (free : s.PoisedAt h → ∀ c, s.fetch.copy = some c → c.head ≠ h) (d : Descriptor) (g : HeadId) :
    s.RidesAt (s.refuseGrant h d) g := by
  refine .of_narrows (s.refuseGrant_narrows h d g) fun hs => ?_
  have hstore : s.SameCarriage { s with store := (s.store.grantFront h).giveBack d.pages } g :=
    ⟨rfl, rfl, rfl, rfl, rfl, fun _ hc _ => hc⟩
  unfold State.refuseGrant
  dsimp only
  split
  · exact (hstore.ridesAt.keeps hs).1
  · next b hb =>
    generalize hv : ({ s with store := (s.store.grantFront h).giveBack d.pages } : State) = v at hb hstore
    have hcopy : v.fetch.copy = s.fetch.copy := by rw [← hv]
    by_cases hg : g = h
    · subst hg
      have hends := ((State.closeBand_ends (v.setActive_active g none) b .aborted .trackLength none .retract false).endPending
        .aborted .precedingAbort).dwellIdle (v.setActive_active g none)
      have hsound := hstore.sound hs.sound
      have hactive : ((v.setActive g none).bands.get g).active = none := v.setActive_active g none
      rw [hactive] at hends
      refine State.Ends.poised (s := v.setActive g none) hends hsound.lawful hsound.tracked fun c hc => free hs c ?_
      rw [← hcopy]
      exact (State.abortClosed_copy (v.setActive g none) g ..).symm.trans hc
    · have hboard := (v.setActive_board h none).trans (State.abortClosed_board (v.setActive h none) h b .trackLength none .retract false)
      have hlocal := (State.Local.setActive v h none).trans (State.abortClosed_local (v.setActive h none) h b .trackLength none .retract false)
      exact ((hstore.ridesAt.trans ((hlocal.others g hg).sameCarriage hboard hlocal.copy).ridesAt).keeps hs).1

theorem State.refuseGrant_copy (s : State) (h : HeadId) (d : Descriptor) : (s.refuseGrant h d).fetch.copy = s.fetch.copy := by
  unfold State.refuseGrant
  dsimp only
  split
  · rfl
  · exact State.abortClosed_copy ..

theorem State.asking_eligible (hd : s.asking h = some d) : s.eligibleFor h = some d :=
  (Option.filter_eq_some_iff.mp hd).1

theorem State.arbitrateUpTo_ridesAt (s : State) (tries : Nat) (g : HeadId) : s.RidesAt (s.arbitrateUpTo tries) g := by
  induction tries generalizing s with
  | zero => exact .refl s g
  | succ tries ih =>
    unfold State.arbitrateUpTo
    split
    · exact .refl s g
    · exact .refl s g
    · next free _ =>
      split
      · exact .refl s g
      · next d hd =>
        split
        · exact State.startCopy_ridesAt (State.asking_eligible hd) g
        · exact (State.refuseGrant_ridesAt (fun _ c hc => by simp [free] at hc) d g).trans (ih _)

theorem State.arbitrate_ridesAt (s : State) (g : HeadId) : s.RidesAt s.arbitrate g := s.arbitrateUpTo_ridesAt 5 g

/-- A track that is loaded in place stands in the STANDBY, or the STANDBY is as it was (R77, R78). -/
theorem LineBuffers.loadInPlace_track (q : LineBuffers) (d : Descriptor) :
    (q.loadInPlace d).standby.held = q.standby.held ∨
      ∃ r, (q.loadInPlace d).standby.held = .loaded r ∧ r.number = d.number := by
  unfold LineBuffers.loadInPlace
  split
  · exact .inr ⟨⟨d.number, .again, d.n⟩, by simp, rfl⟩
  · exact .inr ⟨⟨d.number, .blank, d.n⟩, by simp, rfl⟩
  · exact .inr ⟨⟨d.number, .blank, d.n⟩, by simp, rfl⟩
  · exact .inl rfl

theorem State.grantInPlace_ridesAt (he : s.eligibleFor h = some d) (g : HeadId) : s.RidesAt (s.grantInPlace h d) g := by
  obtain ⟨b, hb, empty, ordered⟩ := State.eligibleFor_next he
  have hload : ∀ v : State, (v.active h).map Band.last = some b.last → (v.buffers.get h).standby.held = .empty →
      v.RidesAt ((v.updBuffers h fun b => b.loadInPlace d).evalStarvation h) g := by
    intro v hv hempty
    refine State.RidesAt.trans ?_ (State.evalStarvation_ridesAt _ h g)
    refine (State.Local.updBuffers v h _).ridesAt ⟨rfl, rfl, rfl, rfl, rfl, rfl, rfl, rfl, rfl, rfl, fun _ _ => rfl⟩ ?_ g
    refine .of_narrows (.of_same rfl rfl rfl) fun hs => ?_
    obtain ⟨c, hc, hlast⟩ := Option.map_eq_some_iff.mp hv
    refine hs.restandby hc rfl rfl rfl rfl (fun r hr => ?_) fun c hc hh => absurd hh (hs.owned.free hempty c hc)
    rw [hlast]
    simp only [State.updBuffers, Quad.get_set_same] at hr
    obtain e | ⟨r', e, number⟩ := (v.buffers.get h).loadInPlace_track d
    · rw [e, hempty] at hr; cases hr
    · rw [e] at hr
      obtain rfl := Option.some.inj hr
      rw [number]
      exact ordered
  unfold State.grantInPlace
  split
  · dsimp only
    have hgranted : s.RidesAt { s with store := s.store.grantFront h } g :=
      State.SameCarriage.ridesAt ⟨rfl, rfl, rfl, rfl, rfl, fun _ hc _ => hc⟩
    split
    · refine (hgranted.trans (State.updActive_ridesAt ?_ ?_ g)).trans (hload _ ?_ empty)
      · exact fun _ => ⟨.refl _, rfl, rfl⟩
      · exact fun _ => rfl
      · have hb' : (s.bands.get h).active = some b := hb
        simp only [State.active, State.updActive, State.setActive, State.updBands, Quad.get_set_same, hb', Option.map_some]
        rfl
    · exact hgranted.trans (hload _ ((congrArg (Option.map Band.last) hb).trans rfl) empty)
  · exact State.refuseGrant_ridesAt (fun hs => hs.owned.free empty) d g

/-! ### Looks, fills and the end of a fetch -/

theorem State.discardStale_ridesAt (s : State) (h : HeadId) (m : Nat) (g : HeadId) : s.RidesAt (s.discardStale h m) g := by
  unfold State.discardStale
  dsimp only
  split
  · exact .refl s g
  · refine State.RidesAt.trans ?_ (State.evalStarvation_ridesAt _ h g)
    have hcounted : ∀ (v : State) (n : Nat), v.RidesAt (v.updActive h fun b => { b with stale := addCount b.stale n }) g :=
      fun v n => by
        refine State.updActive_ridesAt ?_ ?_ g
        · exact fun _ => ⟨.refl _, rfl, rfl⟩
        · exact fun _ => rfl
    refine State.RidesAt.trans ?_ (hcounted _ _)
    exact State.SameCarriage.ridesAt ⟨rfl, rfl, rfl, rfl, rfl, fun _ hc _ => hc⟩

theorem State.look_ridesAt (s : State) (h : HeadId) (m : Nat) (g : HeadId) : s.RidesAt (s.look h m) g := by
  have hstale := s.discardStale_ridesAt h m g
  unfold State.look
  dsimp only
  split
  · exact hstale
  · next d he =>
    split
    · exact hstale.trans (State.arbitrate_ridesAt _ g)
    · exact hstale.trans (State.grantInPlace_ridesAt he g)
    · exact hstale.trans (State.grantInPlace_ridesAt he g)

theorem State.startFill_ridesAt (hw : s.wants h = some (b, m)) (g : HeadId) : s.RidesAt (s.startFill h m) g := by
  obtain ⟨hb, empty, ordered⟩ := State.wants_next hw
  unfold State.startFill
  dsimp only
  refine State.RidesAt.trans ?_ (State.evalStarvation_ridesAt _ h g)
  refine .of_narrows (.of_same rfl rfl rfl) fun hs => ?_
  by_cases hg : g = h
  · subst hg
    refine hs.restandby hb rfl rfl rfl rfl (fun r hr => ?_) fun c hc hh => absurd hh (hs.owned.free empty c hc)
    simp only [State.setStandby, State.updBuffers, Quad.get_set_same, LineBuffers.standby_setStandby, BufferState.track?,
      Option.some.injEq] at hr
    exact hr ▸ ordered
  · refine State.SameCarriage.poised (s := s) ⟨rfl, rfl, rfl, ?_, rfl, fun _ hc _ => hc⟩ hs
    simp [State.setStandby, State.updBuffers, hg]

theorem State.service_ridesAt (s : State) (h g : HeadId) : s.RidesAt (s.service h) g := by
  have hfed := s.evalStarvation_ridesAt h g
  unfold State.service
  dsimp only
  split
  · exact hfed
  · next b m hw =>
    split
    · exact hfed.trans (State.look_ridesAt ..)
    · exact hfed.trans (State.startFill_ridesAt hw g)

/-! ### ABORTED ends -/

/-- The arbiter copies for no head that no band is active on. -/
theorem State.arbitrateUpTo_copy (idle : s.active h = none) (free : ∀ c, s.fetch.copy = some c → c.head ≠ h) (tries : Nat) :
    ∀ c, (s.arbitrateUpTo tries).fetch.copy = some c → c.head ≠ h := by
  induction tries generalizing s with
  | zero => exact free
  | succ tries ih =>
    unfold State.arbitrateUpTo
    split
    · exact free
    · exact free
    · next k hfree _ =>
      split
      · exact free
      · next d hd =>
        obtain ⟨hfront, hactive⟩ := State.asking_some hd
        have ne : h ≠ k := fun e => by rw [← e, idle] at hactive; cases hactive
        split
        · intro c hc
          rw [State.startCopy, (State.evalStarvation_local _ k).copy] at hc
          obtain rfl := Option.some.inj hc
          exact ne.symm
        · refine ih ((((State.refuseGrant_works hfront).moves.spares h ne idle).active).trans idle) fun c hc => ?_
          rw [State.refuseGrant_copy, hfree] at hc
          cases hc

/-- Once the fetch of a head with no band has been stopped, no copy in flight is the head's. -/
theorem State.stopFetch_copy (idle : s.active h = none) : ∀ c, (s.stopFetch h).fetch.copy = some c → c.head ≠ h := by
  unfold State.stopFetch
  dsimp only
  split
  · next hcopy =>
    intro c hc hh
    have : s.copyOf h = some c := Option.filter_eq_some_iff.mpr ⟨hc, by simp [hh]⟩
    rw [show s.copyOf h = none from hcopy] at this
    cases this
  · unfold State.arbitrate
    generalize hv : ({ s with
      store := s.store.giveBack _, fetch := { s.fetch with copy := none, fills := s.fetch.fills.set h none } } : State) = v
    refine State.arbitrateUpTo_copy (s := v) (by rw [← hv]; exact idle) (fun c hc => ?_) 5
    simp [← hv] at hc

theorem State.stopFetch_ridesAt (s : State) (h g : HeadId) : s.RidesAt (s.stopFetch h) g := by
  unfold State.stopFetch
  dsimp only
  split
  · exact State.SameCarriage.ridesAt ⟨rfl, rfl, rfl, rfl, rfl, fun _ hc _ => hc⟩
  · refine State.RidesAt.trans ?_ (State.arbitrate_ridesAt _ g)
    exact State.SameCarriage.ridesAt ⟨rfl, rfl, rfl, rfl, rfl, fun c hc _ => by cases hc⟩

/-- The other heads, while the band of head h leaves its place and its fetch is stopped. -/
theorem State.leave_ridesAt (s : State) (ne : g ≠ h) : s.RidesAt ((s.setActive h none).stopFetch h) g := by
  refine State.RidesAt.trans ?_ (State.stopFetch_ridesAt _ h g)
  exact (((State.Local.setActive s h none).others g ne).sameCarriage (s.setActive_board h none) rfl).ridesAt

/-- The end of an active band leaves its head with no copy in flight. -/
theorem State.abortActive_copy (hb : s.active h = some b) (cause : Cause) (detail : Option CauseDetail) (order : Retire)
    (atBoundary : Bool) : ∀ c, (s.abortActive h cause detail order atBoundary).fetch.copy = some c → c.head ≠ h := by
  rw [State.abortActive, hb]
  dsimp only
  rw [State.abortClosed_copy]
  exact State.stopFetch_copy (s.setActive_active h none)

/-- An ABORTED end leaves its head at rest, whatever its axis was under (R138 to R140). -/
theorem State.abortActive_poised (hb : s.active h = some b) (cause : Cause) (detail : Option CauseDetail) {order : Retire}
    (aborts : order ≠ .release) (atBoundary : Bool) (lawful : (s.axes.get h).stateLawful) (tracked : (s.axes.get h).Tracked) :
    (s.abortActive h cause detail order atBoundary).PoisedAt h :=
  (State.abortActive_ends hb cause detail aborts atBoundary).poised lawful tracked
    (State.abortActive_copy hb cause detail order atBoundary)

theorem State.abortActive_others (s : State) (ne : g ≠ h) (cause : Cause) (detail : Option CauseDetail) (order : Retire)
    (atBoundary : Bool) : s.RidesAt (s.abortActive h cause detail order atBoundary) g := by
  unfold State.abortActive
  split
  · exact .refl s g
  · next b _ =>
    have hlocal := State.abortClosed_local ((s.setActive h none).stopFetch h) h (s.withDiscard h b) cause detail order atBoundary
    exact (s.leave_ridesAt ne).trans (((hlocal.others g ne).sameCarriage (State.abortClosed_board ..) hlocal.copy).ridesAt)

theorem State.abortActive_ridesAt (s : State) (h : HeadId) (cause : Cause) (detail : Option CauseDetail) {order : Retire}
    (aborts : order ≠ .release) (g : HeadId) : s.RidesAt (s.abortActive h cause detail order false) g := by
  by_cases hg : g = h
  · subst hg
    refine .of_narrows (State.abortActive_narrows ..) fun hs => ?_
    cases hb : s.active g with
    | none => rw [State.abortActive, hb]; exact hs
    | some b => exact State.abortActive_poised hb cause detail aborts false hs.sound.lawful hs.sound.tracked
  · exact s.abortActive_others hg ..

/-! ### Faults -/

/-- The axis of a head that has no band loses its position. -/
theorem State.PoisedAt.lost (hs : s.PoisedAt h) (idle : s.active h = none) (e : AxisFault) :
    (s.updAxis h fun a => a.lost e).PoisedAt h where
  sound := by
    have r := hs.sound.rests idle
    refine State.Rests.sound ⟨r.active, r.waiting, ?_, ?_, ?_, r.empty⟩
    all_goals rw [State.updAxis_get_same]
    · exact Axis.lost_not_feeding _ e
    · exact Axis.lost_lawful _ e
    · exact Axis.lost_tracked _ e
  owned := hs.owned

end Sys2Proof.Machine
end

section
/-! Faults, activations and ends of bands keep the laws of O14 (R114, R115, R128, R139 to R142). -/

namespace Sys2Proof.Machine

variable {s t u : State} {g h k : HeadId} {b c p : Band} {a z : Axis} {f f' : FeedContext} {x y n m : Nat}

/-! ### Faults -/

theorem State.lost_board (s : State) (h : HeadId) (e : AxisFault) : s.SameBoard (s.updAxis h fun a => a.lost e) :=
  s.updAxis_board h _

/-- The axis of head h loses its position, and the band held on it, if any, ends. -/
theorem State.lostAbort_poised (hs : s.PoisedAt h) (e : AxisFault) (cause : Cause) (detail : Option CauseDetail) {order : Retire}
    (aborts : order ≠ .release) (same : t.axes.get h = (s.axes.get h).lost e) (carriage : State.SameCarriage (s.updAxis h fun a => a.lost e) t h) :
    (t.abortActive h cause detail order false).PoisedAt h := by
  cases hb : t.active h with
  | none =>
    rw [State.abortActive, hb]
    exact carriage.poised (hs.lost (carriage.active.symm.trans hb) e)
  | some b =>
    refine State.abortActive_poised hb cause detail aborts false ?_ ?_
    · rw [same]; exact Axis.lost_lawful _ e
    · rw [same]; exact Axis.lost_tracked _ e

theorem State.SameCarriage.refl (s : State) (g : HeadId) : s.SameCarriage s g := ⟨rfl, rfl, rfl, rfl, rfl, fun _ hc _ => hc⟩

theorem State.limitStop_axis (s : State) (k : HeadId) : (s.limitStop k).axes.get k = (s.axes.get k).lost .limitSwitch := by
  rw [State.limitStop_eq]; simp

theorem State.limitStop_carriage (s : State) (k g : HeadId) :
    State.SameCarriage (s.updAxis k fun a => a.lost .limitSwitch) (s.limitStop k) g :=
  ⟨rfl, rfl, rfl, rfl, rfl, fun _ hc _ => hc⟩

/-- The axis of a head loses its position: the other heads. -/
theorem State.lost_others (s : State) (ne : g ≠ h) (e : AxisFault) : s.RidesAt (s.updAxis h fun a => a.lost e) g :=
  (((State.Local.updAxis s h _).others g ne).sameCarriage (s.lost_board h e) rfl).ridesAt

theorem State.limitCheck_ridesAt (s : State) (k g : HeadId) : s.RidesAt (s.limitCheck k) g := by
  refine .of_narrows (s.limitCheck_narrows k g) fun hs => ?_
  unfold State.limitCheck State.limitFault
  split
  · by_cases hg : g = k
    · subst hg
      split
      · exact State.lostAbort_poised hs .limitSwitch _ _ (by simp) (s.limitStop_axis g) (s.limitStop_carriage g g)
      · next nf =>
        refine (s.limitStop_carriage g g).poised (hs.lost ?_ _)
        by_contra ne
        exact nf (hs.sound.feeding.mp (Option.isSome_iff_ne_none.mpr ne))
    · have hstop : s.RidesAt (s.limitStop k) g := (s.lost_others hg .limitSwitch).trans (s.limitStop_carriage k g).ridesAt
      split
      · exact ((hstop.trans (State.abortActive_others _ hg ..)).keeps hs).1
      · exact (hstop.keeps hs).1
  · exact hs

theorem State.readyLost_ridesAt (s : State) (h g : HeadId) : s.RidesAt (s.readyLost h) g := by
  refine (s.immediateRetract_ridesAt h g).trans ?_
  unfold State.readyLost
  dsimp only
  generalize s.immediateRetract h = v
  refine .of_narrows ((v.lost_narrows h .readyLost g).trans (State.abortActive_narrows ..)) fun hs => ?_
  by_cases hg : g = h
  · subst hg
    exact State.lostAbort_poised hs .readyLost _ _ (by simp) (by simp) (.refl _ g)
  · exact (((v.lost_others hg .readyLost).trans (State.abortActive_others _ hg ..)).keeps hs).1

theorem State.alarmOn_ridesAt (s : State) (slot : Nat) (fast : Bool) (h g : HeadId) : s.RidesAt (s.alarmOn slot fast h) g := by
  unfold State.alarmOn
  dsimp only
  refine State.RidesAt.trans (State.RidesAt.trans ?_ (State.updHead_ridesAt _ h _ g)) (State.abortActive_ridesAt _ h _ _ ?_ g)
  · split
    · exact s.immediateRetract_ridesAt h g
    · exact s.retractOrder_ridesAt h g
  · cases fast <;> simp

/-- Counts of the active band that no law reads, in the phase that it has. -/
theorem State.recount_ridesAt (hb : s.active h = some b) (c : Band) (way : b.SameWay c) (phase : c.phase = b.phase) (g : HeadId) :
    s.RidesAt (s.setActive h (some c)) g :=
  State.setActive_ridesAt hb way (fun _ _ r => phase ▸ r.under.allows) g

theorem State.timingLoss_ridesAt (s : State) (h : HeadId) (e : CylEvent) (g : HeadId) : s.RidesAt (s.timingLoss h e) g := by
  unfold State.timingLoss
  split
  · exact .refl s g
  · next b hb =>
    split
    · exact s.abortActive_ridesAt h _ _ (by simp) g
    · exact s.abortActive_ridesAt h _ _ (by simp) g
    · exact State.recount_ridesAt hb { b with waitCount := 0 } ⟨.refl b, rfl, rfl⟩ rfl g
    iterate 3 exact .refl s g

theorem State.speedEvent_ridesAt (s : State) (h g : HeadId) : s.RidesAt (s.speedEvent h) g := by
  unfold State.speedEvent
  split
  · exact .refl s g
  · split
    · exact s.abortActive_ridesAt h _ _ (by simp) g
    · exact s.abortActive_ridesAt h _ _ (by simp) g
    iterate 4 exact .refl s g

/-! ### Activation -/

theorem State.activate_ridesAt (s : State) (h : HeadId) (b : Band) (g : HeadId) : (s.taken h b).RidesAt (s.activate h b) g :=
  ((s.prepareBand_ridesAt h b g).trans (State.limitCheck_ridesAt _ h g)).trans (State.service_ridesAt _ h g)

theorem State.activate_others (s : State) (ne : g ≠ h) (b : Band) : s.RidesAt (s.activate h b) g :=
  ((((s.taken_local h b).others g ne).sameCarriage (s.taken_board h b) (s.taken_local h b).copy).ridesAt).trans
    (s.activate_ridesAt h b g)

/-! ### How far the end of a band moves its axis -/

/-- Where the end order leaves a riding axis: at a boundary with its helical revolution closed (R122). -/
theorem State.Rides.endOrder_position (r : s.Rides h b f x) (atBoundary : Bool) :
    ((s.axes.get h).endOrder atBoundary).position = some (x + if atBoundary then f.unissued else 0) := by
  rw [Axis.endOrder_homed r.under.homed]
  have howed : (s.axes.get h).stepsOwed = f.unissued := by rw [Axis.stepsOwed, r.under.feed]; rfl
  simp [r.under.position, howed]

/-- The end of a riding band's activity leaves the carriage within its span (R108, R121, R122). -/
theorem State.Rides.ends_narrows {q : BandSequencer} {w : Head} {atBoundary : Bool} (r : s.Rides h b f x)
    (e : s.Ends t h q w ((s.axes.get h).endOrder atBoundary)) (idle : q.active = none)
    (waiting : ∀ c, q.waiting = some c → (s.bands.get h).waiting = some c)
    (stage : atBoundary = true → f.stage ≠ .positioning) : s.Narrows t h := by
  have hend := Axis.endOrder_homed r.under.homed atBoundary
  refine State.Narrows.of_place (y := x + if atBoundary then f.unissued else 0) r.under.homed ?_ ?_ ?_ ?_ ?_ e.board.screens
    fun c hc => ⟨c, ?_, .refl c⟩
  · rw [e.axis, hend]; rfl
  · rw [e.axis, hend]
  · rw [e.axis]; exact r.endOrder_position atBoundary
  · rw [e.axis, hend]
  · cases atBoundary with
    | false =>
      have hpos : x ∈ s.spanPoints h := by simpa [r.under.position] using s.position_mem h
      exact ⟨lowest_le hpos, le_highest hpos⟩
    | true => exact r.between (stage rfl) (Nat.le_add_right _ _) (by simp only [if_true, FeedContext.reach]; omega)
  · obtain hc | hc := State.mem_held_iff.mp hc
    · rw [State.active, e.bands, idle] at hc; cases hc
    · rw [e.bands] at hc
      exact State.mem_held_iff.mpr (.inr (waiting c hc))

/-- An ABORTED end at a boundary of a band that is past its positioning. -/
theorem State.abortActive_past (hb : s.active h = some b) (stage : ∀ f p, s.Rides h b f p → f.stage ≠ .positioning)
    (cause : Cause) (detail : Option CauseDetail) {order : Retire} (aborts : order ≠ .release) (g : HeadId) :
    s.RidesAt (s.abortActive h cause detail order true) g := by
  by_cases hg : g = h
  · subst hg
    refine ⟨fun hs => ?_⟩
    obtain ⟨f, x, r⟩ := hs.sound.rides hb
    exact ⟨State.abortActive_poised hb cause detail aborts true hs.sound.lawful hs.sound.tracked,
      r.ends_narrows (State.abortActive_ends hb cause detail aborts true) rfl (fun c hc => by cases hc) fun _ => stage f x r⟩
  · exact s.abortActive_others hg ..

/-! ### The orderly end (R140, R142) -/

/-- A closed head: its band has left, its axis is as the end order leaves it, and the pending band still waits. -/
structure State.Closed (s : State) (h : HeadId) : Prop where
  active : s.active h = none
  homed : (s.axes.get h).homed = true
  state : (s.axes.get h).state ≠ .feeding
  lawful : (s.axes.get h).stateLawful
  tracked : (s.axes.get h).Tracked
  empty : (s.buffers.get h).standby.held = .empty
  waits : ∀ c, (s.bands.get h).waiting = some c → s.bandFits c
  free : ∀ c, s.fetch.copy = some c → c.head ≠ h

/-- A closed head whose pending band has left too. -/
theorem State.Closed.poised (e : s.Closed h) (axis : t.axes.get h = s.axes.get h) (active : t.active h = none)
    (waiting : (t.bands.get h).waiting = none) (buffers : t.buffers.get h = s.buffers.get h)
    (copy : t.fetch.copy = s.fetch.copy) : t.PoisedAt h where
  sound := State.Rests.sound ⟨active, waiting, axis ▸ e.state, axis ▸ e.lawful, axis ▸ e.tracked, buffers ▸ e.empty⟩
  owned c hc hh := absurd hh (e.free c (copy ▸ hc))

/-- The span of a band that is handed on lies within what was reserved for it while it waited. -/
theorem State.Closed.taken_narrows (e : s.Closed h) (hp : (s.bands.get h).waiting = some p) :
    s.Narrows ((s.updBands h fun q => { q with waiting := none }).taken h p) h where
  span w hw := by
    refine ⟨_, State.span_homed e.homed, (State.taken_span _ h p hw).trans ?_⟩
    refine spanOver_within_of_subset (by simp [State.spanPoints]) fun y hy => ?_
    obtain hy | hy := List.mem_append.mp hy
    · simp only [State.spanPoints, List.mem_append, List.mem_flatMap] at hy ⊢
      refine hy.imp id ?_
      rintro ⟨c, hc, hy⟩
      simp only [State.held, State.updBands, Quad.get_set_same, Option.toList_none, List.append_nil] at hc
      exact ⟨c, List.mem_append_left _ hc, hy⟩
    · exact State.extents_mem (State.mem_held_iff.mpr (.inr hp)) hy

/-- The pending band is activated, or ends with the failed check as detail (R142). -/
theorem State.Closed.handOn (e : s.Closed h) : (s.handOn h).PoisedAt h ∧ s.Narrows (s.handOn h) h := by
  unfold State.handOn
  split
  · next hw => exact ⟨e.poised rfl e.active hw rfl rfl, .refl s h⟩
  · next p hp =>
    dsimp only
    have hleft : (s.updBands h fun q => { q with waiting := none }).PoisedAt h :=
      e.poised rfl (by simpa [State.active, State.updBands] using e.active) (by simp [State.updBands]) rfl rfl
    split
    · refine ⟨e.poised rfl ?_ ?_ rfl rfl, .of_recedes rfl (.refl _) fun c hc => ⟨c, ?_, .refl c⟩⟩
      · simpa [State.active, State.fileNeverActive, State.file, State.post, State.updBands] using e.active
      · simp [State.fileNeverActive, State.file, State.post, State.updBands]
      · simp only [State.held, State.fileNeverActive, State.file, State.post, State.updBands, Quad.get_set_same,
          Option.toList_none, List.append_nil] at hc
        exact List.mem_append_left _ hc
    · obtain ⟨x, hx⟩ := Option.isSome_iff_exists.mp (e.tracked.positioned e.homed)
      have htaken : ((s.updBands h fun q => { q with waiting := none }).taken h p).PoisedAt h :=
        State.taken_poised (by simpa [State.active, State.updBands] using e.active) hx (e.waits p hp)
          (fun c hc => by simp [State.updBands] at hc) e.empty hleft.owned
      obtain ⟨hpoised, hnarrows⟩ := (State.activate_ridesAt _ h p h).keeps htaken
      exact ⟨hpoised, (e.taken_narrows hp).trans hnarrows⟩

/-- What the end of the active band leaves before the pending band is handed on. -/
theorem State.Rides.closed (r : s.Rides h b f x) (cls : ResultClass) (cause : Cause) (atBoundary : Bool) :
    (((s.setActive h none).stopFetch h).closeBand h (s.withDiscard h b) cls cause none .release atBoundary).Closed h := by
  have hcopy := State.stopFetch_copy (s.setActive_active h none)
  have hlocal := State.closeBand_local ((s.setActive h none).stopFetch h) h (s.withDiscard h b) cls cause none .release atBoundary
  have e := s.closeActive_ends h b cls cause none .release atBoundary
  rw [State.withDiscard_eq] at hlocal ⊢
  have hsound := r.sound
  obtain ⟨hstate, hlawful, htracked⟩ := Axis.endOrder_sound hsound.lawful hsound.tracked atBoundary
  have hbuffers := e.buffers
  refine ⟨congrArg BandSequencer.active e.bands, ?_, ?_, ?_, ?_, ?_, fun c hc => ?_, fun c hc => hcopy c (hlocal.copy ▸ hc)⟩
  · rw [e.axis, Axis.endOrder_homed r.under.homed]; rfl
  · rw [e.axis]; exact hstate
  · rw [e.axis]; exact hlawful
  · rw [e.axis]; exact htracked
  · rw [hbuffers]; exact LineBuffers.standby_empty rfl rfl
  · rw [e.bands] at hc
    exact (State.bandFits_of_screens e.board.screens).mpr (r.waits c hc)

theorem State.handOn_others (s : State) (ne : g ≠ h) : s.RidesAt (s.handOn h) g := by
  unfold State.handOn
  split
  · exact .refl s g
  · dsimp only
    have hleft : s.RidesAt (s.updBands h fun q => { q with waiting := none }) g :=
      (((State.Local.updBands s h _).others g ne).sameCarriage (State.Moves.updBands s h _).board rfl).ridesAt
    split
    · refine hleft.trans ?_
      generalize (s.updBands h fun q => { q with waiting := none }) = v
      exact (((v.file_local h _).others g ne).sameCarriage (v.file_moves h _).board (v.file_local h _).copy).ridesAt
    · exact hleft.trans (State.activate_others _ ne _)

/-- A COMPLETE or ENDED end of a band; at a boundary it is past its positioning (R140, R142). -/
theorem State.finishActive_ridesAt {atBoundary : Bool}
    (stage : atBoundary = true → ∀ b f p, s.Rides h b f p → f.stage ≠ .positioning) (cls : ResultClass) (cause : Cause)
    (g : HeadId) : s.RidesAt (s.finishActive h cls cause atBoundary) g := by
  unfold State.finishActive
  split
  · exact .refl s g
  · next b hb =>
    refine State.RidesAt.trans ?_ (State.dwellIdle_carriage _ h g).ridesAt
    by_cases hg : g = h
    · subst hg
      refine ⟨fun hs => ?_⟩
      obtain ⟨f, x, r⟩ := hs.sound.rides hb
      obtain ⟨hpoised, hnarrows⟩ := (r.closed cls cause atBoundary).handOn
      refine ⟨hpoised, State.Narrows.trans ?_ hnarrows⟩
      rw [State.withDiscard_eq]
      exact r.ends_narrows (s.closeActive_ends g b cls cause none .release atBoundary) rfl (fun _ hc => hc)
        fun e => stage e b f x r
    · have hlocal := State.closeBand_local ((s.setActive h none).stopFetch h) h (s.withDiscard h b) cls cause none .release atBoundary
      refine ((s.leave_ridesAt hg).trans ?_).trans (State.handOn_others _ hg)
      exact ((hlocal.others g hg).sameCarriage (State.closeBand_moves _ h ..).board hlocal.copy).ridesAt

end Sys2Proof.Machine
end

section
/-! Boundaries, counts and move steps keep the laws of O14 (R98, R105, R112, R118, R120, R121, R131 to R134). -/

namespace Sys2Proof.Machine

variable {s t u : State} {g h k : HeadId} {b c p : Band} {a z : Axis} {f f' : FeedContext} {x y n m : Nat}

/-! ### The next track (R80, R120, R121) -/

/-- The swap leaves an EMPTY STANDBY (R80). -/
theorem LineBuffers.swapped_standby (q : LineBuffers) : q.swapped.standby.held = .empty := by
  unfold LineBuffers.swapped
  split
  · simp [LineBuffers.standby]
  · simp [LineBuffers.standby]

theorem State.standbyHolds_some (holds : s.standbyHolds h n = true) :
    ∃ r, (s.buffers.get h).standby.held = .loaded r ∧ r.number = n := by
  unfold State.standbyHolds at holds
  cases e : (s.buffers.get h).standby.held <;> simp [BufferState.loaded?, e] at holds
  exact ⟨_, rfl, holds⟩

/-- A band that goes on to its next track. -/
def Band.onward (b : Band) : Band := { b with next := b.next + 1, phase := .cutting }

theorem Band.last_lt (count : 1 ≤ b.count) (ordered : b.next ≤ b.last) : b.next + 1 ≤ b.first + b.count := by
  unfold Band.last at ordered; omega

/-- One more track earns a HELICAL band a pitch, and a STEPPED one too unless the track is its last (R120, R121). -/
theorem Band.earned_onward (first : b.first ≤ b.next) (count : 1 ≤ b.count) (ordered : b.next ≤ b.last) (pitch : Nat) :
    b.earned pitch + (match b.feed with
      | .stepped => if b.next = b.last then 0 else pitch
      | .helical => pitch) ≤ b.onward.earned pitch := by
  have hsucc : b.next + 1 - b.first = (b.next - b.first) + 1 := by omega
  unfold Band.last at ordered ⊢
  cases hf : b.feed with
  | stepped =>
    simp only [Band.earned, Band.onward, hf]
    split
    · exact Nat.add_le_add_left (Nat.mul_le_mul_right _ (by omega)) _
    · have hmin : min (b.next + 1 - b.first) (b.count - 1) = min (b.next - b.first) (b.count - 1) + 1 := by omega
      rw [hmin, Nat.succ_mul, Nat.add_assoc]
  | helical => simp only [Band.earned, Band.onward, hf, hsucc, Nat.succ_mul, Nat.add_assoc, le_refl]

/-- What a feed context becomes by the cut order (R120, R121). -/
def FeedContext.cut (f : FeedContext) (isLast : Bool) : FeedContext :=
  match f.feed with
  | .stepped => { f with armed := !isLast }
  | .helical => { f with pointer := some 1 }

theorem Axis.Under.stepsOwed (r : a.Under b n f x) : a.stepsOwed = f.unissued := by rw [Axis.stepsOwed, r.feed]; rfl

theorem Axis.Under.cutOrder_eq (r : a.Under b n f x) (isLast : Bool) : a.cutOrder isLast = { a with
    position := some (x + f.unissued), feed := some (f.cut isLast)
    outputs := { a.outputs with
      pulses := a.outputs.pulses + f.unissued
      up := match f.feed with
        | .stepped => a.outputs.up
        | .helical => true } } := by
  unfold Axis.cutOrder FeedContext.cut
  rw [Axis.closeRevolution_eq, r.stepsOwed]
  cases hf : f.feed <;> simp [r.feed, r.position, hf]

/-- An axis in HOLD takes the cut order of its band's next track. -/
theorem Axis.Under.cutOrder (r : a.Under b n f x) (hold : f.stage = .hold) (first : b.first ≤ b.next) (count : 1 ≤ b.count)
    (ordered : b.next ≤ b.last) : (a.cutOrder (decide (b.next = b.last))).Under b.onward n
      (f.cut (decide (b.next = b.last))) (x + f.unissued) := by
  have still := r.hold hold
  obtain ⟨hfeed, hstart, hpitch⟩ := r.context
  have hwithin := r.within (by simp [hold])
  have hgo := Band.earned_onward first count ordered f.pitch
  rw [still] at hwithin
  rw [r.cutOrder_eq]
  have hstage : ∀ l, (f.cut l).stage = .hold := fun l => by unfold FeedContext.cut; split <;> exact hold
  refine ⟨r.state, r.target, rfl, rfl, fun m hm => ?_, fun hpointer => ?_, ?_, fun e => ?_, fun _ => still, fun e => ?_,
    ⟨fun _ => hstage _, fun e => absurd rfl e, fun e => ?_⟩, fun _ => ?_⟩
  · rw [still] at hm; cases hm
  · cases hf : f.feed with
    | helical => rfl
    | stepped => exact r.feedsUp (by simpa [FeedContext.cut, hf] using hpointer)
  · unfold FeedContext.cut
    split <;> exact ⟨hfeed, hstart, hpitch⟩
  · rw [hstage] at e; cases e
  · rw [hstage] at e; cases e
  · cases hf : f.feed with
    | stepped => simp [FeedContext.cut, hf]
    | helical =>
      have harmed := r.phases.2.2
      rw [hf] at harmed
      exact absurd (harmed (by simpa [FeedContext.cut, hf] using e)) (by simp)
  · rw [← hfeed] at hgo
    simp only [FeedContext.reach, still] at hwithin ⊢
    cases hf : f.feed with
    | stepped =>
      rw [hf] at hgo
      have hnone : f.unissued = 0 := by simp [FeedContext.unissued, hf]
      have hnone' : (f.cut (decide (b.next = b.last))).unissued = 0 := by simp [FeedContext.cut, FeedContext.unissued, hf]
      have hcut : (f.cut (decide (b.next = b.last))).armed = !decide (b.next = b.last) := by simp [FeedContext.cut, hf]
      have hpitch' : (f.cut (decide (b.next = b.last))).pitch = f.pitch := by simp [FeedContext.cut, hf]
      rw [hnone', hcut, hpitch', hnone]
      by_cases hlast : b.next = b.last <;> simp [hlast] at hgo ⊢ <;> omega
    | helical =>
      rw [hf] at hgo
      have hunissued : (f.cut (decide (b.next = b.last))).unissued = f.pitch := by simp [FeedContext.cut, FeedContext.unissued, hf]
      have hcut : (f.cut (decide (b.next = b.last))).armed = f.armed := by simp [FeedContext.cut, hf]
      have hpitch' : (f.cut (decide (b.next = b.last))).pitch = f.pitch := by simp [FeedContext.cut, hf]
      rw [hunissued, hcut, hpitch']
      dsimp only at hgo
      omega

/-- The card when a band has gone on to its next track, before the change of the buffers is served. -/
def State.onward (s : State) (h : HeadId) (b : Band) : State :=
  (((s.updBuffers h LineBuffers.swapped).updHead h Head.cut).updAxis h fun a =>
    a.cutOrder (decide (b.next = b.last))).setActive h (some b.onward)

theorem State.onward_local (s : State) (h : HeadId) (b : Band) : State.Local h s (s.onward h b) :=
  (((State.Local.updBuffers s h _).trans (.updHead _ h _)).trans (.updAxis _ h _)).trans (.setActive _ h _)

theorem State.onward_axis (s : State) (h : HeadId) (b : Band) :
    (s.onward h b).axes.get h = (s.axes.get h).cutOrder (decide (b.next = b.last)) := by simp [State.onward]

theorem State.onward_bands (s : State) (h : HeadId) (b : Band) :
    (s.onward h b).bands.get h = { s.bands.get h with active := some b.onward } := by simp [State.onward]

theorem State.onward_standby (s : State) (h : HeadId) (b : Band) : ((s.onward h b).buffers.get h).standby.held = .empty := by
  simp [State.onward, LineBuffers.swapped_standby]

/-- A riding band in HOLD whose STANDBY holds its next track rides on. -/
theorem State.Rides.onward (r : s.Rides h c f x) (way : c.SameWay b) (hold : f.stage = .hold) (ordered : b.next ≤ b.last) :
    (s.onward h b).Rides h b.onward (f.cut (decide (b.next = b.last))) (x + f.unissued) := by
  have ⟨count, first, _, pitch⟩ := way.fits (t := s) rfl r.fits
  have hphased : (s.axes.get h).Under { b with phase := c.phase } (s.screen c.screen).pitch f x :=
    r.under.rephase ⟨way.extents, way.first, way.next⟩ r.under.allows
  obtain ⟨-, -, -, screen⟩ := way.extents
  refine ⟨by rw [State.active, State.onward_bands], ?_, ⟨count, first.trans (Nat.le_succ _), Band.last_lt count ordered, pitch⟩,
    fun d hd => r.waits d (by rwa [State.onward_bands] at hd), fun d hd => ?_⟩
  · have hscreen : (s.onward h b).screen b.onward.screen = s.screen c.screen := screen ▸ rfl
    rw [State.onward_axis, hscreen]
    exact hphased.cutOrder hold first count ordered
  · rw [State.onward_standby] at hd; cases hd

/-- A riding band in HOLD whose STANDBY holds its next track cuts it (R80, R131, R133, R134). -/
theorem State.cutNext_ridesAt (hb : s.active h = some c) (way : c.SameWay b)
    (hold : ∀ f p, s.Rides h c f p → f.stage = .hold) (holds : s.standbyHolds h b.next = true) (g : HeadId) :
    s.RidesAt (s.cutNext h b) g := by
  rw [State.cutNext_eq]
  refine State.RidesAt.trans ?_ (State.service_ridesAt _ h g)
  refine State.RidesAt.trans (t := s.onward h b) ?_ (State.SameCarriage.ridesAt (t := s.cutting h b)
    ⟨rfl, rfl, rfl, rfl, rfl, fun _ hc _ => hc⟩)
  refine (s.onward_local h b).ridesAt ⟨rfl, rfl, rfl, rfl, rfl, rfl, rfl, rfl, rfl, rfl, fun _ _ => rfl⟩ ⟨fun hs => ?_⟩ g
  obtain ⟨f, x, r⟩ := hs.sound.rides hb
  obtain ⟨loaded, hstandby, number⟩ := State.standbyHolds_some holds
  have ordered : b.next ≤ b.last := by
    rw [way.last, ← number]
    exact r.loads _ (by rw [hstandby]; rfl)
  have hstage := hold f x r
  have hon := r.onward way hstage ordered
  refine ⟨⟨hon.sound, fun d hd hh => ?_⟩, State.Narrows.of_place (y := x + f.unissued) r.under.homed hon.under.homed ?_
    hon.under.position hon.under.target (r.between (by simp [hstage]) (Nat.le_add_right _ _) ?_) rfl fun d hd => ?_⟩
  · have := (hs.owned d hd hh).2
    rw [hstandby] at this
    cases this
  · rw [State.onward_axis, r.under.cutOrder_eq]
  · simp only [FeedContext.reach]; omega
  · obtain hd | hd := State.mem_held_iff.mp hd
    · obtain rfl := Option.some.inj (hon.active.symm.trans hd)
      exact ⟨c, State.mem_held_iff.mpr (.inl hb), way.extents⟩
    · rw [State.onward_bands] at hd
      exact ⟨d, State.mem_held_iff.mpr (.inr hd), .refl d⟩

/-! ### Boundaries (R131 to R134) -/

theorem Axis.disarm_recedes (a : Axis) : a.Recedes a.disarm := .of_same rfl rfl rfl rfl

/-- Without its trigger an axis rides on (R120). -/
theorem Axis.Under.disarm (r : a.Under b n f x) : a.disarm.Under b n { f with armed := false } x where
  state := r.state
  target := r.target
  feed := by simp [Axis.disarm, r.feed]
  position := r.position
  moves := r.moves
  feedsUp := r.feedsUp
  context := r.context
  positioning e := by
    obtain ⟨phase, -, pointer, moves⟩ := r.positioning e
    exact ⟨phase, rfl, pointer, moves⟩
  hold := r.hold
  moving := r.moving
  phases := ⟨r.phases.1, fun _ => rfl, fun e => by cases e⟩
  within e := by
    refine le_trans ?_ (r.within e)
    have : FeedContext.unissued { f with armed := false } = f.unissued := rfl
    simp only [FeedContext.reach, Axis.disarm, this, Bool.false_eq_true, if_false, Nat.add_zero]
    omega

theorem State.disarm_ridesAt (s : State) (h g : HeadId) : s.RidesAt (s.updAxis h Axis.disarm) g := by
  refine State.updAxis_ridesAt (Axis.disarm_recedes _) (fun hs => ?_) g
  cases hf : (s.axes.get h).feed with
  | none =>
    have hsame : (s.axes.get h).disarm = s.axes.get h := by
      unfold Axis.disarm
      rw [hf]
      show ({ s.axes.get h with feed := none } : Axis) = _
      rw [← hf]
    exact State.SameCarriage.poised (s := s) ⟨by simp [hsame], rfl, rfl, rfl, rfl, fun _ hc _ => hc⟩ hs
  | some f =>
    obtain ⟨b, x, r⟩ := hs.rides_of_feed hf
    exact hs.updAxis_under r r.under.disarm

/-- The axis of a band in CUTTING holds, unless a stepped move is under way (R120, R121). -/
theorem State.Rides.hold_of_cutting (r : s.Rides h b f x) (cutting : b.phase = .cutting)
    (still : ¬(b.feed = .stepped ∧ (s.axes.get h).moving = true)) : f.stage = .hold := by
  cases e : f.stage with
  | hold => rfl
  | positioning => simpa [cutting] using (r.under.positioning e).1
  | move =>
    obtain ⟨stepped, -⟩ := r.under.moving e
    obtain ⟨feed, -⟩ := r.under.context
    exact absurd ⟨feed ▸ stepped, by simp [Axis.moving, r.under.feed, e]⟩ still

/-- The passage into SUSPENDED (R134). -/
theorem State.suspend_ridesAt (hb : s.active h = some b) (hold : ∀ f p, s.Rides h b f p → f.stage = .hold) (g : HeadId) :
    s.RidesAt (s.suspend h b) g := by
  let c : Band := { b with phase := .suspended }
  let v : State := s.updAxis h Axis.disarm
  have hlocal : State.Local h s (s.suspend h b) :=
    (((State.Local.setActive s h (some c)).trans (.updHead _ h _)).trans (.updAxis _ h _)).trans (.post _ h rfl _)
  have hboard : s.SameBoard (s.suspend h b) :=
    State.SameBoard.trans (t := ((s.setActive h (some c)).updHead h Head.uncut).updAxis h Axis.disarm)
      ⟨rfl, rfl, rfl, rfl, rfl, rfl, rfl, rfl, rfl, rfl, fun _ _ => rfl⟩ (.post _ (id := .progress h) (by simp [NoticeId.head?]) _)
  have hsame : State.SameCarriage (v.setActive h (some c)) (s.suspend h b) h := ⟨rfl, rfl, rfl, rfl, rfl, fun _ hc _ => hc⟩
  refine hlocal.ridesAt hboard ⟨fun hs => (((s.disarm_ridesAt h h).trans ?_).trans hsame.ridesAt).keeps hs⟩ g
  obtain ⟨f, x, r⟩ := hs.sound.rides hb
  refine State.setActive_ridesAt (s := v) hb (b.sameWay_phase _) (fun f' p r' => ?_) h
  have hfeed : f' = { f with armed := false } := by
    have := r'.under.feed
    rw [State.updAxis_get_same, r.under.disarm.feed] at this
    exact (Option.some.inj this).symm
  rw [hfeed]
  exact .of_hold (hold f x r) rfl

/-- A boundary taken in WAIT_SYNC (R131). -/
theorem State.waitSyncBoundary_ridesAt (hb : s.active h = some b) (phase : b.phase = .waitSync) (g : HeadId) :
    s.RidesAt (s.waitSyncBoundary h b) g := by
  have hold : ∀ f p, s.Rides h b f p → f.stage = .hold := fun f p r => r.under.allows.hold (.inr (.inl phase))
  unfold State.waitSyncBoundary
  split
  · exact .refl s g
  split
  · next holds =>
    refine State.cutNext_ridesAt (c := b) (b := { b with startRev := some s.ctu.revs, startTime := some s.timestamp }) hb ⟨.refl b, rfl, rfl⟩ hold ?_ g
    exact holds
  split
  · exact State.recount_ridesAt hb { b with waitCount := 1 } ⟨.refl b, rfl, rfl⟩ rfl g
  · exact State.abortActive_past hb (fun f p r => by simp [hold f p r]) _ _ (by simp) g

/-- The band with the track just cut counted has the way before it that it had. -/
theorem Band.counted_way (b : Band) (number : Option Nat) : b.SameWay (b.counted number) := ⟨.refl b, rfl, rfl⟩

/-- A boundary taken in CUTTING (R132). -/
theorem State.cuttingBoundary_ridesAt (hb : s.active h = some b) (phase : b.phase = .cutting) (g : HeadId) :
    s.RidesAt (s.cuttingBoundary h b) g := by
  unfold State.cuttingBoundary
  dsimp only
  refine State.RidesAt.trans (State.recount_ridesAt hb (b.counted (s.trackCut h)) (b.counted_way _) rfl g) ?_
  have hc : (s.setActive h (some (b.counted (s.trackCut h)))).active h = some (b.counted (s.trackCut h)) :=
    s.setActive_active h _
  have hphase : (b.counted (s.trackCut h)).phase = .cutting := phase
  generalize b.counted (s.trackCut h) = c at hc hphase ⊢
  generalize s.setActive h (some c) = v at hc ⊢
  have past : ∀ f p, v.Rides h c f p → f.stage ≠ .positioning := fun f p r e => by
    simpa [hphase] using r.under.allows.positioning e
  have past' : true = true → ∀ b f p, v.Rides h b f p → f.stage ≠ .positioning := fun _ b f p r => by
    obtain rfl := Option.some.inj (hc.symm.trans r.active)
    exact past f p r
  split
  · exact State.abortActive_past hc past _ _ (by simp) g
  next still =>
  have hold : ∀ f p, v.Rides h c f p → f.stage = .hold := fun f p r => r.hold_of_cutting hphase still
  split
  · exact State.finishActive_ridesAt past' _ _ g
  split
  · exact State.finishActive_ridesAt past' _ _ g
  split
  · next holds => exact State.cutNext_ridesAt hc (.refl c) hold holds g
  split
  · exact State.suspend_ridesAt hc hold g
  · exact State.abortActive_past hc past _ _ (by simp) g

/-- A boundary taken in SUSPENDED (R134). -/
theorem State.suspendedBoundary_ridesAt (hb : s.active h = some b) (phase : b.phase = .suspended) (g : HeadId) :
    s.RidesAt (s.suspendedBoundary h b) g := by
  have hold : ∀ f p, s.Rides h b f p → f.stage = .hold := fun f p r => r.under.allows.hold (.inr (.inr phase))
  unfold State.suspendedBoundary
  split
  · next holds => exact State.cutNext_ridesAt hb (.refl b) hold holds g
  · dsimp only
    have hcounted := State.recount_ridesAt hb { b with suspensions := countUp 255 b.suspensions } ⟨.refl b, rfl, rfl⟩ rfl g
    split
    · refine hcounted.trans (State.abortActive_past (s.setActive_active h _) (fun f p r e => ?_) _ _ (by simp) g)
      simpa [phase] using r.under.allows.positioning e
    · exact hcounted.trans (State.SameCarriage.ridesAt ⟨rfl, rfl, rfl, rfl, rfl, fun _ hc _ => hc⟩)

theorem State.boundary_ridesAt (s : State) (h g : HeadId) : s.RidesAt (s.boundary h) g := by
  unfold State.boundary
  split
  · exact .refl s g
  · next b hb =>
    split
    · next phase => exact State.waitSyncBoundary_ridesAt hb phase g
    · next phase => exact State.cuttingBoundary_ridesAt hb phase g
    · next phase => exact State.suspendedBoundary_ridesAt hb phase g
    iterate 3 exact .refl s g

/-! ### Counts (R98, R120, R121) -/

theorem State.deliverCells_ridesAt (s : State) (h g : HeadId) : s.RidesAt (s.deliverCells h) g := by
  unfold State.deliverCells
  dsimp only
  split
  · refine (s.updHead_ridesAt h _ g).trans (State.updActive_ridesAt ?_ ?_ g)
    · exact fun _ => ⟨.refl _, rfl, rfl⟩
    · exact fun _ => rfl
  · exact .refl s g

/-- The trigger of a stepped axis fires: the axis moves up by a pitch (R120). -/
theorem Axis.Under.fire (r : a.Under b n f x) (armed : f.armed = true) (pitch : 1 ≤ f.pitch) (now : Nat) :
    ({ a with feed := some { f with armed := false, stage := .move } }.drive (a.moveOf true f.pitch now)).Under b n
      { f with armed := false, stage := .move } x := by
  have cutting : b.phase = .cutting := by
    by_contra ne
    simp [r.phases.2.1 ne] at armed
  have stage : f.stage ≠ .positioning := fun e => by
    obtain ⟨phase, -⟩ := r.positioning e
    simp [cutting] at phase
  refine ⟨r.state, r.target, rfl, r.position, fun m hm => ?_, fun _ => rfl, r.context, fun e => ?_, fun e => ?_, fun _ => ?_,
    ⟨fun e => ?_, fun _ => rfl, fun e => ?_⟩, fun _ => ?_⟩
  · obtain rfl := Option.some.inj hm; rfl
  · cases e
  · cases e
  · exact ⟨r.phases.2.2 armed, _, rfl, rfl, pitch⟩
  · simp [cutting] at e
  · cases e
  · have hwithin := r.within stage
    have hsame : FeedContext.unissued { f with armed := false, stage := .move } = f.unissued := rfl
    refine le_trans ?_ hwithin
    simp only [FeedContext.reach, armed, if_true, hsame, Axis.drive, Axis.moveOf, Option.map_some, Option.getD_some,
      Bool.false_eq_true, if_false]
    omega

/-- Helical steps that are due are issued (R121). -/
theorem Axis.Under.issue (r : a.Under b n f x) {j k : Nat} (helical : f.feed = .helical) (pointer : f.pointer = some j)
    (due : k ≤ f.unissued) :
    ({ a with feed := some { f with pointer := some (j + k) }, position := a.position.map (· + k) }.pulse k).Under b n
      { f with pointer := some (j + k) } (x + k) := by
  have stage : f.stage ≠ .positioning := fun e => by
    obtain ⟨-, -, none, -⟩ := r.positioning e
    simp [pointer] at none
  refine ⟨r.state, r.target, rfl, by simp [Axis.pulse, r.position], r.moves, fun _ => r.feedsUp (by simp [pointer]), r.context,
    fun e => absurd e stage, r.hold, r.moving, r.phases, fun e => ?_⟩
  refine le_trans (le_of_eq ?_) (r.within stage)
  have hbefore : f.unissued = f.pitch + 1 - j := by simp [FeedContext.unissued, helical, pointer]
  have hafter : FeedContext.unissued { f with pointer := some (j + k) } = f.pitch + 1 - (j + k) := by
    simp [FeedContext.unissued, helical]
  simp only [FeedContext.reach, hbefore, hafter, Axis.pulse] at due ⊢
  omega

/-- An axis rides on, and stands where it stood or where its band has earned it room. -/
structure Axis.Ridden (a z : Axis) (b : Band) (pitch : Nat) (f : FeedContext) (x : Nat) (f' : FeedContext) (y : Nat) : Prop where
  under : z.Under b pitch f' y
  origin : z.settings.origin = a.settings.origin
  place : y = x ∨ (b.start ≤ y ∧ y ≤ x ∨ x ≤ y ∧ y ≤ b.start) ∨ f.stage ≠ .positioning ∧ x ≤ y ∧ y ≤ f.reach x a.move

/-- A relative count reaches an axis under a band (R120, R121). -/
theorem Axis.Under.takeCount (r : a.Under b n f x) (pitch : 1 ≤ n) (rel now : Nat) :
    ∃ f' y, a.Ridden (a.takeCount rel now) b n f x f' y := by
  obtain ⟨-, -, hpitch⟩ := r.context
  unfold Axis.takeCount
  split
  · next f' _ hf =>
    obtain rfl := Option.some.inj (r.feed.symm.trans hf)
    split
    · split
      · next _ fires => exact ⟨_, x, r.fire fires.1 (hpitch ▸ pitch) now, rfl, .inl rfl⟩
      · exact ⟨f, x, r, rfl, .inl rfl⟩
    · next j helical pointer =>
      obtain ⟨due, -, -⟩ := helicalSteps_spec f.pitch rel f.unissued j
      refine ⟨_, _, r.issue helical pointer due, rfl, .inr (.inr ⟨fun e => ?_, Nat.le_add_right _ _, ?_⟩)⟩
      · obtain ⟨-, -, none, -⟩ := r.positioning e
        simp [pointer] at none
      · simp only [FeedContext.reach]; omega
    · exact ⟨f, x, r, rfl, .inl rfl⟩
  · exact ⟨f, x, r, rfl, .inl rfl⟩

/-- A change of the axis of a riding head. -/
theorem State.PoisedAt.ridden {w : Axis → Axis} (hs : s.PoisedAt h) (r : s.Rides h b f x)
    (e : (s.axes.get h).Ridden (w (s.axes.get h)) b (s.screen b.screen).pitch f x f' y) :
    (s.updAxis h w).PoisedAt h ∧ s.Narrows (s.updAxis h w) h := by
  refine ⟨hs.updAxis_under r e.under, State.Narrows.of_place (y := y) r.under.homed ?_ ?_ ?_ ?_ ?_ rfl fun c hc => ⟨c, hc, .refl c⟩⟩
  · rw [State.updAxis_get_same]; exact e.under.homed
  · rw [State.updAxis_get_same]; exact e.origin
  · rw [State.updAxis_get_same]; exact e.under.position
  · rw [State.updAxis_get_same]; exact e.under.target
  · have hpos : x ∈ s.spanPoints h := by simpa [r.under.position] using s.position_mem h
    have hstart := State.extents_mem (State.mem_held_iff.mpr (.inl r.active)) (s.start_mem b)
    obtain rfl | ⟨low, high⟩ | ⟨low, high⟩ | ⟨stage, low, high⟩ := e.place.imp id (or_assoc.mp)
    · exact ⟨lowest_le hpos, le_highest hpos⟩
    · exact ⟨(lowest_le hstart).trans low, high.trans (le_highest hpos)⟩
    · exact ⟨(lowest_le hpos).trans low, high.trans (le_highest hstart)⟩
    · exact r.between stage low high

/-- What a relative count does to an axis (R120, R121). -/
theorem State.takeCount_ridesAt (s : State) (h : HeadId) (rel now : Nat) (g : HeadId) :
    s.RidesAt (s.updAxis h fun a => a.takeCount rel now) g := by
  refine (State.Local.updAxis s h _).ridesAt (s.updAxis_board h _) ⟨fun hs => ?_⟩ g
  by_cases feeding : (s.axes.get h).state = .feeding
  · obtain ⟨b, hb⟩ := Option.isSome_iff_exists.mp (hs.sound.feeding.mpr feeding)
    obtain ⟨f, x, r⟩ := hs.sound.rides hb
    obtain ⟨-, -, -, pitch⟩ := r.fits
    obtain ⟨f', y, e⟩ := r.under.takeCount pitch rel now
    exact hs.ridden (w := fun a => a.takeCount rel now) r e
  · have hsame := Axis.takeCount_of_not_feeding feeding rel now
    refine (State.SameCarriage.ridesAt (s := s) (t := s.updAxis h fun a => a.takeCount rel now) ⟨?_, rfl, rfl, rfl, rfl,
      fun _ hc _ => hc⟩).keeps hs
    rw [State.updAxis_get_same, hsame]

theorem State.present_ridesAt (s : State) (h g : HeadId) : s.RidesAt (s.present h) g :=
  (s.deliverCells_ridesAt h g).trans (State.takeCount_ridesAt _ h _ _ g)

end Sys2Proof.Machine
end

section
/-! Moves, homing, and the ends of copies and fills keep the laws of O14 (R76, R83, R105, R111, R112, R118, R120). -/

namespace Sys2Proof.Machine

variable {s t u : State} {g h k : HeadId} {b c p : Band} {a z : Axis} {f f' : FeedContext} {x y n : Nat} {m : Move}

/-! ### Moves of a FEEDING axis (R118, R120) -/

/-- A step of a positioning move, or one of a stepped move that is not its last. -/
theorem Axis.Under.advance (r : a.Under b n f x) (hm : a.move = some m) (more : f.stage = .positioning ∨ 1 < m.toGo) :
    (a.advance m).Under b n f (stepFrom m.up x) := by
  have notHold : f.stage ≠ .hold := fun e => by simp [r.hold e] at hm
  refine ⟨r.state, r.target, r.feed, by simp [Axis.advance, Axis.pulse, r.position], fun w hw => ?_, r.feedsUp, r.context,
    fun e => ?_, fun e => absurd e notHold, fun e => ?_, r.phases, fun e => ?_⟩
  · obtain ⟨-, rfl⟩ : 1 < m.toGo ∧ m.stepped = w := by simpa [Axis.advance, Axis.pulse] using hw
    exact r.moves m hm
  · obtain ⟨phase, armed, pointer, moves⟩ := r.positioning e
    refine ⟨phase, armed, pointer, fun w hw => ?_⟩
    obtain ⟨hgo, rfl⟩ : 1 < m.toGo ∧ m.stepped = w := by simpa [Axis.advance, Axis.pulse] using hw
    obtain ⟨-, hto⟩ := moves m hm
    refine ⟨show 1 ≤ m.toGo - 1 by omega, ?_⟩
    simp only [Move.stepped, stepFrom]
    split at hto <;> simp only [*, if_true, if_false, Bool.false_eq_true] <;> omega
  · obtain ⟨stepped, m', hm', up, hgo⟩ := r.moving e
    obtain rfl := Option.some.inj (hm.symm.trans hm')
    have hlt : 1 < m.toGo := more.resolve_left (by simp [e])
    refine ⟨stepped, m.stepped, ?_, up, show 1 ≤ m.toGo - 1 by omega⟩
    simp [Axis.advance, Axis.pulse, hlt]
  · refine le_trans (le_of_eq ?_) (r.within e)
    have moving : f.stage = .move := by cases h : f.stage <;> simp_all
    obtain ⟨-, m', hm', up, hgo⟩ := r.moving moving
    obtain rfl := Option.some.inj (hm.symm.trans hm')
    have hlt : 1 < m.toGo := more.resolve_left e
    simp only [FeedContext.reach, Axis.advance, Axis.pulse, hm, if_neg (Nat.not_le.mpr hlt), Option.map_some, Option.getD_some,
      Move.stepped, stepFrom, up, if_true]
    omega

/-- The last step of a stepped move brings the axis to HOLD (R120). -/
theorem Axis.Under.advance_last (r : a.Under b n f x) (hm : a.move = some m) (moving : f.stage = .move) (last : m.toGo ≤ 1) :
    ((a.advance m).setStage .hold).Under b n { f with stage := .hold } (stepFrom m.up x) := by
  obtain ⟨stepped, m', hm', up, hgo⟩ := r.moving moving
  obtain rfl := Option.some.inj (hm.symm.trans hm')
  have still : ((a.advance m).setStage .hold).move = none := by simp [Axis.setStage, Axis.advance, Axis.pulse, last]
  refine ⟨r.state, r.target, by simp [Axis.setStage, Axis.advance, Axis.pulse, r.feed],
    by simp [Axis.setStage, Axis.advance, Axis.pulse, r.position], fun w hw => ?_, r.feedsUp, r.context, (fun e => by cases e),
    fun _ => still, (fun e => by cases e), ⟨fun _ => rfl, r.phases.2⟩, fun _ => ?_⟩
  · rw [still] at hw; cases hw
  · refine le_trans (le_of_eq ?_) (r.within (by simp [moving]))
    have hsame : FeedContext.unissued { f with stage := .hold } = f.unissued := rfl
    rw [FeedContext.reach, FeedContext.reach, still, hm, hsame]
    simp only [Option.map_some, Option.getD_some, Option.map_none, Option.getD_none, stepFrom, up, if_true]
    omega

/-- A step of a band's move leaves the carriage within its span. -/
theorem Axis.Under.step_place (r : a.Under b n f x) (hm : a.move = some m) :
    stepFrom m.up x = x ∨ (b.start ≤ stepFrom m.up x ∧ stepFrom m.up x ≤ x ∨ x ≤ stepFrom m.up x ∧ stepFrom m.up x ≤ b.start) ∨
      f.stage ≠ .positioning ∧ x ≤ stepFrom m.up x ∧ stepFrom m.up x ≤ f.reach x a.move := by
  cases e : f.stage with
  | hold => simp [r.hold e] at hm
  | positioning =>
    obtain ⟨-, -, -, moves⟩ := r.positioning e
    obtain ⟨hgo, hto⟩ := moves m hm
    refine .inr (.inl ?_)
    unfold stepFrom
    split at hto <;> simp only [*, if_true, if_false, Bool.false_eq_true] <;> omega
  | move =>
    obtain ⟨-, m', hm', up, hgo⟩ := r.moving e
    obtain rfl := Option.some.inj (hm.symm.trans hm')
    refine .inr (.inr ⟨by simp, ?_⟩)
    simp only [stepFrom, up, if_true, FeedContext.reach, hm, Option.map_some, Option.getD_some]
    omega

/-- The last step of a band's move brings the axis to HOLD (R118, R120). -/
theorem Axis.Under.arrive (r : a.Under b n f x) (hm : a.move = some m) (last : m.toGo ≤ 1) :
    ((a.advance m).setStage .hold).Under b n { f with stage := .hold } (stepFrom m.up x) := by
  cases e : f.stage with
  | hold => simp [r.hold e] at hm
  | move => exact r.advance_last hm e last
  | positioning =>
    refine (r.advance hm (.inl e)).atStart e ?_ (by simp [Axis.advance, Axis.pulse, last])
    obtain ⟨-, -, -, moves⟩ := r.positioning e
    obtain ⟨hgo, hto⟩ := moves m hm
    unfold stepFrom
    split at hto <;> simp only [*, if_true, if_false, Bool.false_eq_true] <;> omega

theorem State.feedStep_ridesAt (feeding : (s.axes.get k).state = .feeding) (hm : (s.axes.get k).move = some m) (g : HeadId) :
    s.RidesAt (s.feedStep k m) g := by
  have harrive : m.toGo ≤ 1 → s.RidesAt (s.updAxis k fun a => (a.advance m).setStage .hold) g := fun last => by
    refine (State.Local.updAxis s k _).ridesAt (s.updAxis_board k _) ⟨fun hs => ?_⟩ g
    obtain ⟨b, hb⟩ := Option.isSome_iff_exists.mp (hs.sound.feeding.mpr feeding)
    obtain ⟨f, x, r⟩ := hs.sound.rides hb
    exact hs.ridden (w := fun a => (a.advance m).setStage .hold) r ⟨r.under.arrive hm last, rfl, r.under.step_place hm⟩
  unfold State.feedStep
  dsimp only
  rw [State.updAxis_updAxis]
  split
  · next last =>
    split
    · exact harrive last
    · refine (harrive last).trans (State.onAtStart_ridesAt (fun f hf => ?_) g)
      rw [State.updAxis_get_same] at hf
      obtain ⟨f', -, rfl⟩ := Option.map_eq_some_iff.mp hf
      rfl
  · next more =>
    refine (State.Local.updAxis s k _).ridesAt (s.updAxis_board k _) ⟨fun hs => ?_⟩ g
    obtain ⟨b, hb⟩ := Option.isSome_iff_exists.mp (hs.sound.feeding.mpr feeding)
    obtain ⟨f, x, r⟩ := hs.sound.rides hb
    exact hs.ridden (w := fun a => a.advance m) r ⟨r.under.advance hm (.inr (by omega)), rfl, r.under.step_place hm⟩

/-! ### Moves of an axis with no band (R111, R112) -/

/-- The axis of a head with no band is changed. -/
theorem State.Rests.updAxis {w : Axis → Axis} (r : s.Rests h) (state : (w (s.axes.get h)).state ≠ .feeding)
    (lawful : (w (s.axes.get h)).stateLawful) (tracked : (w (s.axes.get h)).Tracked) : (s.updAxis h w).Rests h :=
  ⟨r.active, r.waiting, by rwa [State.updAxis_get_same], by rwa [State.updAxis_get_same], by rwa [State.updAxis_get_same], r.empty⟩

theorem State.PoisedAt.updAxis_rests {w : Axis → Axis} (hs : s.PoisedAt h) (r : (s.updAxis h w).Rests h) :
    (s.updAxis h w).PoisedAt h := ⟨r.sound, hs.owned⟩

/-- An axis with no target, no move and no feed context has nothing else to agree on. -/
theorem Axis.sound_of_still (target : a.target = none) (move : a.move = none) (feed : a.feed = none)
    (position : a.position.isSome = a.homed) (seeking : a.state ≠ .seeking) : a.stateLawful ∧ a.Tracked := by
  refine ⟨⟨fun e => position ▸ e, fun e => ?_, fun e => ?_⟩, ⟨fun e => position.trans e, fun e => absurd e seeking, fun m hm => ?_,
    fun e => ?_⟩⟩
  · simp [target] at e
  · simp [feed] at e
  · simp [move] at hm
  · simp [feed] at e

/-- A head whose axis is neither FEEDING nor under a band has no feed context. -/
theorem State.Rests.feed (r : s.Rests h) : (s.axes.get h).feed = none := by
  obtain ⟨-, -, hfeed⟩ := r.lawful
  by_contra ne
  exact r.state (hfeed (Option.isSome_iff_ne_none.mpr ne))

/-- A head whose axis is not FEEDING rests. -/
theorem State.PoisedAt.rests (hs : s.PoisedAt h) (state : (s.axes.get h).state ≠ .feeding) : s.Rests h :=
  hs.sound.rests (by
    by_contra ne
    exact state (hs.sound.feeding.mp (Option.isSome_iff_ne_none.mpr ne)))

/-- The home is found: the axis is IDLE at position 0 (R110, R111). -/
theorem State.Rests.foundHome (r : s.Rests h) : (s.updAxis h Axis.foundHome).Rests h := by
  obtain ⟨lawful, tracked⟩ := Axis.sound_of_still (a := (s.axes.get h).foundHome) rfl rfl r.feed rfl (by simp [Axis.foundHome])
  exact r.updAxis (by simp [Axis.foundHome]) lawful tracked

theorem State.homeFound_ridesAt (s : State) (k g : HeadId) : s.RidesAt (s.homeFound k) g := by
  unfold State.homeFound
  split
  · next homing =>
    refine State.RidesAt.trans (t := s.updAxis k Axis.foundHome) ?_ (State.SameCarriage.ridesAt
      ⟨rfl, rfl, rfl, rfl, rfl, fun _ hc _ => hc⟩)
    refine (State.Local.updAxis s k _).ridesAt (s.updAxis_board k _) ⟨fun hs => ?_⟩ g
    have r := hs.rests (by simp [homing])
    refine ⟨hs.updAxis_rests r.foundHome, ⟨fun w hw => ⟨_, State.span_homing homing, ?_⟩⟩⟩
    rw [State.span_free (s := s.updAxis k Axis.foundHome) (by simp [Axis.foundHome, Axis.homed]) r.free] at hw
    simp only [State.updAxis_get_same, Axis.foundHome, Axis.pos, Option.getD_some, Option.toList_none, spanOver_singleton,
      Nat.add_zero, Option.some.injEq] at hw
    exact hw ▸ .refl _
  · exact .refl s g

theorem State.homingStep_ridesAt (homing : (s.axes.get k).state = .homing) (hm : (s.axes.get k).move = some m) (g : HeadId) :
    s.RidesAt (s.homingStep k m) g := by
  have hstep : s.RidesAt (s.updAxis k fun a =>
      { a with homeSteps := some ((s.axes.get k).homeSteps.getD 0 + 1), move := some m.stepped }.pulse 1) g := by
    refine State.updAxis_ridesAt (.of_same rfl rfl rfl rfl) (fun hs => ?_) g
    have r := hs.rests (by simp [homing])
    have ⟨hposition, htarget, hfeed⟩ := r.lawful
    refine hs.updAxis_rests (r.updAxis r.state ⟨hposition, htarget, hfeed⟩ ⟨r.tracked.positioned, fun e => ?_, fun w hw => ?_,
      r.tracked.feedsUp⟩)
    · have : (s.axes.get k).state = .seeking := e
      simp [homing] at this
    · obtain rfl := Option.some.inj hw
      exact r.tracked.moves m hm
  have hhoming : ((s.updAxis k fun a =>
      { a with homeSteps := some ((s.axes.get k).homeSteps.getD 0 + 1), move := some m.stepped }.pulse 1).axes.get k).state =
      .homing := by simp [Axis.pulse, homing]
  unfold State.homingStep
  dsimp only
  generalize (s.updAxis k fun a =>
    { a with homeSteps := some ((s.axes.get k).homeSteps.getD 0 + 1), move := some m.stepped }.pulse 1) = v at hstep hhoming ⊢
  split
  · refine hstep.trans (State.RidesAt.trans (t := v.updAxis k fun a => a.lost .homeNotFound) ?_ (State.SameCarriage.ridesAt
      ⟨rfl, rfl, rfl, rfl, rfl, fun _ hc _ => hc⟩))
    exact State.updAxis_ridesAt (Axis.lost_recedes _ _) (fun hs => hs.lost (hs.rests (by simp [hhoming])).active _) g
  · exact hstep

/-- A seek under way: where it stands, where it ends, and its move (R112). -/
structure Axis.Seeking (a : Axis) (m : Move) (x t : Nat) : Prop where
  state : a.state = .seeking
  feed : a.feed = none
  position : a.position = some x
  target : a.target = some t
  up : a.outputs.up = m.up
  toGo : 1 ≤ m.toGo
  ends : if m.up then x + m.toGo = t else x = t + m.toGo

/-- From `a` to `z` a seek has come to place `y`, and has no other target than `t`. -/
structure Axis.Sought (a z : Axis) (t y : Nat) : Prop where
  state : z.state ≠ .feeding
  homed : z.homed = true
  origin : z.settings.origin = a.settings.origin
  lawful : z.stateLawful
  tracked : z.Tracked
  position : z.position = some y
  target : ∀ w, z.target = some w → w = t

/-- The last step of a seek leaves the axis IDLE at its target. -/
theorem Axis.Seeking.arrive {t : Nat} (e : a.Seeking m x t) : a.Sought (a.advance m).rest t (stepFrom m.up x) := by
  have hposition : (a.advance m).rest.position = some (stepFrom m.up x) := by
    simp [Axis.rest, Axis.advance, Axis.pulse, e.position]
  obtain ⟨lawful, tracked⟩ := Axis.sound_of_still (a := (a.advance m).rest) rfl rfl e.feed (by rw [hposition]; rfl)
    (by simp [Axis.rest])
  exact ⟨by simp [Axis.rest], rfl, rfl, lawful, tracked, hposition, fun w hw => by cases hw⟩

/-- Any other step of a seek brings it nearer. -/
theorem Axis.Seeking.advance {t : Nat} (e : a.Seeking m x t) (more : ¬m.toGo ≤ 1) : a.Sought (a.advance m) t (stepFrom m.up x) := by
  have hposition : (a.advance m).position = some (stepFrom m.up x) := by simp [Axis.advance, Axis.pulse, e.position]
  have hmove : (a.advance m).move = some m.stepped := by simp [Axis.advance, Axis.pulse, more]
  have hstate : (a.advance m).state = .seeking := e.state
  have hfeed : (a.advance m).feed = none := e.feed
  have hends := e.ends
  refine ⟨by simp [hstate], by simp [Axis.homed, hstate], rfl, ⟨fun _ => by simp [Axis.homed, hstate], fun _ => hstate, fun hf => ?_⟩,
    ⟨fun _ => by simp [hposition], fun _ => ⟨_, t, _, hposition, e.target, hmove, show 1 ≤ m.toGo - 1 by omega, ?_⟩,
      fun w hw => ?_, fun hf => ?_⟩, hposition, fun w hw => Option.some.inj (hw.symm.trans e.target)⟩
  · simp [hfeed] at hf
  · simp only [Move.stepped, stepFrom]
    split at hends <;> simp only [*, if_true, if_false, Bool.false_eq_true] <;> omega
  · obtain rfl := Option.some.inj (hmove.symm.trans hw)
    exact e.up
  · simp [hfeed] at hf

/-- A step of a seek stands between where it stood and its target. -/
theorem State.sought_ridesAt {w : Axis → Axis} (seeking : (s.axes.get k).state = .seeking) (hm : (s.axes.get k).move = some m)
    (sought : ∀ x t, (s.axes.get k).Seeking m x t → (s.axes.get k).Sought (w (s.axes.get k)) t (stepFrom m.up x)) (g : HeadId) :
    s.RidesAt (s.updAxis k w) g := by
  refine (State.Local.updAxis s k _).ridesAt (s.updAxis_board k _) ⟨fun hs => ?_⟩ g
  have r := hs.rests (by simp [seeking])
  obtain ⟨x, t, m', hx, ht, hm', hgo, hto⟩ := r.tracked.seeks seeking
  obtain rfl := Option.some.inj (hm.symm.trans hm')
  have e := sought x t ⟨seeking, r.feed, hx, ht, r.tracked.moves m hm, hgo, hto⟩
  refine ⟨hs.updAxis_rests (r.updAxis e.state e.lawful e.tracked), State.Narrows.of_points (by simp [Axis.homed, seeking])
    (by rw [State.updAxis_get_same]; exact e.homed) (by rw [State.updAxis_get_same]; exact e.origin) fun y hy => ?_⟩
  have hxmem : x ∈ s.spanPoints k := by simpa [hx] using s.position_mem k
  have htmem : t ∈ s.spanPoints k := State.target_mem ht
  simp only [State.spanPoints, State.updAxis_get_same, e.position, Option.getD_some, List.mem_append, List.mem_singleton,
    Option.mem_toList, List.mem_flatMap] at hy
  obtain (rfl | hy) | ⟨c, hc, -⟩ := hy
  · have hlow := lowest_le hxmem
    have hlow' := lowest_le htmem
    have hhigh := le_highest hxmem
    have hhigh' := le_highest htmem
    unfold stepFrom
    split at hto <;> simp only [*, if_true, if_false, Bool.false_eq_true] <;> omega
  · rw [e.target y hy]
    exact ⟨lowest_le htmem, le_highest htmem⟩
  · have hfree : (s.updAxis k w).held k = [] := r.free
    rw [hfree] at hc; cases hc

/-- A step of a seek (R112). -/
theorem State.seekStep_ridesAt (seeking : (s.axes.get k).state = .seeking) (hm : (s.axes.get k).move = some m) (g : HeadId) :
    s.RidesAt (s.seekStep k m) g := by
  unfold State.seekStep
  dsimp only
  split
  · rw [State.updAxis_updAxis]
    exact State.RidesAt.trans (t := s.updAxis k fun a => (a.advance m).rest)
      (State.sought_ridesAt seeking hm (fun x t e => e.arrive) g) (State.SameCarriage.ridesAt
        ⟨rfl, rfl, rfl, rfl, rfl, fun _ hc _ => hc⟩)
  · next more => exact State.sought_ridesAt seeking hm (fun x t e => e.advance more) g

theorem State.moveStep_ridesAt (hm : (s.axes.get k).move = some m) (g : HeadId) : s.RidesAt (s.moveStep k m) g := by
  unfold State.moveStep
  split
  · next e => exact State.homingStep_ridesAt e hm g
  · next e => exact State.seekStep_ridesAt e hm g
  · next e => exact State.feedStep_ridesAt e hm g
  · exact .refl s g
  · exact .refl s g

/-! ### Ends of copies and fills (R76, R83) -/

theorem LineBuffers.filled_standby (q : LineBuffers) (r : BufferTrack) (tones : List Byte) :
    (q.filled r tones).standby.held = .loaded r := by simp [LineBuffers.filled]

theorem State.finishCopy_ridesAt {c : Copy} (hc : s.fetch.copy = some c) (g : HeadId) : s.RidesAt (s.finishCopy c) g := by
  let v : State := s.updBuffers c.head fun b => b.filled ⟨c.track, .data, c.n⟩ (readTones s.store.dram c.pages c.n)
  let w : State := { v with store := v.store.giveBack c.pages, fetch := { v.fetch with copy := none } }
  have hfilled : s.RidesAt w g := by
    refine .of_narrows (.of_same rfl rfl rfl) fun hs => ?_
    by_cases hg : c.head = g
    · subst hg
      obtain ⟨hactive, hloading⟩ := hs.owned c hc rfl
      obtain ⟨b, hb⟩ := Option.isSome_iff_exists.mp hactive
      refine hs.restandby hb rfl rfl rfl rfl (fun r hr => hs.sound.loads b hb r ?_) fun d hd => by cases hd
      rw [hloading, ← hr]
      simp [w, v, State.updBuffers, LineBuffers.filled_standby, BufferState.track?]
    · refine State.SameCarriage.poised (s := s) ⟨rfl, rfl, rfl, ?_, rfl, fun d hd => by cases hd⟩ hs
      simp [w, v, State.updBuffers, Ne.symm hg]
  exact (hfilled.trans (State.service_ridesAt _ c.head g)).trans (State.arbitrate_ridesAt _ g)

theorem State.finishFill_ridesAt (s : State) (h g : HeadId) : s.RidesAt (s.finishFill h) g := by
  have hended : s.RidesAt { s with fetch := { s.fetch with fills := s.fetch.fills.set h none } } g :=
    State.SameCarriage.ridesAt ⟨rfl, rfl, rfl, rfl, rfl, fun _ hc _ => hc⟩
  unfold State.finishFill
  dsimp only
  split
  · next r hr =>
    split
    · next patch =>
      refine hended.trans (State.RidesAt.trans ?_ (State.service_ridesAt _ h g))
      generalize hv : ({ s with fetch := { s.fetch with fills := s.fetch.fills.set h none } } : State) = v
      have hloading : (v.buffers.get h).standby.held = .loading r := by rw [← hv]; exact hr
      refine (State.Local.updBuffers v h _).ridesAt ⟨rfl, rfl, rfl, rfl, rfl, rfl, rfl, rfl, rfl, rfl, fun _ _ => rfl⟩
        (.of_narrows (.of_same rfl rfl rfl) fun hs => ?_) g
      obtain ⟨b, hb⟩ : ∃ b, v.active h = some b := by
        cases hb : v.active h with
        | none => exact absurd (hs.sound.empty hb) (by simp [hloading])
        | some b => exact ⟨b, rfl⟩
      refine hs.restandby hb rfl rfl rfl rfl (fun r' hr' => hs.sound.loads b hb r' ?_) fun c hc hh => ?_
      · rw [hloading, ← hr']
        simp [State.updBuffers, LineBuffers.filled_standby, BufferState.track?]
      · have := (hs.owned c hc hh).2
        rw [hloading] at this
        obtain rfl := BufferState.loading.inj this
        simp at patch
    · exact hended
  · exact hended
  · exact hended

end Sys2Proof.Machine
end

section
/-! What counts, indexes, timers and inputs do keeps the laws of O14 (chapters 1, 6, 7 and 9). -/

namespace Sys2Proof.Machine

variable {s t u : State} {g h k : HeadId} {b c p : Band} {a z : Axis}

/-! ### Steps over all heads -/

/-- From `s` to `t` the settings that the laws of O14 read are the same, every head keeps its laws, and every span narrows. -/
structure State.Carried (s t : State) : Prop where
  machine : t.machine = s.machine
  acting : t.ctu.acting = s.ctu.acting
  screens : t.screens = s.screens
  rides : ∀ g, s.RidesAt t g

theorem State.Carried.refl (s : State) : s.Carried s := ⟨rfl, rfl, rfl, fun g => .refl s g⟩

theorem State.Carried.trans (x : s.Carried t) (y : t.Carried u) : s.Carried u :=
  ⟨y.machine.trans x.machine, y.acting.trans x.acting, y.screens.trans x.screens, fun g => (x.rides g).trans (y.rides g)⟩

theorem State.Carried.of_board (board : s.SameBoard t) (rides : ∀ g, s.RidesAt t g) : s.Carried t :=
  ⟨board.machine, by rw [board.ctu], board.screens, rides⟩

theorem State.Works.carried (w : State.Works h s t) (rides : ∀ g, s.RidesAt t g) : s.Carried t :=
  .of_board w.moves.board rides

/-- A change of nothing that the laws read. -/
theorem State.Carried.of_same (machine : t.machine = s.machine) (acting : t.ctu.acting = s.ctu.acting)
    (screens : t.screens = s.screens) (axes : t.axes = s.axes) (bands : t.bands = s.bands) (buffers : t.buffers = s.buffers)
    (copy : t.fetch.copy = s.fetch.copy) : s.Carried t :=
  ⟨machine, acting, screens, fun g => State.SameCarriage.ridesAt ⟨by rw [axes], by rw [State.active, bands, State.active],
    by rw [bands], by rw [buffers], screens, fun _ hc _ => copy ▸ hc⟩⟩

theorem State.Carried.setCtu (s : State) {c : Ctu} (acting : c.acting = s.ctu.acting) : s.Carried { s with ctu := c } :=
  .of_same rfl acting rfl rfl rfl rfl rfl

theorem State.Carried.post (s : State) (id : NoticeId) (c : NoticeContent) : s.Carried (s.post id c) :=
  .of_same rfl rfl rfl rfl rfl rfl rfl

theorem State.Carried.setLink (s : State) (l : Link) : s.Carried { s with link := l } :=
  .of_same rfl rfl rfl rfl rfl rfl rfl

theorem State.Carried.elapse (s : State) (n : Nat) : s.Carried (s.elapse n) := by
  unfold State.elapse
  split
  · exact .refl s
  · exact .of_same rfl rfl rfl rfl rfl rfl rfl

theorem State.Carried.forFitted {f : HeadId → State → State} (works : ∀ g (u : State), u.Carried (f g u)) (s : State) :
    s.Carried (s.forFitted f) :=
  State.forFitted_keeps (P := s.Carried) (.refl s) fun g u hu => hu.trans (works g u)

/-! ### The laws of O14 -/

theorem State.carriagesSound_iff (s : State) : s.carriagesSound ↔
    s.separated ∧ s.unfittedRest ∧ s.screensPitched ∧ ∀ g, s.PoisedAt g := by
  refine ⟨fun ⟨sep, rest, owned, pitched, sound⟩ => ⟨sep, rest, pitched, fun g => ⟨sound g, s.copyOwned_iff.mp owned g⟩⟩,
    fun ⟨sep, rest, pitched, poised⟩ => ⟨sep, rest, s.copyOwned_iff.mpr fun g => (poised g).owned, pitched,
      fun g => (poised g).sound⟩⟩

theorem State.carriagesSound.separated (hs : s.carriagesSound) : s.separated := (s.carriagesSound_iff.mp hs).1

theorem State.carriagesSound.unfittedRest (hs : s.carriagesSound) : s.unfittedRest := (s.carriagesSound_iff.mp hs).2.1

theorem State.carriagesSound.screensPitched (hs : s.carriagesSound) : s.screensPitched := (s.carriagesSound_iff.mp hs).2.2.1

theorem State.carriagesSound.poised (hs : s.carriagesSound) (g : HeadId) : s.PoisedAt g := (s.carriagesSound_iff.mp hs).2.2.2 g

theorem State.fitted_congr (acting : t.ctu.acting = s.ctu.acting) (g : HeadId) : t.fitted g = s.fitted g := by
  rw [State.fitted, acting, State.fitted]

theorem State.screensPitched_congr (screens : t.screens = s.screens) (hs : s.screensPitched) : t.screensPitched := fun i => by
  rw [State.screen, screens]; exact hs i

/-- An UNHOMED axis has no span to narrow but none. -/
theorem State.Narrows.unhomed (e : s.Narrows t g) (unhomed : (s.axes.get g).state = .unhomed) :
    (t.axes.get g).state = .unhomed := by
  rw [← State.span_none_iff] at unhomed ⊢
  by_contra ne
  obtain ⟨b, hb⟩ := Option.ne_none_iff_exists'.mp ne
  obtain ⟨a, ha, -⟩ := e.span b hb
  simp [unhomed] at ha

/-- What keeps every head's laws and narrows every span keeps the laws of O14. -/
theorem State.Carried.sound (e : s.Carried t) (hs : s.carriagesSound) : t.carriagesSound := by
  have narrows : ∀ g, s.Narrows t g := fun g => ((e.rides g).keeps (hs.poised g)).2
  obtain ⟨written, rest⟩ := hs.unfittedRest
  refine t.carriagesSound_iff.mpr ⟨State.separated_of_narrows hs.separated (by rw [e.machine]) (by rw [e.acting]) narrows,
    ⟨by rw [e.acting, e.machine]; exact written, fun k hk => (narrows k).unhomed (rest k ?_)⟩,
    State.screensPitched_congr e.screens hs.screensPitched, fun g => ((e.rides g).keeps (hs.poised g)).1⟩
  rwa [State.fitted_congr e.acting] at hk

/-! ### Counts and indexes -/

theorem State.timingLoss_carried (s : State) (h : HeadId) (e : CylEvent) : s.Carried (s.timingLoss h e) :=
  (s.timingLoss_works h e).carried (s.timingLoss_ridesAt h e)

theorem State.boundaries_carried (s : State) (due : HeadId → Bool) : s.Carried (s.boundaries due) :=
  .forFitted (fun g u => by
    split
    · exact (u.boundary_works g).carried (u.boundary_ridesAt g)
    · exact .refl u) s

theorem State.presentAll_carried (s : State) : s.Carried s.presentAll :=
  .forFitted (fun g u => (u.present_works g).carried (u.present_ridesAt g)) s

theorem State.timingFault_carried (s : State) (e : CylEvent) {c : Ctu} (acting : c.acting = s.ctu.acting) :
    s.Carried (s.timingFault e c) := by
  have hposted : s.Carried (({ s with ctu := c } : State).postCylinder e) := (State.Carried.setCtu s acting).trans (.post ..)
  unfold State.timingFault
  dsimp only
  split
  · exact hposted.trans (.forFitted (fun g u => u.timingLoss_carried g e) _)
  · exact hposted

theorem State.judgeCount_carried (s : State) (forward : Bool) : s.Carried (s.judgeCount forward) := by
  unfold State.judgeCount
  split
  · exact .setCtu s rfl
  · exact .setCtu s rfl
  · split
    · exact s.timingFault_carried _ rfl
    · exact .refl s
  · exact s.timingFault_carried _ rfl
  · split
    · exact s.timingFault_carried _ rfl
    · exact s.boundaries_carried _

theorem State.checkSpeed_carried (s : State) : s.Carried s.checkSpeed := by
  have hset : s.Carried { s with ctu := { s.ctu with speedOk := speedOkFor s.machine (s.ctu.lastPeriod.getD 0) } } :=
    .setCtu s rfl
  unfold State.checkSpeed
  dsimp only
  split
  · exact (hset.trans (.post ..)).trans (.forFitted (fun g u => (u.speedEvent_works g).carried (u.speedEvent_ridesAt g)) _)
  · exact hset.trans (.post ..)
  · exact hset
  · exact hset

theorem State.serveReport_carried (s : State) : s.Carried s.serveReport := by
  unfold State.serveReport
  split
  · exact .refl s
  · split
    · refine State.Carried.trans ?_ (State.Carried.post ..)
      exact .setCtu s rfl
    · exact .setCtu s rfl

theorem State.owedBoundaries_carried (s : State) : s.Carried s.owedBoundaries := by
  unfold State.owedBoundaries
  split
  · exact s.boundaries_carried _
  · exact .refl s

theorem State.zeroBoundaries_carried (s : State) : s.Carried s.zeroBoundaries := by
  unfold State.zeroBoundaries
  split
  · exact s.boundaries_carried _
  · exact .refl s

theorem State.goodIndex_carried (s : State) : s.Carried s.goodIndex := by
  have howed := s.owedBoundaries_carried
  unfold State.goodIndex
  dsimp only
  generalize s.owedBoundaries = v at howed ⊢
  have hrevolved : v.Carried { v with ctu := v.ctu.revolved v.timestamp } := .setCtu v (Ctu.revolved_acting ..)
  generalize ({ v with ctu := v.ctu.revolved v.timestamp } : State) = w at hrevolved ⊢
  exact ((((howed.trans hrevolved).trans w.checkSpeed_carried).trans (State.serveReport_carried _)).trans
    (State.zeroBoundaries_carried _)).trans (State.presentAll_carried _)

theorem State.judgeIndex_carried (s : State) : s.Carried s.judgeIndex := by
  unfold State.judgeIndex
  split
  · have hfault := s.timingFault_carried .indexMissing (c := s.ctu.unoriginated) rfl
    dsimp only
    generalize s.timingFault .indexMissing s.ctu.unoriginated = v at hfault ⊢
    exact hfault.trans (.setCtu v rfl)
  · split
    · exact s.timingFault_carried _ rfl
    · exact s.goodIndex_carried

theorem State.takeReady_carried (s : State) : s.Carried s.takeReady := by
  have hset : s.Carried { s with ctu := { s.ctu with ready := s.pins.readyLine, debounce := 0 } } := .setCtu s rfl
  unfold State.takeReady
  dsimp only
  split
  · exact hset.trans (.post ..)
  · exact (hset.trans (.post ..)).trans (.forFitted (fun g u => (u.readyLost_works g).carried (u.readyLost_ridesAt g)) _)

/-- A count takes up the F that was written; the axes that it fits are UNHOMED (R15, R107). -/
theorem State.count_sound (hs : s.carriagesSound) (forward : Bool) : (s.count forward).carriagesSound := by
  obtain ⟨written, rest⟩ := hs.unfittedRest
  have same : ∀ g, s.SameCarriage (s.count forward) g := fun g => ⟨rfl, rfl, rfl, rfl, rfl, fun _ hc _ => hc⟩
  have hacting : (s.count forward).ctu.acting.fitted = s.machine.fitted := rfl
  refine (State.carriagesSound_iff _).mpr ⟨(State.separated_iff _).mpr fun k j hj hfit a b ha hb => ?_,
    ⟨le_of_eq hacting, fun k hk => rest k ?_⟩, hs.screensPitched, fun g => (same g).poised (hs.poised g)⟩
  · cases hfit' : s.fitted j with
    | true => exact (State.separated_iff s).mp hs.separated k j hj hfit' a b ha hb
    | false =>
      have hnone : s.span j = none := State.span_unhomed (rest j hfit')
      rw [show (s.count forward).span j = s.span j from rfl, hnone] at hb
      cases hb
  · rw [Bool.eq_false_iff, Ne, State.fitted_iff] at hk ⊢
    rw [hacting] at hk
    omega

/-! ### The monitor -/

theorem State.alarmAll_carried (s : State) (i : Fin 16) (x : Slot) : s.Carried (s.alarmAll i x) := by
  unfold State.alarmAll
  split
  · refine .forFitted (fun g u => ?_) s
    split
    · exact (u.alarmOn_works _ _ g).carried (u.alarmOn_ridesAt _ _ g)
    · exact .refl u
  · exact .refl s

theorem State.setMonitor_carried (s : State) (m : Monitor) : s.Carried (s.setMonitor m) := .of_same rfl rfl rfl rfl rfl rfl rfl

theorem State.judgeConversion_carried (s : State) (i : Fin 16) (v : Nat) : s.Carried (s.judgeConversion i v) := by
  unfold State.judgeConversion
  dsimp only
  split
  · refine State.Carried.trans ?_ (State.alarmAll_carried _ _ _)
    refine State.Carried.trans ?_ (.post ..)
    exact s.setMonitor_carried _
  · exact s.setMonitor_carried _

theorem State.completeConversion_carried (s : State) (c : Conversion) (value : BitVec 12) :
    s.Carried (s.completeConversion c value) := by
  have hdue : s.Carried (s.reach c.done) := .elapse s _
  exact (hdue.trans (State.judgeConversion_carried _ c.slot _)).trans (State.setMonitor_carried _ _)

end Sys2Proof.Machine
end

section
/-! Requests keep the laws of O14. Those that test the separation law take their span behind the test; the others keep every
head's laws and narrow spans. -/

namespace Sys2Proof.Machine

variable {s t u : State} {g h k : HeadId} {b c p : Band} {a z : Axis} {x n m : Nat}

/-! ### Requests that write no span -/

theorem takeSetHead_carried (f : HeadFields) (s : State) : s.Carried (takeSetHead f s).1 := by
  unfold takeSetHead
  dsimp only
  split
  · exact .refl s
  split
  · split
    · exact .refl s
    · split
      · exact .refl s
      · exact .of_same rfl rfl rfl rfl rfl rfl rfl
  · exact .refl s

theorem takeSetCurve_carried (f : CurveFields) (s : State) : s.Carried (takeSetCurve f s).1 := by
  unfold takeSetCurve
  split
  · split
    · unfold writeCurve
      split
      · exact .refl s
      · exact .of_same rfl rfl rfl rfl rfl rfl rfl
    · exact .refl s
    · unfold previewCurve
      dsimp only
      split
      · exact .refl s
      · split <;> exact .refl s
    · exact .refl s
  · exact .refl s

theorem takeSetPatch_carried (f : PatchFields) (s : State) : s.Carried (takeSetPatch f s).1 := by
  unfold takeSetPatch
  split
  · exact .refl s
  · exact .refl s
  · split
    · split
      · unfold writePatch
        split
        · exact .refl s
        split
        · exact .refl s
        · exact .of_same rfl rfl rfl rfl rfl rfl rfl
      · exact .refl s
      · exact .refl s
    · exact .refl s

theorem takeSetMonitor_carried (f : MonitorFields) (s : State) : s.Carried (takeSetMonitor f s).1 := by
  unfold takeSetMonitor
  split
  · exact .refl s
  · dsimp only
    split
    · exact .refl s
    split
    · exact .refl s
    split
    · exact .refl s
    split
    · exact .refl s
    · exact s.setMonitor_carried _

theorem takeSetNotice_carried (f : Nat × Nat × Nat) (s : State) : s.Carried (takeSetNotice f s).1 := by
  unfold takeSetNotice
  split
  · split
    · exact .refl s
    · exact .setLink s _
  · exact .refl s

theorem onFitted_carried {f : HeadId → State × Response} (n : Nat) (hf : ∀ h, s.Carried (f h).1) :
    s.Carried (onFitted n s f).1 := onFitted_keeps (P := s.Carried) (.refl s) fun h _ => hf h

theorem takeHeadClear_carried (n : Nat) (s : State) : s.Carried (takeHeadClear n s).1 :=
  onFitted_carried _ fun h => by
    split
    · exact .refl s
    · exact .of_same rfl rfl rfl rfl rfl rfl rfl

theorem takeMonitorRun_carried (f : Nat × Nat × Nat) (s : State) : s.Carried (takeMonitorRun f s).1 := by
  unfold takeMonitorRun
  split
  · exact .refl s
  split
  · exact s.setMonitor_carried _
  · exact .refl s

theorem takeMonitorHalt_carried (f : Unit) (s : State) : s.Carried (takeMonitorHalt f s).1 := by
  unfold takeMonitorHalt
  dsimp only
  split
  · exact .refl s
  · exact s.setMonitor_carried _

theorem takeAlarmAck_carried (n : Nat) (s : State) : s.Carried (takeAlarmAck n s).1 := by
  unfold takeAlarmAck
  split
  · exact .refl s
  · dsimp only
    split
    · exact .refl s
    split
    · exact s.setMonitor_carried _
    · exact .refl s

theorem takeGetStatus_carried (n : Nat) (s : State) : s.Carried (takeGetStatus n s).1 := by
  unfold takeGetStatus
  split
  · exact .refl s
  · exact .setLink s _
  · exact .refl s

theorem takeModuleReset_carried (f : Unit) (s : State) : s.Carried (takeModuleReset f s).1 := .setLink s _

/-! ### Tracks (R52 to R63) -/

theorem State.Carried.setStore (s : State) (e : Store) : s.Carried { s with store := e } := .of_same rfl rfl rfl rfl rfl rfl rfl

theorem State.service_carried (s : State) (h : HeadId) : s.Carried (s.service h) :=
  (s.service_works h).carried (s.service_ridesAt h)

theorem takeChunk_carried (h : HeadId) (f : TrackFields) (kind : TrackKind) (s : State) :
    s.Carried (takeChunk h f kind s).1 := by
  unfold takeChunk chunkOutcome
  split
  · split
    · exact .refl s
    · split
      · exact .refl s
      · unfold State.continueChunk
        dsimp only
        split
        · exact (State.Carried.setStore s _).trans (State.service_carried _ h)
        · exact .setStore s _
  · split
    · exact .refl s
    · split
      · exact .refl s
      · exact (State.Carried.setStore s _).trans (State.service_carried _ h)

theorem takeTrack_carried (f : TrackFields) (s : State) : s.Carried (takeTrack f s).1 :=
  onFitted_carried _ fun h => by
    split
    · exact .refl s
    · split
      · exact .refl s
      · exact takeChunk_carried ..

theorem takeDropTracks_carried (f : DropFields) (s : State) : s.Carried (takeDropTracks f s).1 :=
  onFitted_carried _ fun h => by
    dsimp only
    split
    · exact .setStore s _
    · exact (State.Carried.setStore s _).trans (State.service_carried _ h)

theorem takeStoreClear_carried (f : Unit) (s : State) : s.Carried (takeStoreClear f s).1 := by
  unfold takeStoreClear
  split
  · exact .refl s
  · exact .setStore s _

/-! ### Bands that end (R137, R138, R145) -/

theorem State.finishActive_carried (s : State) (h : HeadId) (cls : ResultClass) (cause : Cause) :
    s.Carried (s.finishActive h cls cause false) :=
  (s.finishActive_works h cls cause false).carried fun g => State.finishActive_ridesAt (fun e => by cases e) cls cause g

theorem State.stopCutting_carried (hb : s.active h = some b) : s.Carried (s.stopCutting h b) := by
  unfold State.stopCutting
  split
  · exact .refl s
  · have hrecount := State.recount_ridesAt hb { b with stopTaken := true } ⟨.refl b, rfl, rfl⟩ rfl
    exact .of_board ((s.setActive_board h _).trans (State.updAxis_board _ h _)) fun g =>
      (hrecount g).trans (State.disarm_ridesAt _ h g)

theorem stopActive_carried (h : HeadId) (s : State) : s.Carried (stopActive h s).1 := by
  unfold stopActive
  split
  · exact .refl s
  · next b hb =>
    split
    · exact State.stopCutting_carried hb
    iterate 4 exact s.finishActive_carried h _ _
    · exact .refl s

theorem takeStopBand_carried (f : Nat × Nat) (s : State) : s.Carried (takeStopBand f s).1 := by
  unfold takeStopBand
  split
  · exact .refl s
  · refine onFitted_carried _ fun h => ?_
    split
    · exact stopActive_carried h s
    · unfold stopPending
      split
      · exact .refl s
      · exact (s.endPending_works h _ _).carried (s.endPending_ridesAt h _ _)

theorem takeAbortBand_carried (f : Nat × Nat) (s : State) : s.Carried (takeAbortBand f s).1 := by
  unfold takeAbortBand
  split
  · exact .refl s
  · next immediate _ =>
    refine onFitted_carried _ fun h => ?_
    split
    · exact .refl s
    · exact (s.abortActive_works h _ _ _ false).carried (s.abortActive_ridesAt h _ _ (by cases immediate <;> simp))

theorem takeReadResult_carried (n : Nat) (s : State) : s.Carried (takeReadResult n s).1 :=
  onFitted_carried _ fun h => by
    split
    · exact .refl s
    · next rest _ =>
      refine State.Carried.of_board (t := s.updBands h fun q => { q with results := rest }) (State.Moves.updBands s h _).board
        fun g => State.SameCarriage.ridesAt ⟨rfl, ?_, ?_, rfl, rfl, fun _ hc _ => hc⟩
      all_goals by_cases e : g = h
      all_goals simp [State.active, State.updBands, e]

/-! ### AXIS_HALT (R113) -/

/-- A seek that stops where it stands. -/
theorem Axis.rest_recedes (seeking : a.state = .seeking) : a.Recedes a.rest :=
  .inr ⟨rfl, .inr ⟨rfl, by simp [Axis.homed, seeking], rfl, fun w hw => by cases hw⟩⟩

theorem State.Rests.rest (r : s.Rests h) (homed : (s.axes.get h).homed = true) : (s.updAxis h Axis.rest).Rests h := by
  obtain ⟨lawful, tracked⟩ := Axis.sound_of_still (a := (s.axes.get h).rest) rfl rfl r.feed (r.tracked.positioned homed)
    (by simp [Axis.rest])
  exact r.updAxis (by simp [Axis.rest]) lawful tracked

theorem takeAxisHalt_carried (n : Nat) (s : State) : s.Carried (takeAxisHalt n s).1 :=
  onFitted_carried _ fun k => by
    split
    · next seeking =>
      refine .of_board (s.updAxis_board k _) (State.updAxis_ridesAt (Axis.rest_recedes seeking) fun hs => ?_)
      exact hs.updAxis_rests ((hs.rests (by simp [seeking])).rest (by simp [Axis.homed, seeking]))
    · next homing =>
      refine State.Carried.of_board (t := s.updAxis k fun a => a.lost .none) (s.updAxis_board k _)
        (State.updAxis_ridesAt (Axis.lost_recedes _ _) fun hs => ?_)
      exact hs.lost (hs.rests (by simp [homing])).active _
    iterate 3 exact .refl s

end Sys2Proof.Machine
end

section
/-! Requests that test the separation law, or write what it reads, keep the laws of O14 (R15, R20, R106, R110, R112, R126). -/

namespace Sys2Proof.Machine

variable {s t u : State} {g h k : HeadId} {b c p : Band} {a z : Axis} {x n m : Nat} {i : Fin 16}

/-- A request of a fitted head that has passed its test, with the others' spans narrowed. -/
theorem State.carriagesSound.of_tested (hs : s.carriagesSound) (fit : s.fitted h = true) (board : s.SameBoard t)
    (separated : t.separated) (poised : ∀ g, t.PoisedAt g) (others : ∀ g, g ≠ h → s.Narrows t g) : t.carriagesSound := by
  have acting : t.ctu.acting = s.ctu.acting := by rw [board.ctu]
  obtain ⟨written, rest⟩ := hs.unfittedRest
  refine t.carriagesSound_iff.mpr ⟨separated, ⟨by rw [acting, board.machine]; exact written, fun k hk => ?_⟩,
    State.screensPitched_congr board.screens hs.screensPitched, poised⟩
  rw [State.fitted_congr acting] at hk
  have ne : k ≠ h := fun e => by rw [e, fit] at hk; cases hk
  exact (others k ne).unhomed (rest k hk)

/-- An operation of one head that has passed its test. -/
theorem State.carriagesSound.of_local (hs : s.carriagesSound) (fit : s.fitted h = true) (board : s.SameBoard t)
    (local_ : State.Local h s t) (separated : t.separated) (own : t.PoisedAt h) : t.carriagesSound := by
  have same : ∀ g, g ≠ h → s.SameCarriage t g := fun g ne => (local_.others g ne).sameCarriage board local_.copy
  refine hs.of_tested fit board separated (fun g => ?_) fun g ne => (same g ne).narrows
  by_cases e : g = h
  · exact e ▸ own
  · exact (same g e).poised (hs.poised g)

/-- What a request with a head or axis number leaves: the card as it was, or what its owner makes of it for a fitted one. -/
theorem onFitted_state (n : Nat) (s : State) (f : HeadId → State × Response) :
    (onFitted n s f).1 = s ∨ ∃ h, s.fitted h = true ∧ (onFitted n s f).1 = (f h).1 := by
  obtain ⟨-, hr⟩ | ⟨h, -, -, hr⟩ | ⟨h, -, fit, hr⟩ := onFitted_cases n s f <;> rw [hr]
  · exact .inl rfl
  · exact .inl rfl
  · exact .inr ⟨h, fit, rfl⟩

/-! ### SET_AXIS (R106) -/

theorem takeSetAxis_state (f : AxisFields) (s : State) : (takeSetAxis f s).1 = s ∨ ∃ k, s.fitted k = true ∧
    s.axisWritable k = true ∧ (takeSetAxis f s).1 = s.updAxis k fun x => { x with settings := f.settings } := by
  obtain e | ⟨k, fit, e⟩ := onFitted_state f.axis s _
  · exact .inl e
  · rw [takeSetAxis, e]
    dsimp only
    split
    · exact .inl rfl
    split
    · exact .inl rfl
    split
    · exact .inl rfl
    · next writable _ _ => exact .inr ⟨k, fit, by simpa using writable, rfl⟩

theorem takeSetAxis_sound (hs : s.carriagesSound) (f : AxisFields) : (takeSetAxis f s).1.carriagesSound := by
  have hsep := takeSetAxis_separated hs.separated (fun k => (hs.poised k).sound.lawful) f
  obtain e | ⟨k, fit, writable, e⟩ := takeSetAxis_state f s
  · rw [e]; exact hs
  · rw [e] at hsep ⊢
    refine hs.of_local fit (s.updAxis_board k _) (.updAxis s k _) hsep ((hs.poised k).updAxis_rests ?_)
    have r : s.Rests k := (hs.poised k).rests (by
      obtain e | ⟨e, -⟩ := (s.axisWritable_iff k).mp writable <;> simp [e])
    obtain ⟨hposition, htarget, hfeed⟩ := r.lawful
    exact r.updAxis r.state ⟨hposition, htarget, hfeed⟩ ⟨r.tracked.positioned, r.tracked.seeks, r.tracked.moves, r.tracked.feedsUp⟩

/-! ### HOME (R110) -/

/-- The limit switch, taken as an axis enters HOMING or SEEKING. -/
theorem State.limitOnEntry_ridesAt (nf : (s.axes.get k).state ≠ .feeding) (g : HeadId) : s.RidesAt (s.limitOnEntry k) g := by
  unfold State.limitOnEntry
  split
  · refine State.RidesAt.trans ?_ (s.limitStop_carriage k g).ridesAt
    exact State.updAxis_ridesAt (Axis.lost_recedes _ _) (fun hs => hs.lost (hs.rests nf).active _) g
  · exact .refl s g

/-- HOME starts (R110). -/
theorem State.Rests.startHome (r : s.Rests h) (now : Nat) : (s.updAxis h fun a => a.startHome now).Rests h := by
  refine r.updAxis (by simp [Axis.startHome, Axis.drive]) ⟨fun e => ?_, fun e => ?_, fun e => ?_⟩
    ⟨fun e => ?_, fun e => ?_, fun m hm => ?_, fun e => ?_⟩
  · simp [Axis.startHome, Axis.drive] at e
  · simp [Axis.startHome, Axis.drive] at e
  · simp [Axis.startHome, Axis.drive, r.feed] at e
  · simp [Axis.startHome, Axis.drive, Axis.homed] at e
  · simp [Axis.startHome, Axis.drive] at e
  · obtain rfl := Option.some.inj hm; rfl
  · simp [Axis.startHome, Axis.drive, r.feed] at e

/-- The axis of a head with no band comes to rest, and posts it. -/
theorem State.carriagesSound.of_arrival {w : Axis → Axis} {e : AxisEvent} (hs : s.carriagesSound) (fit : s.fitted k = true)
    (r : (s.updAxis k w).Rests k) (sep : ((s.updAxis k w).postAxis k e).separated) :
    ((s.updAxis k w).postAxis k e).carriagesSound := by
  refine hs.of_local fit ((s.updAxis_board k w).trans (State.postAxis_works _ k e).moves.board)
    ((State.Local.updAxis s k w).trans (.post _ k rfl _)) sep ?_
  exact State.SameCarriage.poised (s := s.updAxis k w) ⟨rfl, rfl, rfl, rfl, rfl, fun _ hc _ => hc⟩
    ((hs.poised k).updAxis_rests r)

/-- The axis of a head with no band sets out, and the limit switch is taken. -/
theorem State.carriagesSound.of_entry {w : Axis → Axis} (hs : s.carriagesSound) (fit : s.fitted k = true)
    (r : (s.updAxis k w).Rests k) (sep : ((s.updAxis k w).limitOnEntry k).separated) :
    ((s.updAxis k w).limitOnEntry k).carriagesSound := by
  have hlocal := State.Local.updAxis s k w
  have hboard := s.updAxis_board k w
  refine hs.of_tested fit (hboard.trans (State.limitOnEntry_works _ k).moves.board) sep (fun g => ?_) fun g ne =>
    ((hlocal.others g ne).narrows hboard).trans (State.limitOnEntry_narrows _ k g)
  refine ((State.limitOnEntry_ridesAt r.state g).keeps ?_).1
  by_cases e : g = k
  · exact e ▸ (hs.poised k).updAxis_rests r
  · exact ((hlocal.others g e).sameCarriage hboard hlocal.copy).poised (hs.poised g)

/-- What a HOME leaves: the card as it was, the home found at once, or the homing move, with the limit switch taken. -/
theorem takeHome_state (n : Nat) (s : State) : (takeHome n s).1 = s ∨ ∃ k, s.fitted k = true ∧
    (s.axes.get k).state ≠ .feeding ∧ ((takeHome n s).1 = (s.updAxis k Axis.foundHome).postAxis k .homed ∨
      (takeHome n s).1 = (s.updAxis k fun a => a.startHome s.clock).limitOnEntry k) := by
  obtain e | ⟨k, fit, e⟩ := onFitted_state n s _
  · exact .inl e
  · rw [takeHome, e]
    split
    · exact .inl rfl
    · next hr =>
      have nf : (s.axes.get k).state ≠ .feeding := fun e => by simp [State.homeRefusal, e] at hr
      split
      · exact .inr ⟨k, fit, nf, .inl rfl⟩
      · exact .inr ⟨k, fit, nf, .inr rfl⟩

theorem takeHome_sound (hs : s.carriagesSound) (n : Nat) : (takeHome n s).1.carriagesSound := by
  have hsep := takeHome_separated hs.separated n
  obtain e | ⟨k, fit, nf, e | e⟩ := takeHome_state n s
  · rw [e]; exact hs
  · rw [e] at hsep ⊢
    exact hs.of_arrival fit ((hs.poised k).rests nf).foundHome hsep
  · rw [e] at hsep ⊢
    exact hs.of_entry fit (((hs.poised k).rests nf).startHome s.clock) hsep

/-! ### SEEK (R112) -/

/-- A seek starts away from its target (R112). -/
theorem State.Rests.startSeek {target : Nat} (r : s.Rests h) (homed : (s.axes.get h).homed = true)
    (away : target ≠ (s.axes.get h).pos) (now : Nat) : (s.updAxis h fun a => a.startSeek target now).Rests h := by
  obtain ⟨p, hp⟩ := Option.isSome_iff_exists.mp (r.tracked.positioned homed)
  have hpos : (s.axes.get h).pos = p := by simp [Axis.pos, hp]
  rw [hpos] at away
  refine r.updAxis (by simp [Axis.startSeek, Axis.drive]) ⟨fun _ => rfl, fun _ => rfl, fun e => ?_⟩
    ⟨fun _ => ?_, fun _ => ⟨p, target, _, hp, rfl, rfl, ?_⟩, fun m hm => ?_, fun e => ?_⟩
  · simp [Axis.startSeek, Axis.drive, r.feed] at e
  · simp [Axis.startSeek, Axis.drive, hp]
  · simp only [Axis.moveTo, Axis.pos, hp, Option.getD_some]
    split
    · simp only [Axis.moveOf, if_true]; omega
    · simp only [Axis.moveOf, Bool.false_eq_true, if_false]; omega
  · obtain rfl := Option.some.inj hm; rfl
  · simp [Axis.startSeek, Axis.drive, r.feed] at e

/-- What a SEEK leaves: the card as it was, or the seek of a homed axis with no band. -/
theorem takeSeek_state (f : SeekFields) (s : State) : (takeSeek f s).1 = s ∨ ∃ k target, s.fitted k = true ∧
    (s.axes.get k).homed = true ∧ (s.axes.get k).state ≠ .feeding ∧ (takeSeek f s).1 = s.seekTo k target := by
  unfold takeSeek
  split
  · exact .inl rfl
  · next k _ =>
    dsimp only
    split
    · next fit =>
      split
      · exact .inl rfl
      · next hr =>
        obtain ⟨homed, nf, -⟩ := State.seekRefusal_passes hr fit
        split
        · exact .inr ⟨k, _, fit, homed, nf, rfl⟩
        · exact .inl rfl
    · exact .inl rfl

theorem takeSeek_sound (hs : s.carriagesSound) (f : SeekFields) : (takeSeek f s).1.carriagesSound := by
  have hsep := takeSeek_separated hs.separated f
  obtain e | ⟨k, target, fit, homed, nf, e⟩ := takeSeek_state f s
  · rw [e]; exact hs
  · rw [e] at hsep ⊢
    have r := (hs.poised k).rests nf
    unfold State.seekTo at hsep ⊢
    split at hsep
    · next there =>
      rw [if_pos there]
      exact hs.of_arrival fit (r.rest homed) hsep
    · next away =>
      rw [if_neg away]
      exact hs.of_entry fit (r.startSeek homed away s.clock) hsep

/-! ### ENGRAVE (R126 to R129) -/

/-- A band whose fields are acceptable has tracks, and a screen with a pitch (R20, R126). -/
theorem State.bandOf_fits {f : EngraveFields} (hb : s.bandOf f = some b) (pitched : s.screensPitched) : s.bandFits b := by
  unfold State.bandOf at hb
  split at hb
  · split at hb
    · cases hb
    · next fields =>
      obtain rfl := Option.some.inj hb
      have hpitch := pitched f.screen fun e => fields (.inr (.inl e))
      exact ⟨show 1 ≤ f.count by omega, le_refl f.first, Nat.le_add_right f.first f.count, hpitch⟩
  · cases hb
  · cases hb

/-- What an ENGRAVE leaves: the card as it was, the band active, or the band pending. -/
theorem takeEngrave_state (f : EngraveFields) (s : State) : (takeEngrave f s).1 = s ∨ ∃ h b, s.fitted h = true ∧
    s.bandOf f = some b ∧ (s.axes.get h).homed = true ∧
      (s.held h = [] ∧ (takeEngrave f s).1 = s.activate h b ∨
        s.held h ≠ [] ∧ (takeEngrave f s).1 = s.updBands h fun q => { q with waiting := some b }) := by
  obtain e | ⟨h, fit, e⟩ := onFitted_state f.head s _
  · exact .inl e
  · rw [takeEngrave, e]
    split
    · exact .inl rfl
    · next b hb =>
      split
      · exact .inl rfl
      · next hr =>
        have homed := State.acceptanceFailure_homed hr fit
        split
        · next free =>
          unfold engraveActive
          split
          · exact .inl rfl
          · exact .inr ⟨h, b, fit, hb, homed, .inl ⟨by simpa using free, rfl⟩⟩
        · next held => exact .inr ⟨h, b, fit, hb, homed, .inr ⟨by simpa using held, rfl⟩⟩

theorem takeEngrave_sound (hs : s.carriagesSound) (f : EngraveFields) : (takeEngrave f s).1.carriagesSound := by
  have hsep := takeEngrave_separated hs.separated f
  obtain e | ⟨h, b, fit, hb, homed, ⟨free, e⟩ | ⟨held, e⟩⟩ := takeEngrave_state f s
  · rw [e]; exact hs
  · rw [e] at hsep ⊢
    have r := (hs.poised h).sound.rests_of_free free
    obtain ⟨p, hp⟩ := Option.isSome_iff_exists.mp (r.tracked.positioned homed)
    have htaken : (s.taken h b).PoisedAt h := State.taken_poised r.active hp (State.bandOf_fits hb hs.screensPitched)
      (fun c hc => by simp [r.waiting] at hc) r.empty (hs.poised h).owned
    have same : ∀ g, g ≠ h → s.SameCarriage (s.taken h b) g := fun g ne =>
      ((s.taken_local h b).others g ne).sameCarriage (s.taken_board h b) (s.taken_local h b).copy
    refine hs.of_tested fit (s.activate_board h b) hsep (fun g => ((s.activate_ridesAt h b g).keeps ?_).1)
      fun g ne => (same g ne).narrows.trans (s.activate_narrows h b g)
    by_cases e : g = h
    · exact e ▸ htaken
    · exact (same g e).poised (hs.poised g)
  · rw [e] at hsep ⊢
    refine hs.of_local fit (State.Moves.updBands s h _).board (.updBands s h _) hsep ?_
    have hactive : (s.updBands h fun q => { q with waiting := some b }).active h = s.active h := by
      simp [State.active, State.updBands]
    cases ha : s.active h with
    | none => exact absurd ((hs.poised h).sound.rests ha).free held
    | some c =>
      obtain ⟨fc, x, r⟩ := (hs.poised h).sound.rides ha
      refine (hs.poised h).of_rides ⟨hactive.trans ha, r.under, r.fits, fun d hd => ?_, r.loads⟩ rfl rfl
      obtain rfl : b = d := by simpa [State.updBands] using hd
      exact State.bandOf_fits hb hs.screensPitched

/-! ### SET_MACHINE (R15) -/

/-- The heads that a SET_MACHINE may leave unfitted hold no band (R15). -/
theorem takeSetMachine_state (f : MachineFields) (s : State) : (takeSetMachine f s).1 = s ∨
    ∃ m : MachineSettings, (takeSetMachine f s).1 = s.writeMachine m ∧ (s.anyHeld = false ∨ m.fitted = s.machine.fitted) := by
  unfold takeSetMachine
  split
  · exact .inl rfl
  · next quiet =>
    split
    · exact .inl rfl
    · next edge _ =>
      split
      · exact .inl rfl
      split
      · refine .inr ⟨f.settings edge, rfl, ?_⟩
        by_contra ne
        obtain ⟨held, changed⟩ := not_or.mp ne
        exact quiet (by simp [held, show f.fitted ≠ s.machine.fitted from changed])
      · exact .inl rfl

theorem takeSetMachine_sound (hs : s.carriagesSound) (f : MachineFields) : (takeSetMachine f s).1.carriagesSound := by
  have hsep := takeSetMachine_separated hs.separated f
  obtain e | ⟨m, e, quiet⟩ := takeSetMachine_state f s
  · rw [e]; exact hs
  rw [e] at hsep ⊢
  have idle : ∀ g : HeadId, m.fitted ≤ g.val → g.val < s.machine.fitted → s.active g = none := fun g low high => by
    obtain free | same := quiet
    · exact State.active_of_anyHeld free g
    · omega
  let t : State := { s with
      machine := m
      ctu := { s.ctu.afterSetting (decide (m.indexEdge ≠ s.machine.indexEdge)) m.reportRevs with
        acting := s.ctu.acting.afterSetting m.fitted } }
  obtain ⟨heads, axes, ht, -, haxes⟩ := State.unfit_heads heads4 (by decide) s.machine.fitted t idle
  have ht' : s.writeMachine m = { t with heads := heads, axes := axes } := ht
  rw [ht'] at hsep ⊢
  have hmem := mem_heads4
  obtain ⟨written, rest⟩ := hs.unfittedRest
  refine (State.carriagesSound_iff _).mpr ⟨hsep, ⟨Nat.min_le_right _ _, fun k hk => ?_⟩, hs.screensPitched, fun g => ?_⟩
  · show (axes.get k).state = .unhomed
    rw [haxes]
    split
    · rfl
    · next kept =>
      refine rest k ?_
      rw [Bool.eq_false_iff, Ne, State.fitted_iff] at hk ⊢
      have hmin : ¬k.val < min s.ctu.acting.fitted m.fitted := hk
      have hkept : ¬(m.fitted ≤ k.val ∧ k.val < s.machine.fitted) := fun e => kept ⟨hmem k, e⟩
      omega
  · by_cases gone : m.fitted ≤ g.val ∧ g.val < s.machine.fitted
    · have hlost := (hs.poised g).lost (idle g gone.1 gone.2) .none
      refine State.SameCarriage.poised (s := s.updAxis g fun a => a.lost .none) ⟨?_, rfl, rfl, rfl, rfl, fun _ hc _ => hc⟩ hlost
      rw [State.updAxis_get_same]
      exact (haxes g).trans (if_pos ⟨hmem g, gone⟩)
    · refine State.SameCarriage.poised (s := s) ⟨?_, rfl, rfl, rfl, rfl, fun _ hc _ => hc⟩ (hs.poised g)
      exact (haxes g).trans (if_neg fun e => gone e.2)

/-! ### SET_SCREEN (R19 to R22) -/

theorem State.setScreen_screen (s : State) (i : Fin 16) (w : Screen) (j : Nat) :
    (s.setScreen i w).screen j = if i.val = j then w else s.screen j := by
  simp only [State.screen, State.setScreen_screens, Vector.getElem?_set]
  split <;> simp

/-- The held bands' screens are not the entry that no held band names. -/
theorem State.setScreen_held (free : s.screenInUse i.val = false) (w : Screen) (hb : b ∈ s.held g) :
    (s.setScreen i w).screen b.screen = s.screen b.screen := by
  rw [State.setScreen_screen, if_neg fun e => ?_]
  have := (s.screenInUse_iff i.val).mpr ⟨g, b, hb, e.symm⟩
  simp [free] at this

theorem State.setScreen_poised (free : s.screenInUse i.val = false) (w : Screen) (hs : s.PoisedAt g) :
    (s.setScreen i w).PoisedAt g := by
  refine ⟨?_, hs.owned⟩
  cases hb : s.active g with
  | none =>
    obtain ⟨active, waiting, state, lawful, tracked, empty⟩ := hs.sound.rests hb
    exact State.Rests.sound ⟨active, waiting, state, lawful, tracked, empty⟩
  | some b =>
    obtain ⟨f, x, r⟩ := hs.sound.rides hb
    have fits : ∀ c ∈ s.held g, s.bandFits c → (s.setScreen i w).bandFits c := fun c hc hfits => by
      rwa [State.bandFits, State.setScreen_held free w hc]
    have hmem : b ∈ s.held g := State.mem_held_iff.mpr (.inl hb)
    refine State.Rides.sound (b := b) (f := f) (x := x) ⟨hb, ?_, fits b hmem r.fits,
      fun c hc => fits c (State.mem_held_iff.mpr (.inr hc)) (r.waits c hc), r.loads⟩
    rw [State.setScreen_held free w hmem]
    exact r.under

/-- An entry that no held band names is written. -/
theorem State.setScreen_sound (hs : s.carriagesSound) (free : s.screenInUse i.val = false) (w : Screen)
    (pitched : w.n ≠ 0 → 1 ≤ w.pitch) : (s.setScreen i w).carriagesSound := by
  have narrows : ∀ g, s.Narrows (s.setScreen i w) g := fun g => by
    refine State.SameStand.narrows ⟨rfl, rfl, rfl, rfl, ?_⟩
    refine congrArg List.flatten (List.map_congr_left fun b hb => ?_)
    rw [State.extents, State.setScreen_held free w hb, State.extents]
  obtain ⟨written, rest⟩ := hs.unfittedRest
  refine (State.carriagesSound_iff _).mpr ⟨State.separated_of_narrows hs.separated rfl le_rfl narrows, ⟨written, rest⟩, fun j => ?_,
    fun g => State.setScreen_poised free w (hs.poised g)⟩
  rw [State.setScreen_screen]
  split
  · exact pitched
  · exact hs.screensPitched j

theorem takeSetScreen_sound (hs : s.carriagesSound) (f : ScreenFields) : (takeSetScreen f s).1.carriagesSound := by
  unfold takeSetScreen
  split
  · split
    · unfold writeScreen
      split
      · exact hs
      next used =>
      have free : s.screenInUse f.screen = false := by simpa using used
      split
      · exact State.setScreen_sound (i := ⟨f.screen, _⟩) hs free _ fun e => absurd rfl e
      split
      · exact hs
      · next inside =>
        refine State.setScreen_sound (i := ⟨f.screen, _⟩) hs free _ fun _ => ?_
        simp only [Bool.or_eq_true, outside_iff, not_or, not_lt] at inside
        exact inside.2.1
    · exact hs
    · exact hs
    · exact hs
  · exact hs

end Sys2Proof.Machine
end

section
/-! Every command keeps the laws of O14: the requests with their owners, the link's receiver and the events. -/

namespace Sys2Proof.Machine

variable {s t : State}

/-! ### Requests (R164, R165) -/

theorem State.request_sound {α : Type} {owner : α → State → State × Response} (hs : s.carriagesSound) (f : Frame)
    (fields : Option α) (owns : ∀ a (u : State), u.carriagesSound → (owner a u).1.carriagesSound) :
    (s.request f fields owner).carriagesSound := by
  have handed : s.handed.carriagesSound := (State.Carried.setLink s _).sound hs
  obtain ⟨-, e⟩ | ⟨-, -, e⟩ | ⟨a, -, -, e⟩ := s.request_cases f fields owner <;> rw [e]
  · exact (State.Carried.setLink s _).sound hs
  · exact (State.Carried.setLink s.handed _).sound handed
  · exact (State.Carried.setLink _ _).sound (owns a s.handed handed)

theorem State.settled_carried (s : State) : s.Carried s.settled := .setLink s _

theorem State.done_sound {u : State} (hu : u.carriagesSound) (ht : u.done = .next t) : t.carriagesSound := by
  obtain rfl := Host.Outcome.next.inj ht
  exact u.settled_carried.sound hu

/-- A request whose owner keeps every head's laws and narrows spans. -/
theorem State.request_carried {α : Type} {owner : α → State → State × Response} (hs : s.carriagesSound) (f : Frame)
    (fields : Option α) (owns : ∀ a (u : State), u.Carried (owner a u).1) :
    (s.request f fields owner).carriagesSound :=
  State.request_sound hs f fields fun a u hu => (owns a u).sound hu

/-- A request command, whether it is handed, listed or dropped. -/
theorem exec_request_sound {c : Instr} {f : Frame} (hs : s.carriagesSound) (hc : frameOf c = some f)
    (ht : exec c s = .next t) : t.carriagesSound := by
  have asks : ∀ (f : HeadId → List Byte) (n : Nat) (u : State), u.Carried (onFitted n u fun h => (u, Response.ok (f h))).1 :=
    fun _ n u => onFitted_carried n fun _ => .refl u
  cases c
  case setMachine => exact State.done_sound (State.request_sound hs _ _ fun a _ hu => takeSetMachine_sound hu a) ht
  case setAxis => exact State.done_sound (State.request_sound hs _ _ fun a _ hu => takeSetAxis_sound hu a) ht
  case setScreen => exact State.done_sound (State.request_sound hs _ _ fun a _ hu => takeSetScreen_sound hu a) ht
  case engrave => exact State.done_sound (State.request_sound hs _ _ fun a _ hu => takeEngrave_sound hu a) ht
  case home => exact State.done_sound (State.request_sound hs _ _ fun a _ hu => takeHome_sound hu a) ht
  case seek => exact State.done_sound (State.request_sound hs _ _ fun a _ hu => takeSeek_sound hu a) ht
  case setHead => exact State.done_sound (State.request_carried hs _ _ takeSetHead_carried) ht
  case setCurve => exact State.done_sound (State.request_carried hs _ _ takeSetCurve_carried) ht
  case setPatch => exact State.done_sound (State.request_carried hs _ _ takeSetPatch_carried) ht
  case setMonitor => exact State.done_sound (State.request_carried hs _ _ takeSetMonitor_carried) ht
  case setNotice => exact State.done_sound (State.request_carried hs _ _ takeSetNotice_carried) ht
  case track => exact State.done_sound (State.request_carried hs _ _ takeTrack_carried) ht
  case dropTracks => exact State.done_sound (State.request_carried hs _ _ takeDropTracks_carried) ht
  case storeClear => exact State.done_sound (State.request_carried hs _ _ takeStoreClear_carried) ht
  case stopBand => exact State.done_sound (State.request_carried hs _ _ takeStopBand_carried) ht
  case abortBand => exact State.done_sound (State.request_carried hs _ _ takeAbortBand_carried) ht
  case readResult => exact State.done_sound (State.request_carried hs _ _ takeReadResult_carried) ht
  case axisHalt => exact State.done_sound (State.request_carried hs _ _ takeAxisHalt_carried) ht
  case headClear => exact State.done_sound (State.request_carried hs _ _ takeHeadClear_carried) ht
  case monitorRun => exact State.done_sound (State.request_carried hs _ _ takeMonitorRun_carried) ht
  case monitorHalt => exact State.done_sound (State.request_carried hs _ _ takeMonitorHalt_carried) ht
  case alarmAck => exact State.done_sound (State.request_carried hs _ _ takeAlarmAck_carried) ht
  case moduleReset => exact State.done_sound (State.request_carried hs _ _ takeModuleReset_carried) ht
  case getStatus => exact State.done_sound (State.request_carried hs _ _ takeGetStatus_carried) ht
  case getCylinder => exact State.done_sound (State.request_carried hs _ _ fun _ u => .refl u) ht
  case getStore => exact State.done_sound (State.request_carried hs _ _ fun _ u => .refl u) ht
  case getMonitor => exact State.done_sound (State.request_carried hs _ _ fun _ u => .refl u) ht
  case getHead => exact State.done_sound (State.request_carried hs _ _ fun n u => asks _ n u) ht
  case getAxis => exact State.done_sound (State.request_carried hs _ _ fun n u => asks _ n u) ht
  case unknownKindRequest =>
    refine State.done_sound ?_ ht
    split
    · exact hs
    · exact State.request_carried hs _ _ fun _ u => .refl u
  all_goals simp [frameOf] at hc

/-! ### The receiver (R162 to R164) -/

theorem State.served_sound (hs : s.carriagesSound) (f : Frame) : (s.served f).carriagesSound := by
  unfold State.served
  split
  · next t ht =>
    rw [State.serve_eq] at ht
    obtain ⟨g, hg⟩ := frameOf_requestOf f
    exact exec_request_sound hs hg ht
  · exact hs
  · exact hs

theorem State.handAll_sound (hs : s.carriagesSound) : s.handAll.carriagesSound :=
  State.handUpTo_keeps State.carriagesSound (fun _ f hu _ => State.served_sound hu f) s hs _

theorem scan_sound (hs : s.carriagesSound) (fuel : Nat) (bytes : List Byte) : (scan fuel bytes s).carriagesSound :=
  scan_keeps State.carriagesSound (fun u _ hu => State.handAll_sound ((State.Carried.setLink u _).sound hu))
    (fun u _ hu => (State.Carried.setLink u _).sound hu) (fun u _ hu => (State.Carried.setLink u _).sound hu) fuel bytes s hs

theorem State.receive_sound (hs : s.carriagesSound) (bytes : List Byte) : (s.receive bytes).carriagesSound := by
  unfold State.receive
  split
  · exact hs
  · exact scan_sound (s := s.freshStall) ((State.Carried.setLink s _).sound hs) ..

theorem State.stalled_sound (hs : s.carriagesSound) : s.stalled.carriagesSound := by
  unfold State.stalled
  split
  · exact hs
  · exact scan_sound (s := s.freshStall.discardFrame .stall)
      (((State.Carried.setLink s _).trans (State.Carried.setLink s.freshStall _)).sound hs) ..

/-! ### Events -/

theorem State.powerOn_sound (s : State) : s.powerOn.carriagesSound :=
  (State.Carried.of_same (s := State.reset) (t := s.powerOn) rfl rfl rfl rfl rfl rfl rfl).sound State.reset_carriagesSound

theorem State.setPins_carried (s : State) (p : Pins) : s.Carried { s with pins := p } := .of_same rfl rfl rfl rfl rfl rfl rfl

theorem State.reach_axes (s : State) (due : Nat) : (s.reach due).axes = s.axes := by simp [State.reach]

theorem State.rampStep_carried (h : HeadId) {r : Ramp} (hr : (s.heads.get h).ramp = some r) : s.Carried (s.rampStep h r) :=
  (State.rampStep_works hr).carried fun g => (s.updHead_ridesAt h _ g).trans (State.onReport_ridesAt _ h _ g)

/-- An event of the card's own or of its lines, which no frame carries. -/
theorem exec_event_sound {c : Instr} (hs : s.carriagesSound) (hc : frameOf c = none) (ht : exec c s = .next t) :
    t.carriagesSound := by
  have elapsed : ∀ n, (s.elapse n).carriagesSound := fun n => (State.Carried.elapse s n).sound hs
  cases c
  case powerOn => exact State.done_sound s.powerOn_sound ht
  case moduleResetEffect =>
    refine State.done_sound ?_ ht
    split
    · exact s.powerOn_sound
    · exact hs
  case countEvent forward =>
    exact State.done_sound (((State.judgeCount_carried _ forward).trans (State.presentAll_carried _)).sound
      (State.count_sound hs forward)) ht
  case indexEvent =>
    refine State.done_sound ?_ ht
    split
    · exact hs
    · split
      · exact (State.Carried.setCtu s (c := s.ctu.origin s.timestamp) rfl).sound hs
      · exact s.judgeIndex_carried.sound hs
  case stoppedTimeout =>
    refine State.done_sound ?_ ht
    split
    · exact hs
    · have passed := elapsed (stoppedLimit - s.ctu.stoppedTimer)
      dsimp only
      generalize s.elapse (stoppedLimit - s.ctu.stoppedTimer) = u at passed ⊢
      exact (u.timingFault_carried .stopped (c := u.ctu.stopped) rfl).sound passed
  case readyLineChange =>
    refine State.done_sound (State.Carried.sound (s := s) ?_ hs) ht
    exact .of_same rfl rfl rfl rfl rfl rfl rfl
  case readyDebounceExpiry =>
    refine State.done_sound ?_ ht
    split
    · exact hs
    · exact (State.takeReady_carried _).sound (elapsed _)
  case frameReceived bytes => exact State.done_sound (State.receive_sound hs bytes) ht
  case stallTimeout =>
    refine State.done_sound ?_ ht
    split
    · exact hs
    · exact State.stalled_sound (elapsed _)
  case frameSent =>
    refine State.done_sound ?_ ht
    split
    · exact hs
    · exact State.handAll_sound (((State.Carried.setLink _ _).trans (State.settled_carried _)).sound (elapsed _))
  case rampUpdate h =>
    refine State.done_sound ?_ ht
    split
    · exact hs
    · next r hr =>
      refine (State.rampStep_carried h ?_).sound (elapsed _)
      simpa [State.reach, State.elapse_heads] using hr
  case settleExpiry h =>
    refine State.done_sound ?_ ht
    split
    · exact hs
    · next n _ =>
      have settled : (s.elapse n).Carried ((s.elapse n).updHead h Head.settleOver) :=
        .of_same rfl rfl rfl rfl rfl rfl rfl
      exact (settled.trans ((State.onEngaged_works _ h).carried (State.onEngaged_ridesAt _ h))).sound (elapsed n)
  case dwellExpiry h =>
    refine State.done_sound ?_ ht
    split
    · exact hs
    · exact ((State.retractOrder_works _ h).carried (State.retractOrder_ridesAt _ h)).sound (elapsed _)
  case moveStep k =>
    refine State.done_sound ?_ ht
    split
    · exact hs
    · next m hm =>
      exact ((State.moveStep_works _ k m).carried (State.moveStep_ridesAt (by rw [State.reach_axes]; exact hm))).sound (elapsed _)
  case homeSensorActive k level =>
    refine State.done_sound ?_ ht
    have pinned := s.setPins_carried { s.pins with homeSensor := s.pins.homeSensor.set k level }
    dsimp only
    split
    · exact (pinned.trans ((State.homeFound_works _ k).carried (State.homeFound_ridesAt _ k))).sound hs
    · exact pinned.sound hs
  case limitSwitchActive k level =>
    exact State.done_sound (((s.setPins_carried _).trans
      ((State.limitCheck_works _ k).carried (State.limitCheck_ridesAt _ k))).sound hs) ht
  case copyComplete =>
    refine State.done_sound ?_ ht
    split
    · exact hs
    · next c hc =>
      have flying : (s.reach c.done).fetch.copy = some c := by simpa [State.reach] using hc
      exact ((State.finishCopy_works _ c).carried (State.finishCopy_ridesAt flying)).sound (elapsed _)
  case patchFillComplete h =>
    refine State.done_sound ?_ ht
    split
    · exact hs
    · exact ((State.finishFill_works _ h).carried (State.finishFill_ridesAt _ h)).sound (elapsed _)
  case conversionComplete =>
    refine State.done_sound ?_ ht
    split
    · exact hs
    · exact (s.completeConversion_carried ..).sound hs
  all_goals simp [frameOf] at hc

/-! ### Steps -/

theorem exec_sound {c : Instr} (hs : s.carriagesSound) (ht : exec c s = .next t) : t.carriagesSound := by
  cases hc : frameOf c with
  | none => exact exec_event_sound hs hc ht
  | some f => exact exec_request_sound hs hc ht

theorem step_sound (hs : s.carriagesSound) (ht : step s = .next t) : t.carriagesSound := by
  unfold step at ht
  split at ht
  · next rest _ =>
    have waiting : s.Carried { s with pending := rest } := .of_same rfl rfl rfl rfl rfl rfl rfl
    exact exec_sound (waiting.sound hs) ht
  · unfold State.idle at ht
    split at ht
    · exact exec_sound hs ht
    · obtain rfl := Host.Outcome.next.inj ht
      exact (State.Carried.elapse s 1).sound hs

end Sys2Proof.Machine

open Sys2Proof Sys2Proof.Machine

/-- Settles O14: every change that no request tests narrows the spans and keeps each head poised (`State.Carried`), and the
five requests that widen a span test the separation law first. -/
theorem carriagesStaySeparated : Obligations.CarriagesStaySeparated :=
  ⟨State.reset_carriagesSound, fun _ _ => step_sound, fun s k j lower upper hs hj fit hk hu =>
    s.separated_iff.mp hs.separated k j hj fit lower upper hk hu⟩
end
